-- ==== Sys2Proof/Word.lean ====
section
/-! DEFINITION. The word types of the K640's records and links, and the fixed-length tables that State is made of.
Widths follow Record Layouts (R184): codes are bytes, references and copy ids 16 bits, CLOCK, serials and tags 32 bits. -/

namespace Sys2Proof

abbrev Byte := BitVec 8
abbrev W16 := BitVec 16
abbrev W32 := BitVec 32

/-- Record numbers of the fixed tables: slots (R161), orders (R19), sessions (R2), stations and bays (R1, R103),
printers (R79), apertures (R150), unit status records (R161). -/
abbrev SlotId := Fin 64
abbrev OrderId := Fin 32
abbrev SessionId := Fin 8
abbrev StationId := Fin 4
abbrev BayId := Fin 4
abbrev PrinterId := Fin 2
abbrev ApertureId := Fin 8
abbrev UnitId := Fin 12

/-- The entry of a fixed-length table. -/
def look {α : Type} {n : Nat} (t : Vector α n) (i : Fin n) : α := t[i.val]

/-- A table with one entry changed. -/
def upd {α : Type} {n : Nat} (t : Vector α n) (i : Fin n) (f : α → α) : Vector α n := t.set i.val (f t[i.val])

end Sys2Proof
end

