-- ==== Sys2Proof/Config.lean ====
section
/-! DEFINITION. What the K640 fixes for every part: the identity codes of the PART word (R184), the ranges and defaults of the
four timer settings (R178), the lengths of the fixed timers and the sizes of the tables and lists. -/

namespace Sys2Proof.Config

/-- R184: the PART word's identity fields. -/
def vendorCode : Nat := 0x3A71
def partCode : Nat := 0x64
def revision : Nat := 1

/-- R178: range and default of each timer setting, in seconds. -/
def idleMin : Nat := 30
def idleMax : Nat := 600
def idleDefault : Nat := 180
def holdMin : Nat := 60
def holdMax : Nat := 900
def holdDefault : Nat := 300
def authMin : Nat := 30
def authMax : Nat := 180
def authDefault : Nat := 90
def graceMin : Nat := 30
def graceMax : Nat := 600
def graceDefault : Nat := 120

/-- Timers of whole seconds, shown or kept as CLOCK deadlines: R16, R17, R81, R84, R89, R129, R134, R136, R137. -/
def noticeSeconds : Nat := 10
def minimumOnSeconds : Nat := 2
def printerWatchSeconds : Nat := 1
def beginAnswerSeconds : Nat := 2
def abortAnswerSeconds : Nat := 2
def terminalWatchSeconds : Nat := 3
def cardWaitSeconds : Nat := 2
def terminalAbortSeconds : Nat := 5
def answerSeconds : Nat := 5

/-- Timers of milliseconds: R104, R107, R108, R87, R155, R116, R117. -/
def settleMs : Nat := 250
def identifyMs : Nat := 100
def blockMs : Nat := 250
def underrunMs : Nat := 500
def transferMs : Nat := 50
def giveBackWaitMs : Nat := 2000
def stallMs : Nat := 30000

/-- R62: a printer reports at most 4,000 units. -/
def maxStock : Nat := 4000
/-- R24: items of an order. -/
def maxItems : Nat := 24
/-- R22: non-final orders of a session. -/
def maxNonFinal : Nat := 2
/-- R112: waiting reads of a bay. -/
def maxWaitingReads : Nat := 4
/-- R143: entries of the void list. -/
def maxVoids : Nat := 16
/-- R156: transfers in progress at once. -/
def maxInProgress : Nat := 4
/-- R56: the largest total. -/
def maxTotal : Nat := 9999999
/-- R145: the value at which a till figure stays. -/
def maxTill : Nat := 4294967295
/-- R80, R101, R125, R148: the value at which a 16-bit count stops. -/
def maxCount : Nat := 65535
/-- R150: the end of host memory. -/
def hostMemoryEnd : Nat := 2 ^ 64
/-- R150: the largest limit of an aperture. -/
def maxLimit : Nat := 4294967296

end Sys2Proof.Config
end

