-- ==== Sys2Proof/Syntax.lean ====
section
/-! DEFINITION. The commands of the K640, one constructor per row of the table of operations and events. A command is one whole step:
a host write, the taking of a posted slot, a timer running out, a frame or a pin event. The operands are what reaches the part from
outside in that step. The takings carry none: the request stands in the slot at the head of the intake list (R170). -/

namespace Sys2Proof

/-- State codes of a STATUS frame (R185). A frame with another code is a discarded frame. -/
inductive Report where
  | ready | printing | paused | faulted
  deriving DecidableEq, Repr

/-- Head temperature classes (R101, R185). -/
inductive HeadClass where
  | cool | warm | hot
  deriving DecidableEq, Repr

/-- The five live conditions a STATUS frame reports (R94), bits 0 to 4 of its conditions byte (R185). -/
structure Conditions where
  jam : Bool
  mediaOut : Bool
  overheat : Bool
  doorOpen : Bool
  headCooling : Bool
  deriving DecidableEq, Repr

/-- The payload of a good STATUS frame (R185). The last result is kept as its code byte, because an unknown code is taken as ABORTED (R90). -/
structure StatusFrame where
  report : Report
  conditions : Conditions
  head : HeadClass
  lastResult : Byte
  lastCopy : W16
  consumed : Byte
  stock : W16
  pack : W32
  deriving DecidableEq, Repr

/-- How the link ends a transfer (R155). `good` carries the bytes a READ transfer fetched, and none for a WRITE transfer. -/
inductive TransferReport where
  | good (data : List Byte)
  | unsuccessful
  | poisoned
  deriving DecidableEq, Repr

/-- The strip writes that are no command (R166): a narrower write, an unaligned write, an aligned write of an unknown code. -/
inductive StripMisuse where
  | narrow
  | unaligned
  | unknownCode (code : Byte)
  deriving DecidableEq, Repr

/-- One constructor per row of the table. -/
inductive Instr where
  | powerOn
  | resetNHigh
  | partReset
  | linkDown
  | hotReset
  | enterRun
  | clockTick
  | slotRequestWrite (slot : SlotId) (offset : Nat) (data : List Byte)
  | windowWriteDiscarded (offset : Nat) (data : List Byte)
  | attn (value : W32)
  | attnEnable (value : W32)
  | unitChanged (value : W32)
  | orderChanged (value : W32)
  | post (slot : SlotId)
  | cancel (slot : SlotId)
  | release (slot : SlotId)
  | giveBack (slot : SlotId)
  | stripWriteRefused (slot : SlotId) (misuse : StripMisuse)
  | unknownKind
  | openSession
  | closeSession
  | openOrder
  | addItem
  | changeItem
  | removeItem
  | setPromo
  | quote
  | pay
  | cancelOrder
  | retireOrder
  | readCard
  | loadPrices
  | setAperture
  | setTimers
  | shiftClose
  | resetUnit
  | printerService
  | idleExpiry (session : SessionId)
  | paymentNoticeExpiry (station : StationId)
  | minimumOnTimeExpiry (station : StationId)
  | blinkToggle (station : StationId)
  | quoteHoldExpiry (order : OrderId)
  | faultGraceExpiry (printer : PrinterId)
  | status (printer : PrinterId) (frame : StatusFrame)
  | nextStripe (printer : PrinterId) (stripe : W16)
  | hold (printer : PrinterId)
  | resume (printer : PrinterId)
  | copyDone (printer : PrinterId) (copyId : W16) (result : Byte) (consumed : Byte)
  | printerFrameDiscarded (printer : PrinterId) (raw : List Byte)
  | printerLinkWatchExpiry (printer : PrinterId)
  | beginAnswerLimitExpiry (printer : PrinterId)
  | abortAnswerLimitExpiry (printer : PrinterId)
  | underrunTimerExpiry (printer : PrinterId) (stripe : Nat)
  | stripeSent (printer : PrinterId)
  | transferEnd (index : Nat) (report : TransferReport)
  | transferNoCompletion (index : Nat)
  | contactClose (bay : BayId)
  | settleTimerExpiry (bay : BayId)
  | contactOpen (bay : BayId)
  | identifyAnswer (bay : BayId) (capacity : W32) (serial : W32) (check : W16)
  | identifyLimitExpiry (bay : BayId)
  | blockArrival (bay : BayId) (data : List Byte) (check : W16)
  | blockLimitExpiry (bay : BayId)
  | giveBackWaitExpiry (bay : BayId)
  | stallLimitExpiry (bay : BayId)
  | ready
  | cardWait (reference : W16)
  | approved (reference : W16) (amount : W32) (code : List Byte)
  | declined (reference : W16) (reason : Byte)
  | timedOut (reference : W16)
  | aborted (reference : W16)
  | captured (reference : W16) (amount : W32)
  | voided (reference : W16)
  | refused (reference : W16) (reason : Byte)
  | terminalFrameDiscarded (raw : List Byte) (gap : Bool)
  | terminalLinkWatchExpiry
  | cardWaitLimitExpiry
  | authorizationLimitExpiry
  | terminalAbortAnswerExpiry
  | answerLimitExpiry
  | msiEnable (on : Bool)
  | pcieLinkUp
  deriving DecidableEq, Repr

end Sys2Proof
end

