-- ==== Sys2Proof/Machine/Links.lean ====
section
/-! DEFINITION. The bytes of the three links: the checks of R80, R107, R108 and R127, the framing of R185, the receiver of each frame
link, and the byte form of every frame and card command the part sends, and the bytes of a card's answers. -/

namespace Sys2Proof.Machine

/-- `n` bytes of a number, least significant first. -/
def leBytes : Nat → Nat → List Byte
  | 0, _ => []
  | n + 1, v => BitVec.ofNat 8 v :: leBytes n (v / 256)

/-- The number that bytes spell, least significant first. -/
def ofLeBytes : List Byte → Nat
  | [] => 0
  | b :: rest => b.toNat + 256 * ofLeBytes rest

/-- `n` bytes of a number, most significant first (card port and CRC, R185). -/
def beBytes (n v : Nat) : List Byte := (leBytes n v).reverse

/-- One bit of the CRC-16 of R80: generator x^16 + x^12 + x^5 + 1, most significant bit first. -/
def crc16Bit (c : W16) : W16 := if c.msb then (c <<< 1) ^^^ 0x1021#16 else c <<< 1

def crc16Byte (c : W16) (b : Byte) : W16 :=
  crc16Bit (crc16Bit (crc16Bit (crc16Bit (crc16Bit (crc16Bit (crc16Bit (crc16Bit (c ^^^ (b.zeroExtend 16 <<< 8)))))))))

/-- R80, R107: the CRC-16 of the printer link and the card port, initial value all ones, no final inversion. -/
def crc16 (bytes : List Byte) : W16 := bytes.foldl crc16Byte 0xFFFF#16

/-- One bit of the CRC-8 of R127: generator x^8 + x^2 + x + 1, most significant bit first. -/
def crc8Bit (c : Byte) : Byte := if c.msb then (c <<< 1) ^^^ 0x07#8 else c <<< 1

def crc8Byte (c b : Byte) : Byte :=
  crc8Bit (crc8Bit (crc8Bit (crc8Bit (crc8Bit (crc8Bit (crc8Bit (crc8Bit (c ^^^ b))))))))

/-- R127: the CRC-8 of the terminal link, initial value all ones, no final inversion. -/
def crc8 (bytes : List Byte) : Byte := bytes.foldl crc8Byte 0xFF#8

/-- R185: start mark and escape byte of a printer link. -/
def printerStart : Byte := 0xA5#8
def printerEscape : Byte := 0xA6#8

/-- R185: a byte equal to the start mark or the escape byte is sent as the escape byte and itself with bit 5 inverted. -/
def escape : List Byte → List Byte
  | [] => []
  | b :: rest => if b = printerStart ∨ b = printerEscape then printerEscape :: (b ^^^ 0x20#8) :: escape rest else b :: escape rest

/-- R185: the escapes removed; an escape byte followed by any byte but 0x85 or 0x86 makes the frame bad, and so does one that is the frame's
last byte. DESIGN CHOICE, unsafe: log entry 37. -/
def unescape : List Byte → Option (List Byte)
  | [] => some []
  | b :: rest =>
    if b = printerEscape then
      match rest with
      | [] => none
      | c :: rest' => if c = 0x85#8 ∨ c = 0x86#8 then (unescape rest').map ((c ^^^ 0x20#8) :: ·) else none
    else (unescape rest).map (b :: ·)

/-- The frames a printer sends (R185). -/
inductive PrinterFrame where
  | status (f : StatusFrame)
  | nextStripe (n : W16)
  | hold
  | resume
  | copyDone (copyId : W16) (result consumed : Byte)
  deriving DecidableEq, Repr

def Report.code : Report → Byte
  | .ready => 0 | .printing => 1 | .paused => 2 | .faulted => 3

def Report.ofCode : Byte → Option Report
  | 0 => some .ready | 1 => some .printing | 2 => some .paused | 3 => some .faulted | _ => none

def HeadClass.code : HeadClass → Byte
  | .cool => 0 | .warm => 1 | .hot => 2

def HeadClass.ofCode : Byte → Option HeadClass
  | 0 => some .cool | 1 => some .warm | 2 => some .hot | _ => none

/-- R185: bits 0 to 4 of the conditions byte. -/
def Conditions.code (c : Conditions) : Byte :=
  (if c.jam then 1 else 0) ||| (if c.mediaOut then 2 else 0) ||| (if c.overheat then 4 else 0) ||| (if c.doorOpen then 8 else 0)
    ||| (if c.headCooling then 16 else 0)

/-- R185: condition bits 5 to 7 are ignored. -/
def Conditions.ofCode (b : Byte) : Conditions :=
  { jam := b.getLsbD 0, mediaOut := b.getLsbD 1, overheat := b.getLsbD 2, doorOpen := b.getLsbD 3, headCooling := b.getLsbD 4 }

/-- R185: the 16 bytes of a STATUS payload. -/
def statusPayload (f : StatusFrame) : List Byte :=
  [Report.code f.report, Conditions.code f.conditions, HeadClass.code f.head, f.lastResult] ++ leBytes 2 f.lastCopy.toNat ++ [f.consumed, 0]
    ++ leBytes 2 f.stock.toNat ++ [0, 0] ++ leBytes 4 f.pack.toNat

/-- R185: the STATUS frame a payload spells; a state code above 3 or a head class code above 2 fails the third check of R80. -/
def statusOfPayload : List Byte → Option StatusFrame
  | [st, co, he, lr, i0, i1, cu, _, s0, s1, _, _, p0, p1, p2, p3] =>
    match Report.ofCode st, HeadClass.ofCode he with
    | some r, some h =>
      some { report := r, conditions := Conditions.ofCode co, head := h, lastResult := lr, lastCopy := BitVec.ofNat 16 (ofLeBytes [i0, i1]),
             consumed := cu, stock := BitVec.ofNat 16 (ofLeBytes [s0, s1]), pack := BitVec.ofNat 32 (ofLeBytes [p0, p1, p2, p3]) }
    | _, _ => none
  | _ => none

/-- The kind byte and payload of a printer's frame (R185). -/
def printerFrameKind : PrinterFrame → Byte
  | .status _ => 0x01 | .nextStripe _ => 0x02 | .hold => 0x03 | .resume => 0x04 | .copyDone _ _ _ => 0x05

def printerFramePayload : PrinterFrame → List Byte
  | .status f => statusPayload f
  | .nextStripe n => leBytes 2 n.toNat
  | .hold => []
  | .resume => []
  | .copyDone i r c => leBytes 2 i.toNat ++ [r, c]

/-- The third check of R80: a known kind with the length it requires. -/
def printerFrameOf (kind : Byte) (payload : List Byte) : Option PrinterFrame :=
  if kind = 0x01#8 then (statusOfPayload payload).map .status
  else if kind = 0x02#8 then
    match payload with
    | [a, b] => some (.nextStripe (BitVec.ofNat 16 (ofLeBytes [a, b])))
    | _ => none
  else if kind = 0x03#8 then (if payload = [] then some .hold else none)
  else if kind = 0x04#8 then (if payload = [] then some .resume else none)
  else if kind = 0x05#8 then
    match payload with
    | [a, b, r, c] => some (.copyDone (BitVec.ofNat 16 (ofLeBytes [a, b])) r c)
    | _ => none
  else none

/-- R80: the body of a frame: kind, payload length, payload, and the CRC most significant byte first (R185). -/
def printerBody (kind : Byte) (payload : List Byte) : List Byte :=
  let covered := kind :: (leBytes 2 payload.length ++ payload)
  covered ++ beBytes 2 (crc16 covered).toNat

/-- R80, R185: a frame on the wire: the start mark and the escaped body. -/
def printerWire (kind : Byte) (payload : List Byte) : List Byte := printerStart :: escape (printerBody kind payload)

/-- R80: the three checks on the bytes between a start mark and the end of the frame: the length field, the CRC, the kind. -/
def parsePrinter (raw : List Byte) : Option PrinterFrame :=
  match unescape raw with
  | none => none
  | some bytes =>
    match bytes with
    | kind :: l0 :: l1 :: rest =>
      let len := ofLeBytes [l0, l1]
      if bytes.length = len + 5 then
        let covered := bytes.take (len + 3)
        if bytes.drop (len + 3) = beBytes 2 (crc16 covered).toNat then printerFrameOf kind (rest.take len) else none
      else none
    | _ => none

/-- R185: start byte of the terminal link. -/
def terminalStart : Byte := 0x5A#8

/-- The frames the terminal sends (R128), with the reason or result byte as given. -/
inductive TerminalFrame where
  | ready
  | cardWait (ref : W16)
  | approved (ref : W16) (amount : W32) (code : List Byte)
  | declined (ref : W16) (reason : Byte)
  | timedOut (ref : W16)
  | aborted (ref : W16)
  | captured (ref : W16) (amount : W32)
  | voided (ref : W16)
  | refused (ref : W16) (reason : Byte)
  deriving DecidableEq, Repr

/-- The bytes of a terminal frame from the kind to the six characters (R127, R185). -/
def terminalCovered (kind : Byte) (ref : W16) (amount : W32) (result : Byte) (six : List Byte) : List Byte :=
  kind :: (leBytes 2 ref.toNat ++ leBytes 4 amount.toNat ++ result :: six)

/-- R127: a terminal frame on the wire. -/
def terminalWire (kind : Byte) (ref : W16) (amount : W32) (result : Byte) (six : List Byte) : List Byte :=
  let covered := terminalCovered kind ref amount result six
  terminalStart :: (covered ++ [crc8 covered])

/-- The byte form of a frame the terminal sends; a field a kind does not use is zero (R127). -/
def terminalFrameCovered : TerminalFrame → List Byte
  | .ready => terminalCovered 0x10 0 0 0 []
  | .cardWait r => terminalCovered 0x11 r 0 0 []
  | .approved r a c => terminalCovered 0x12 r a 0 c
  | .declined r reason => terminalCovered 0x13 r 0 reason []
  | .timedOut r => terminalCovered 0x14 r 0 0 []
  | .aborted r => terminalCovered 0x15 r 0 0 []
  | .captured r a => terminalCovered 0x16 r a 0 []
  | .voided r => terminalCovered 0x17 r 0 0 []
  | .refused r reason => terminalCovered 0x18 r 0 reason []

/-- R127: from its kind the receiver knows the frame's length: 9 bytes after the start byte, 15 with the six characters. -/
def terminalLength (kind : Byte) : Option Nat :=
  if kind = 0x12#8 then some 15 else if 0x10#8 ≤ kind ∧ kind ≤ 0x18#8 then some 9 else none

/-- R127: the receiver's checks on the bytes after a start byte. -/
def parseTerminal (raw : List Byte) : Option TerminalFrame :=
  match raw with
  | kind :: r0 :: r1 :: a0 :: a1 :: a2 :: a3 :: result :: rest =>
    if terminalLength kind = some raw.length ∧ raw.getLast? = some (crc8 raw.dropLast) then
      let ref := BitVec.ofNat 16 (ofLeBytes [r0, r1])
      let amount := BitVec.ofNat 32 (ofLeBytes [a0, a1, a2, a3])
      if kind = 0x10#8 then some .ready
      else if kind = 0x11#8 then some (.cardWait ref)
      else if kind = 0x12#8 then some (.approved ref amount rest.dropLast)
      else if kind = 0x13#8 then some (.declined ref result)
      else if kind = 0x14#8 then some (.timedOut ref)
      else if kind = 0x15#8 then some (.aborted ref)
      else if kind = 0x16#8 then some (.captured ref amount)
      else if kind = 0x17#8 then some (.voided ref)
      else if kind = 0x18#8 then some (.refused ref result)
      else none
    else none
  | _ => none

/-- R107, R185: the check over the 8 bytes of an identity answer, capacity then serial, most significant byte first. -/
def identityCheck (capacity serial : W32) : W16 := crc16 (beBytes 4 capacity.toNat ++ beBytes 4 serial.toNat)

/-- R107, R185: an identity answer on the card port: capacity 4, serial 4, check 2, each most significant byte first. -/
def identityWire (capacity serial : W32) (check : W16) : List Byte :=
  beBytes 4 capacity.toNat ++ beBytes 4 serial.toNat ++ beBytes 2 check.toNat

/-- R107, R185: the capacity, the serial and the check that the port reads from the 10 bytes of an identity answer. -/
def identityOfWire : List Byte → Option (W32 × W32 × W16)
  | [c3, c2, c1, c0, s3, s2, s1, s0, k1, k0] => some (c3 ++ c2 ++ c1 ++ c0, s3 ++ s2 ++ s1 ++ s0, k1 ++ k0)
  | _ => none

/-- R108: a card block is 512 bytes. -/
def blockBytes : Nat := 512

/-- R108, R185: a block on the card port: its 512 bytes and its check of 2, most significant byte first. -/
def blockWire (data : List Byte) (check : W16) : List Byte := data ++ beBytes 2 check.toNat

/-- R108, R185: the data and the check that the port reads from the 514 bytes of a block. -/
def blockOfWire (bytes : List Byte) : Option (List Byte × W16) :=
  match bytes.drop blockBytes with
  | [k1, k0] => some (bytes.take blockBytes, k1 ++ k0)
  | _ => none

/-- R107, R185: the command that the 10 bytes of an identity answer make at a bay. -/
def identityCommand (b : BayId) (bytes : List Byte) : Option Instr := (identityOfWire bytes).map fun (c, s, k) => .identifyAnswer b c s k

/-- R108, R185: the command that the 514 bytes of a block make at a bay. -/
def blockCommand (b : BayId) (bytes : List Byte) : Option Instr := (blockOfWire bytes).map fun (d, k) => .blockArrival b d k

/-- R185: a card command: code, argument, check over both. -/
def cardWire (code : Byte) (argument : List Byte) : List Byte := (code :: argument) ++ beBytes 2 (crc16 (code :: argument)).toNat

/-- R127: the currency code in AUTHORIZE: three decimal digits with leading zeros, then three spaces. -/
def currencyChars (c : Nat) : List Byte :=
  [BitVec.ofNat 8 (48 + c / 100 % 10), BitVec.ofNat 8 (48 + c / 10 % 10), BitVec.ofNat 8 (48 + c % 10), 32, 32, 32]

end Sys2Proof.Machine
end

