-- ==== Sys2Proof/Decode.lean ====
section
/-! DEFINITION. Which command a word spells: none, because the table of operations and events gives its rows no bits. And which command a
host write to the exchange window is, by its offset and bytes (R161, R162, R166, R184). -/

namespace Sys2Proof

/-- The table gives no row any bits, so no word spells a command (log entry 1). -/
def decodeTableWord (_nbits _w : Nat) : Option Instr := none

/-- R162: the command of an aligned 32-bit write to a control word. -/
def controlCommand (word : Nat) (offset : Nat) (data : List Byte) : Instr :=
  let v := BitVec.ofNat 32 (Machine.ofLeBytes data)
  match word with
  | 0 => if v.getLsbD 2 then .partReset else .windowWriteDiscarded offset data
  | 1 => .attn v
  | 2 => .attnEnable v
  | 5 => .unitChanged v
  | 6 => .orderChanged v
  | _ => .windowWriteDiscarded offset data

/-- R166, R184: the command of a write to a strip word: bits 0 to 7 of an aligned 32-bit write. -/
def stripCommand (slot : SlotId) (aligned : Bool) (data : List Byte) : Instr :=
  if aligned = true ∧ data.length = 4 then
    match data with
    | [] => .stripWriteRefused slot .narrow
    | code :: _ =>
      if code = 1 then .post slot
      else if code = 2 then .cancel slot
      else if code = 3 then .release slot
      else if code = 4 then .giveBack slot
      else .stripWriteRefused slot (.unknownCode code)
  else if data.length < 4 then .stripWriteRefused slot .narrow
  else .stripWriteRefused slot .unaligned

/-- R161: the command that a host write of some bytes at an offset of the window is. A write lies in one region; the bus splits others. -/
def decodeHostWrite (offset : Nat) (data : List Byte) : Instr :=
  if offset < 0x20 then
    if offset % 4 = 0 ∧ data.length = 4 then controlCommand (offset / 4) offset data else .windowWriteDiscarded offset data
  else if h : 0x100 ≤ offset ∧ offset < 0x200 then
    stripCommand ⟨(offset - 0x100) / 4, by omega⟩ (offset % 4 == 0) data
  else if h : 0x8000 ≤ offset ∧ offset < 0x10000 then
    .slotRequestWrite ⟨(offset - 0x8000) / 512, by omega⟩ ((offset - 0x8000) % 512) data
  else .windowWriteDiscarded offset data

end Sys2Proof
end

