-- ==== Sys2Proof/Machine/State.lean ====
section
/-! DEFINITION. The state of the K640: every register, list, table, buffer, timer and pin the manual gives it, as plain data, its values
after power-on, and the two closed types of reasons for a stop. INVENTORY.md lists each field with its rule and reset value.

Money amounts, counts, lengths and media units are numbers. CLOCK, serials, tags, references and copy ids wrap and are words.
A timer of whole seconds is kept as the CLOCK value of its deadline (DEDUCED, unsafe for countdowns: log entry 11). A timer of milliseconds is
kept as the time left (log entries 2 and 3). -/

namespace Sys2Proof.Machine

/-- R180 to R182: held in power-on (RESET_N low), STARTING, or RUN. -/
inductive PartState where
  | held | starting | run
  deriving DecidableEq, Repr

/-- A timer of milliseconds: stopped, running with the time left, or paused with the time left. -/
inductive Timer where
  | stopped
  | running (left : Nat)
  | paused (left : Nat)
  deriving DecidableEq, Repr

/-- R178: the four timer settings, in seconds. -/
structure TimerSettings where
  idle : Nat
  quoteHold : Nat
  authorization : Nat
  grace : Nat
  deriving DecidableEq, Repr

/-- R19: an order is named by its record index and serial. -/
structure Handle where
  index : OrderId
  serial : W32
  deriving DecidableEq, Repr

/-! ## Exchange window (R161 to R176) -/

inductive SlotState where
  | free | posted | taken | done
  deriving DecidableEq, Repr

/-- R184, codes: result status, in code order from 0. -/
inductive Status where
  | ok | cancelled | format | privilege | noSuch | range | state | tableFull | busy | staleCard | noTerminal | noPrice | tooLarge | noMedia
  | declined | short | timedOut | aborted | terminalLost | sessionEnded | cardGone | readFault | stalled | transferFault | unitDown
  deriving DecidableEq, Repr

/-- R184, codes: STATE reason, in code order from 0. -/
inductive Reason where
  | none | noSession | paymentOpen | orderLimit | noCard | identifying | bayFaulted | already | notHealthy | notInService | inUse | transferActive
  deriving DecidableEq, Repr

inductive Size where
  | p2 | p4 | p6 | p8
  deriving DecidableEq, Repr

inductive Finish where
  | glossy | matte
  deriving DecidableEq, Repr

/-- R20, with FREE first as in the code table. -/
inductive OrderState where
  | free | draft | priced | paying | paid | printing | held | settling | closed | cancelled
  deriving DecidableEq, Repr

inductive SettleStatus where
  | none | captured | voided | uncollected | nothingDue
  deriving DecidableEq, Repr

/-- R57: the fixed prices of an order; unit prices of P2, P4, P6, P8 in this order, absent for sizes not ordered. -/
structure FixedPrices where
  unitPrice : Vector (Option Nat) 4
  surcharge : Nat
  rate : Nat
  taxRate : Nat
  currency : Nat
  subtotal : Nat
  discount : Nat
  tax : Nat
  total : Nat
  deriving DecidableEq, Repr

inductive Access where
  | none | read | write | readWrite
  deriving DecidableEq, Repr

inductive ApertureState where
  | disabled | active | faulted
  deriving DecidableEq, Repr

inductive Direction where
  | read | write
  deriving DecidableEq, Repr

/-- R158: why a transfer faulted its aperture. -/
inductive FaultCause where
  | unsuccessful | poisoned | noCompletion
  deriving DecidableEq, Repr

/-- R156: the seven requesters of the master port. -/
inductive Requester where
  | printer (p : PrinterId)
  | bay (b : BayId)
  | load
  deriving DecidableEq, Repr

/-- R150, R158: the fault record of an aperture. -/
structure FaultRecord where
  clock : W32
  direction : Direction
  requester : Requester
  address : Nat
  cause : FaultCause
  areasDied : Nat
  deriving DecidableEq, Repr

/-- R150: an aperture entry. Its use count is the number of live areas accepted through it, computed in Ops. -/
structure Aperture where
  base : Nat
  limit : Nat
  access : Access
  state : ApertureState
  fault : Option FaultRecord
  deriving DecidableEq, Repr

/-- R48: the violations of a price table image. -/
inductive Violation where
  | badFlag | badCount | unusedNotZero | thresholdRange | thresholdOrder | valueRange | reservedNotZero
  deriving DecidableEq, Repr

inductive Target where
  | a | b
  deriving DecidableEq, Repr

inductive PrinterState where
  | absent | ready | printing | paused | faulted | offline | service
  deriving DecidableEq, Repr

inductive TerminalState where
  | absent | offline | idle | authorizing | settling
  deriving DecidableEq, Repr

inductive SessionState where
  | free | active | draining
  deriving DecidableEq, Repr

/-- R145: one figure pair of the till with its saturated indications. -/
structure TillPair where
  count : Nat
  sum : Nat
  countSat : Bool
  sumSat : Bool
  deriving DecidableEq, Repr

/-- R145. -/
structure Till where
  openedAt : W32
  approvals : TillPair
  captures : TillPair
  voids : TillPair
  uncollected : TillPair
  abandoned : TillPair
  deriving DecidableEq, Repr

/-- An aperture as SET_APERTURE's result shows it (R154). -/
structure AperturePicture where
  entry : Aperture
  useCount : Nat
  deriving DecidableEq, Repr

/-- R135: the fields of a PAY result. -/
structure PayResult where
  reference : W16
  asked : Nat
  approved : Option Nat
  code : Option (List Byte)
  reason : Option Byte
  granted : Option W32
  deriving DecidableEq, Repr

/-- R118, R119: the fields of a READ_CARD result. -/
structure ReadResult where
  generation : W16
  serial : W32
  delivered : Nat
  filled : Nat
  givenBack : Nat
  target : Option Target
  lastBytes : Option Nat
  failing : Option Nat
  waited : Option Nat
  aperture : Option ApertureId
  deriving DecidableEq, Repr

/-- The kind-specific fields of a result part (R164, R184), by the rule that names them. Its byte form is in Layout. -/
inductive Body where
  /-- no field written since POST -/
  | zero
  /-- R7 -/
  | openSession (index : SessionId) (openedAt : W32) (idle : Nat)
  /-- R9 -/
  | closeSession (index : SessionId) (reached : SessionState) (cancelled ended : Nat)
  /-- R9: the handle of the order in PAYING -/
  | paymentOpen (order : Handle)
  /-- R22 -/
  | openOrder (order : Handle) (session : SessionId) (freeLeft : Nat)
  /-- R24 -/
  | addItem (position count : Nat)
  /-- R24: the first field found bad -/
  | badField (field : Nat)
  /-- R26 -/
  | itemCount (count : Nat)
  /-- R28 -/
  | quoted (prices : FixedPrices) (placement : PrinterId) (reservation : Nat)
  /-- R28: the first item not offered, or the first UNPRINTABLE item -/
  | quoteItem (position : Nat)
  /-- R56: the total that would have been reached -/
  | quoteTooLarge (total : Nat)
  /-- R28: the units asked for -/
  | quoteNoMedia (units : Nat)
  | pay (result : PayResult)
  /-- R23, R184: the order's state; also CANCEL_ORDER's result (R37) -/
  | orderState (state : OrderState)
  /-- R39 -/
  | retired (state : OrderState) (settle : SettleStatus) (settlement captured : Nat)
  | read (result : ReadResult)
  /-- R47 -/
  | loaded (tag : W32) (installedAt : W32) (sizes promotions : Nat)
  /-- R47: FORMAT -/
  | loadBad (entry : Nat) (violation : Violation)
  /-- R159: TRANSFER_FAULT -/
  | loadFault (aperture : ApertureId)
  /-- R154 -/
  | apertures (before after : AperturePicture) (table : Vector AperturePicture 8)
  /-- R178 -/
  | timers (settings : TimerSettings) (clampedIdle clampedHold clampedAuthorization clampedGrace : Bool)
  /-- R146 -/
  | shift (closedAt : W32) (till : Till)
  /-- R123 -/
  | resetBay (generation : W16) (ended : Nat)
  /-- R100 -/
  | resetPrinter (state : PrinterState) (copyId : W16)
  /-- R147 -/
  | resetTerminal (before : TerminalState) (reference : W16)
  /-- R99 -/
  | service (state : PrinterState) (pending : Bool)
  deriving DecidableEq, Repr

/-- R163 to R165: a slot. The request part is the canonical list of its nonzero bytes. The DONE mask is the set of slots in DONE (R171). -/
structure Slot where
  state : SlotState
  progress : Byte
  request : List Host.Cell
  status : Status
  reason : Reason
  tagEcho : W32
  completedAt : W32
  body : Body
  deriving DecidableEq, Repr

/-! ## Stations and sessions (R1 to R18) -/

inductive ReadyMode where
  | off | steady | blink
  deriving DecidableEq, Repr

inductive CloseCause where
  | host | idle
  deriving DecidableEq, Repr

structure LastSession where
  index : SessionId
  cause : CloseCause
  clock : W32
  deriving DecidableEq, Repr

/-- R1, R14. -/
structure Station where
  session : Option SessionId
  noRoomLive : Bool
  noRoomLatched : Bool
  idleClosed : Bool
  /-- deadline of the payment notice timer (R16) -/
  notice : Option W32
  ready : ReadyMode
  /-- on half of a blink (R15) -/
  blinkOn : Bool
  call : Bool
  /-- deadline of the CALL minimum on-time (R17) -/
  minimumOn : Option W32
  last : Option LastSession
  draining : Nat
  deriving DecidableEq, Repr

/-- R2, R3. -/
structure Session where
  state : SessionState
  station : StationId
  orders : List OrderId
  openedAt : W32
  deadline : Option W32
  deriving DecidableEq, Repr

/-! ## Orders (R19 to R44) -/

inductive ItemState where
  | pending | active | done | unprintable
  deriving DecidableEq, Repr

/-- R21. The raster length is that of the size. `dropped` says that the copies not yet begun were dropped (R38). -/
structure Item where
  size : Size
  finish : Finish
  quantity : Nat
  address : Nat
  aperture : ApertureId
  printed : Nat
  failed : Nat
  inFlight : Nat
  state : ItemState
  dropped : Bool
  deriving DecidableEq, Repr

inductive QuoteHold where
  | none
  | running (deadline : W32)
  | stopped
  deriving DecidableEq, Repr

inductive DraftReason where
  | expired | edited | noMedia | unprintable
  deriving DecidableEq, Repr

inductive HoldReason where
  | noMedia
  deriving DecidableEq, Repr

/-- R31: how an authorization ended; the last payment outcome of an order. -/
inductive PayOutcome where
  | ok | declined | short | timedOut | aborted | terminalLost | cancelled
  deriving DecidableEq, Repr

/-- R20. The reservation is the stock table's figure (R65), computed in Ops. `stamp` is the quote sequence stamp (R67). -/
structure Order where
  state : OrderState
  serial : W32
  station : StationId
  session : SessionId
  items : List Item
  promotion : Option Nat
  prices : Option FixedPrices
  placement : Option PrinterId
  hold : QuoteHold
  stamp : Nat
  draftReason : Option DraftReason
  reference : Option W16
  approved : Option Nat
  code : Option (List Byte)
  lastOutcome : Option PayOutcome
  uncertain : Bool
  settlement : Option Nat
  captured : Nat
  settleStatus : SettleStatus
  holdReason : Option HoldReason
  cancelRequested : Bool
  openedAt : W32
  quotedAt : Option W32
  paidAt : Option W32
  closedAt : Option W32
  deriving DecidableEq, Repr

/-! ## Price unit (R45 to R61) -/

structure Tier where
  threshold : Nat
  price : Nat
  deriving DecidableEq, Repr

structure SizeEntry where
  offered : Bool
  base : Nat
  tiers : List Tier
  deriving DecidableEq, Repr

structure Promotion where
  rate : Nat
  minimum : Nat
  deriving DecidableEq, Repr

/-- R45. -/
structure PriceTable where
  sizes : Vector SizeEntry 4
  surcharge : Nat
  taxRate : Nat
  currency : Nat
  promotions : Vector Promotion 16
  tag : W32
  installedAt : Option W32
  deriving DecidableEq, Repr

/-- R46, R49: the load in progress. `cancelled` and `areaDead` say what has reached it while FETCHING. -/
structure Load where
  slot : SlotId
  tag : W32
  address : Nat
  aperture : ApertureId
  fetching : Bool
  cancelled : Bool
  areaDead : Bool
  deriving DecidableEq, Repr

inductive LoadOutcome where
  | ok | format | cancelled | transferFault
  deriving DecidableEq, Repr

structure LastLoad where
  outcome : LoadOutcome
  clock : W32
  failure : Option (Nat × Violation)
  deriving DecidableEq, Repr

/-- R45, R51. -/
structure PriceUnit where
  table : PriceTable
  load : Option Load
  last : Option LastLoad
  emptyLatched : Bool
  loadFailedLatched : Bool
  deriving DecidableEq, Repr

/-! ## Stock table (R62 to R78) -/

/-- R62. Usable stock, reserved, trailing, committed and free room follow from these and the orders; they are computed in Ops. -/
structure StockEntry where
  reported : Nat
  pendingConsumption : Nat
  grace : Option W32
  deriving DecidableEq, Repr

/-! ## Print controller (R79 to R102) -/

inductive CopyResult where
  | ok | jam | mediaOut | underrun | overheat | aborted
  deriving DecidableEq, Repr

/-- R86. -/
inductive BufferState where
  | empty
  | filling (stripe : Nat)
  | full (stripe : Nat)
  | sending (stripe : Nat)
  | sent (stripe : Nat)
  deriving DecidableEq, Repr

structure StripeBuffer where
  state : BufferState
  data : List Byte
  deriving DecidableEq, Repr

/-- R85, R87: an outstanding request with its underrun timer; the timer is stopped once its STRIPE frame has started. -/
structure StripeRequest where
  stripe : Nat
  started : Bool
  timer : Timer
  deriving DecidableEq, Repr

/-- R83, R84: the begin-answer limit and the number of BEGIN_COPY frames sent. -/
structure BeginWait where
  sends : Nat
  deadline : W32
  deriving DecidableEq, Repr

/-- R82, R83: the copy in flight. -/
structure Copy where
  id : W16
  order : OrderId
  item : Nat
  size : Size
  finish : Finish
  attempt : Nat
  /-- highest stripe number asked for -/
  highest : Option Nat
  /-- number of stripes sent -/
  sent : Nat
  requests : List StripeRequest
  held : Bool
  abortCause : Option CopyResult
  releasedEarly : Bool
  beginWait : Option BeginWait
  abortDeadline : Option W32
  deriving DecidableEq, Repr

/-- R86: the STRIPE frame in transmission. -/
structure Transmission where
  copyId : W16
  stripe : Nat
  deriving DecidableEq, Repr

/-- R94: live conditions; LINK_SILENT is the part's own. -/
structure PrinterLive where
  reported : Conditions
  linkSilent : Bool
  deriving DecidableEq, Repr

/-- R94: latched conditions. -/
structure PrinterLatched where
  reported : Conditions
  linkSilent : Bool
  underrun : Bool
  packChanged : Bool
  overheatStop : Bool
  deriving DecidableEq, Repr

structure LastCopy where
  id : W16
  result : CopyResult
  consumed : Nat
  deriving DecidableEq, Repr

/-- R101: the counts of a printer record, each stopping at 65,535. -/
structure PrinterCounts where
  copiesOk : Nat
  copiesFailed : Nat
  underruns : Nat
  discarded : Nat
  stray : Nat
  sequence : Nat
  deriving DecidableEq, Repr

/-- R79 to R102: a printer port. -/
structure Printer where
  state : PrinterState
  watch : Option W32
  queue : List OrderId
  copy : Option Copy
  bufferA : StripeBuffer
  bufferB : StripeBuffer
  target : Target
  transmitting : Option Transmission
  nextCopyId : W16
  servicePending : Bool
  /-- a good STATUS frame has arrived since the printer entered SERVICE (R99) -/
  statusInService : Bool
  /-- the state of its last STATUS frame (R99) -/
  lastReport : Option Report
  overheatLock : Bool
  linkHeard : Bool
  linkChangedAt : Option W32
  head : Option HeadClass
  pack : Option W32
  /-- the next serial is the first since the printer became ABSENT (R96) -/
  packFirst : Bool
  packChanges : Nat
  live : PrinterLive
  latched : PrinterLatched
  last : Option LastCopy
  counts : PrinterCounts
  deriving DecidableEq, Repr

/-! ## Card bays (R103 to R126) -/

inductive BayState where
  | empty | settling | identifying | ready | reading | faulted
  deriving DecidableEq, Repr

inductive CardRun where
  | idle | running | clockStopped | halted
  deriving DecidableEq, Repr

structure CardIdentity where
  capacity : Nat
  serial : W32
  identifiedAt : W32
  deriving DecidableEq, Repr

inductive HalfState where
  | empty | filling | full | writing
  deriving DecidableEq, Repr

/-- R110: an internal half: its state, the number of blocks in it and their bytes. -/
structure Half where
  state : HalfState
  blocks : Nat
  data : List Byte
  deriving DecidableEq, Repr

inductive ReadMode where
  | single | alternate
  deriving DecidableEq, Repr

/-- R119: why a read ends early. -/
inductive EndCause where
  | cancelled | sessionEnded | cardGone | readFault | stalled | transferFault | unitDown
  deriving DecidableEq, Repr

/-- R111 to R119: a read in a bay's queue. `mark` is a cause waiting for the next block boundary; `ended` is the cause once the read
winds down. Area B and `chunk` belong to ALTERNATE reads. -/
structure Read where
  slot : SlotId
  mode : ReadMode
  generation : W16
  serial : W32
  first : Nat
  count : Nat
  addressA : Nat
  apertureA : ApertureId
  liveA : Bool
  addressB : Nat
  apertureB : ApertureId
  liveB : Bool
  chunk : Nat
  accepted : Nat
  delivered : Nat
  filled : Nat
  givenBack : Nat
  waited : Nat
  failures : Nat
  mark : Option EndCause
  ended : Option EndCause
  failing : Option Nat
  faultedAperture : Option ApertureId
  deriving DecidableEq, Repr

/-- R124: the latched conditions of a bay. -/
structure BayLatched where
  identFault : Bool
  giveBackWait : Bool
  readFault : Bool
  removedDuringRead : Bool
  stalled : Bool
  deriving DecidableEq, Repr

structure LastRead where
  slot : SlotId
  status : Status
  clock : W32
  deriving DecidableEq, Repr

structure BayCounts where
  cardsAccepted : Nat
  blockRetries : Nat
  readsOk : Nat
  readsOther : Nat
  deriving DecidableEq, Repr

/-- R103, R125: a card bay. The live IDENT_FAULT condition is that the bay is FAULTED (R124). -/
structure Bay where
  state : BayState
  contact : Bool
  generation : W16
  card : Option CardIdentity
  run : CardRun
  settle : Timer
  /-- number of IDENTIFY commands sent for this arrival -/
  identifySends : Nat
  identify : Timer
  block : Timer
  active : Option Read
  waiting : List Read
  half0 : Half
  half1 : Half
  /-- live GIVE_BACK_WAIT -/
  giveBackWait : Bool
  /-- milliseconds of the present wait -/
  waitLength : Nat
  /-- the 2 s limit of the present wait still runs (R116) -/
  waitLimit : Bool
  latched : BayLatched
  last : Option LastRead
  counts : BayCounts
  deriving DecidableEq, Repr

/-! ## Transfer engine (R150 to R160) -/

/-- What a transfer is for. -/
inductive Purpose where
  | stripe (copyId : W16) (stripe : Nat) (buffer : Target) (last : Bool)
  | half (number : Fin 2) (blocks : Nat)
  | image
  deriving DecidableEq, Repr

/-- R155: one move between a host address and a buffer of the part. `data` is what a WRITE transfer sends. -/
structure Transfer where
  requester : Requester
  direction : Direction
  address : Nat
  length : Nat
  aperture : ApertureId
  purpose : Purpose
  data : List Byte
  deriving DecidableEq, Repr

inductive TransferOutcome where
  | done (data : List Byte)
  | error (cause : FaultCause)
  deriving DecidableEq, Repr

/-- R155, R157: a granted transfer. An outcome that must wait for an earlier transfer of the same requester is held here. -/
structure Granted where
  transfer : Transfer
  timer : Timer
  outcome : Option TransferOutcome
  deriving DecidableEq, Repr

/-- R156: the master port: the requesters' lines in ring order (printers 0, 1, bays 0 to 3, price load), the transfers granted and not
yet told, in grant order, and the ring position last granted in each class. -/
structure Port where
  lines : Vector (List Transfer) 7
  granted : List Granted
  lastHigh : Option (Fin 7)
  lastNormal : Option (Fin 7)
  deriving DecidableEq, Repr

/-! ## Payment controller (R127 to R149) -/

inductive HolderKind where
  | authorization | settlement | followUpVoid | listVoid
  deriving DecidableEq, Repr

inductive Exchange where
  | opened | aborting | answerWait
  deriving DecidableEq, Repr

/-- R130 to R144: the party that holds the terminal. `slot` and `order` are present while a PAY or an order stands behind it;
`attempts` is a settlement's count; `cardSeen` says that a CARD_WAIT has arrived. The limits are CLOCK deadlines. -/
structure Holder where
  kind : HolderKind
  reference : W16
  amount : Nat
  exchange : Exchange
  order : Option OrderId
  slot : Option SlotId
  attempts : Nat
  cardSeen : Bool
  cardWaitLimit : Option W32
  authorizationLimit : Option W32
  abortLimit : Option W32
  answerLimit : Option W32
  deriving DecidableEq, Repr

/-- R130. -/
structure PayEntry where
  slot : SlotId
  order : OrderId
  station : StationId
  deriving DecidableEq, Repr

/-- R130, R142. -/
structure PendingSettlement where
  order : OrderId
  attempts : Nat
  deriving DecidableEq, Repr

/-- R143. -/
structure VoidEntry where
  reference : W16
  amount : Nat
  attempts : Nat
  deriving DecidableEq, Repr

/-- R148: latched conditions of the terminal record. -/
structure TerminalLatched where
  linkSilent : Bool
  authLost : Bool
  voidAbandoned : Bool
  uncollected : Bool
  deriving DecidableEq, Repr

structure TerminalCounts where
  discarded : Nat
  stray : Nat
  lateCaptures : Nat
  deriving DecidableEq, Repr

/-- R129 to R149. `uncollectedReferences` holds the references under which orders closed UNCOLLECTED, so that R142's late captures are known
when the order has left the table. DEDUCED, unsafe: log entry 20. -/
structure Terminal where
  state : TerminalState
  watch : Option W32
  linkHeard : Bool
  linkChangedAt : Option W32
  holder : Option Holder
  waitList : List PayEntry
  pendingSettlements : List PendingSettlement
  voidList : List VoidEntry
  nextReference : W16
  till : Till
  linkSilentLive : Bool
  latched : TerminalLatched
  counts : TerminalCounts
  uncollectedReferences : List W16
  deriving DecidableEq, Repr

/-! ## What the part sends -/

/-- The frames, card commands, host bus requests and interrupt messages sent in a step, in order. Byte forms are in Wire. -/
inductive Out where
  /-- R175 -/
  | interruptMessage
  /-- R83 -/
  | beginCopy (p : PrinterId) (copyId : W16) (size : Size) (finish : Finish)
  /-- R86 -/
  | stripeFrame (p : PrinterId) (stripe : Nat) (data : List Byte)
  /-- R89 -/
  | abortCopy (p : PrinterId) (copyId : W16)
  /-- R107 -/
  | identify (b : BayId)
  /-- R108 -/
  | readRun (b : BayId) (first : Nat)
  | halt (b : BayId)
  /-- R134 -/
  | authorize (reference : W16) (amount currency : Nat)
  /-- R137 -/
  | abort (reference : W16)
  /-- R141 -/
  | capture (reference : W16) (amount : Nat)
  /-- R144 -/
  | void (reference : W16)
  /-- R155: read requests -/
  | hostRead (address length : Nat)
  /-- R155: writes, then the read back of the last 4 bytes -/
  | hostWrite (address : Nat) (data : List Byte)
  | hostReadBack (address : Nat)
  deriving DecidableEq, Repr

/-- The whole part, the pins it watches, what it sent in the last step (`out`) and the commands that wait (`pending`, head first). -/
structure State where
  part : PartState
  pcieUp : Bool
  msiEnable : Bool
  clock : W32
  timers : TimerSettings
  slots : Vector Slot 64
  intake : List SlotId
  attnDone : Bool
  attnProgress : Bool
  attnMisuse : Bool
  attnEnable : BitVec 5
  unitChanged : BitVec 12
  orderChanged : W32
  stations : Vector Station 4
  sessions : Vector Session 8
  orders : Vector Order 32
  orderSerial : W32
  price : PriceUnit
  stock : Vector StockEntry 2
  heldList : List OrderId
  quoteSequence : Nat
  printers : Vector Printer 2
  retryNotes : Vector (Option Nat) 32
  bays : Vector Bay 4
  contactPins : Vector Bool 4
  apertures : Vector Aperture 8
  port : Port
  terminal : Terminal
  out : List Out
  pending : List Instr
  deriving DecidableEq, Repr

/-- Reasons to stop with a fault. The manual names no condition in which the part stops, so there is none. -/
inductive Fault
  deriving DecidableEq, Repr

/-- Reasons to refuse. -/
inductive Refusal where
  /-- raised by exec's arms alone, for a command that has no meaning in this model; safe; no arm raises it -/
  | notModelled (mnemonic : String)
  deriving DecidableEq, Repr

/-! ## Power-on values -/

/-- R176. -/
def Slot.reset : Slot :=
  { state := .free, progress := 0, request := [], status := .ok, reason := .none, tagEcho := 0, completedAt := 0, body := .zero }

/-- R178. -/
def TimerSettings.reset : TimerSettings :=
  { idle := Config.idleDefault, quoteHold := Config.holdDefault, authorization := Config.authDefault, grace := Config.graceDefault }

/-- R18. -/
def Station.reset : Station :=
  { session := none, noRoomLive := false, noRoomLatched := false, idleClosed := false, notice := none, ready := .off, blinkOn := false,
    call := false, minimumOn := none, last := none, draining := 0 }

/-- R2. -/
def Session.reset : Session := { state := .free, station := 0, orders := [], openedAt := 0, deadline := none }

/-- R39, R43: a FREE record, every field zero or absent. -/
def Order.reset : Order :=
  { state := .free, serial := 0, station := 0, session := 0, items := [], promotion := none, prices := none, placement := none, hold := .none,
    stamp := 0, draftReason := none, reference := none, approved := none, code := none, lastOutcome := none, uncertain := false,
    settlement := none, captured := 0, settleStatus := .none, holdReason := none, cancelRequested := false, openedAt := 0, quotedAt := none,
    paidAt := none, closedAt := none }

/-- R45: the empty table. -/
def PriceTable.empty : PriceTable :=
  { sizes := Vector.replicate 4 { offered := false, base := 0, tiers := [] }, surcharge := 0, taxRate := 0, currency := 0,
    promotions := Vector.replicate 16 { rate := 0, minimum := 0 }, tag := 0, installedAt := none }

/-- R51: after power-on TABLE_EMPTY is live and latched. -/
def PriceUnit.reset : PriceUnit :=
  { table := PriceTable.empty, load := none, last := none, emptyLatched := true, loadFailedLatched := false }

/-- R62. -/
def StockEntry.reset : StockEntry := { reported := 0, pendingConsumption := 0, grace := none }

def Conditions.absent : Conditions := { jam := false, mediaOut := false, overheat := false, doorOpen := false, headCooling := false }

def StripeBuffer.reset : StripeBuffer := { state := .empty, data := [] }

/-- R102, with the copy-id counter given. That the CLOCK of the link's last change, which R102 does not list, is absent also after a part
reset that finds the link HEARD is a DESIGN CHOICE, unsafe: log entry 46. -/
def Printer.resetWith (nextCopyId : W16) : Printer :=
  { state := .absent, watch := none, queue := [], copy := none, bufferA := StripeBuffer.reset, bufferB := StripeBuffer.reset, target := .a,
    transmitting := none, nextCopyId := nextCopyId, servicePending := false, statusInService := false, lastReport := none,
    overheatLock := false, linkHeard := false, linkChangedAt := none, head := none, pack := none, packFirst := true, packChanges := 0,
    live := { reported := Conditions.absent, linkSilent := false },
    latched := { reported := Conditions.absent, linkSilent := false, underrun := false, packChanged := false, overheatStop := false },
    last := none, counts := { copiesOk := 0, copiesFailed := 0, underruns := 0, discarded := 0, stray := 0, sequence := 0 } }

def Half.reset : Half := { state := .empty, blocks := 0, data := [] }

/-- R126, with the generation given. -/
def Bay.resetWith (generation : W16) : Bay :=
  { state := .empty, contact := false, generation := generation, card := none, run := .idle, settle := .stopped, identifySends := 0,
    identify := .stopped, block := .stopped, active := none, waiting := [], half0 := Half.reset, half1 := Half.reset,
    giveBackWait := false, waitLength := 0, waitLimit := false,
    latched := { identFault := false, giveBackWait := false, readFault := false, removedDuringRead := false, stalled := false },
    last := none, counts := { cardsAccepted := 0, blockRetries := 0, readsOk := 0, readsOther := 0 } }

/-- R150. -/
def Aperture.reset : Aperture := { base := 0, limit := 0, access := .none, state := .disabled, fault := none }

/-- R156. -/
def Port.reset : Port := { lines := Vector.replicate 7 [], granted := [], lastHigh := none, lastNormal := none }

def TillPair.zero : TillPair := { count := 0, sum := 0, countSat := false, sumSat := false }

/-- R145. -/
def Till.zero (openedAt : W32) : Till :=
  { openedAt := openedAt, approvals := TillPair.zero, captures := TillPair.zero, voids := TillPair.zero, uncollected := TillPair.zero,
    abandoned := TillPair.zero }

/-- R149, after power-on. -/
def Terminal.reset : Terminal :=
  { state := .absent, watch := none, linkHeard := false, linkChangedAt := none, holder := none, waitList := [], pendingSettlements := [],
    voidList := [], nextReference := 1, till := Till.zero 0, linkSilentLive := false,
    latched := { linkSilent := false, authLost := false, voidAbandoned := false, uncollected := false },
    counts := { discarded := 0, stray := 0, lateCaptures := 0 }, uncollectedReferences := [] }

/-- The part right after its reset input has risen (R180): STARTING as a power-on, every block at its power-on values, CLOCK 0, default
timer settings. The PCIe link is not yet up, the card contacts are open and no command waits (DESIGN CHOICE, unsafe: log entry 5). -/
def State.reset : State :=
  { part := .starting, pcieUp := false, msiEnable := false, clock := 0, timers := TimerSettings.reset, slots := Vector.replicate 64 Slot.reset,
    intake := [], attnDone := false, attnProgress := false, attnMisuse := false, attnEnable := 0, unitChanged := 0, orderChanged := 0,
    stations := Vector.replicate 4 Station.reset, sessions := Vector.replicate 8 Session.reset, orders := Vector.replicate 32 Order.reset,
    orderSerial := 1, price := PriceUnit.reset, stock := Vector.replicate 2 StockEntry.reset, heldList := [], quoteSequence := 0,
    printers := Vector.replicate 2 (Printer.resetWith 1), retryNotes := Vector.replicate 32 none,
    bays := Vector.replicate 4 (Bay.resetWith 0), contactPins := Vector.replicate 4 false, apertures := Vector.replicate 8 Aperture.reset,
    port := Port.reset, terminal := Terminal.reset, out := [], pending := [] }

end Sys2Proof.Machine
end

