-- ==== Sys2Proof/Machine/Ops.lean ====
section
/-! DEFINITION. The shared operations over State: reading and changing one record, the bytes of a request part, deadlines and timers,
what the part sends, and the figures that follow from the records (remaining copies, reservations, stock figures, use counts). -/

namespace Sys2Proof.Machine

/-! ## Bytes of a request part (R163): a canonical list, addresses strictly rising, no zero byte listed -/

/-- The byte at an offset; an unlisted byte reads zero, as after power-on (R176). -/
def Mem.read : List Host.Cell → Nat → Byte
  | [], _ => 0
  | (b, w) :: rest, a => if a = b then w else Mem.read rest a

/-- One byte written, the canonical form kept. -/
def Mem.write : List Host.Cell → Nat → Byte → List Host.Cell
  | [], a, v => if v = 0#8 then [] else [(a, v)]
  | (b, w) :: rest, a, v =>
    if a < b then (if v = 0#8 then (b, w) :: rest else (a, v) :: (b, w) :: rest)
    else if a = b then (if v = 0#8 then rest else (a, v) :: rest)
    else (b, w) :: Mem.write rest a v

/-- The canonical form: no zero byte listed, addresses strictly rising. -/
def Mem.wf : List Host.Cell → Bool
  | [] => true
  | (a, v) :: rest => v != 0#8 && rest.all (fun c => decide (a < c.1)) && Mem.wf rest

/-- R163: bytes 0 to 383 are the request part. -/
def requestBytes : Nat := 384

/-- R161, R163: the bytes of a write that fall in the request part are stored, the others are discarded. -/
def Mem.store (m : List Host.Cell) (offset : Nat) : List Byte → List Host.Cell
  | [] => m
  | b :: rest => Mem.store (if offset < requestBytes then Mem.write m offset b else m) (offset + 1) rest

/-- `n` bytes from an offset as a little-endian number. -/
def Mem.number (m : List Host.Cell) (offset : Nat) : Nat → Nat
  | 0 => 0
  | n + 1 => (Mem.read m offset).toNat + 256 * Mem.number m (offset + 1) n

/-! ## Records of State -/

def State.slot (s : State) (n : SlotId) : Slot := look s.slots n
def State.station (s : State) (i : StationId) : Station := look s.stations i
def State.session (s : State) (i : SessionId) : Session := look s.sessions i
def State.order (s : State) (o : OrderId) : Order := look s.orders o
def State.entry (s : State) (p : PrinterId) : StockEntry := look s.stock p
def State.printer (s : State) (p : PrinterId) : Printer := look s.printers p
def State.note (s : State) (o : OrderId) : Option Nat := look s.retryNotes o
def State.bay (s : State) (b : BayId) : Bay := look s.bays b
def State.pin (s : State) (b : BayId) : Bool := look s.contactPins b
def State.aperture (s : State) (a : ApertureId) : Aperture := look s.apertures a

def State.onSlot (s : State) (n : SlotId) (f : Slot → Slot) : State := { s with slots := upd s.slots n f }
def State.onStation (s : State) (i : StationId) (f : Station → Station) : State := { s with stations := upd s.stations i f }
def State.onSession (s : State) (i : SessionId) (f : Session → Session) : State := { s with sessions := upd s.sessions i f }
def State.onOrder (s : State) (o : OrderId) (f : Order → Order) : State := { s with orders := upd s.orders o f }
def State.onEntry (s : State) (p : PrinterId) (f : StockEntry → StockEntry) : State := { s with stock := upd s.stock p f }
def State.onPrinter (s : State) (p : PrinterId) (f : Printer → Printer) : State := { s with printers := upd s.printers p f }
def State.onNote (s : State) (o : OrderId) (f : Option Nat → Option Nat) : State := { s with retryNotes := upd s.retryNotes o f }
def State.onBay (s : State) (b : BayId) (f : Bay → Bay) : State := { s with bays := upd s.bays b f }
def State.onAperture (s : State) (a : ApertureId) (f : Aperture → Aperture) : State := { s with apertures := upd s.apertures a f }
def State.onTerminal (s : State) (f : Terminal → Terminal) : State := { s with terminal := f s.terminal }
def State.onPort (s : State) (f : Port → Port) : State := { s with port := f s.port }
def State.onPrice (s : State) (f : PriceUnit → PriceUnit) : State := { s with price := f s.price }

/-- What the part sends joins the record of this step. -/
def State.emit (s : State) (o : Out) : State := { s with out := s.out ++ [o] }

/-- Applies a change to the state once for each member of a list, in list order. -/
def forEach {α : Type} (l : List α) (f : α → State → State) (s : State) : State := l.foldl (fun t a => f a t) s

/-! ## Counts, deadlines and timers -/

/-- A 16-bit count that stops at its maximum (R80, R101, R125, R148). -/
def bump (n : Nat) : Nat := if n < Config.maxCount then n + 1 else n

/-- The CLOCK value a number of whole seconds ahead. -/
def State.after (s : State) (seconds : Nat) : W32 := s.clock + BitVec.ofNat 32 seconds

/-- Whole seconds from CLOCK to a deadline, 0 once it has passed. CLOCK wraps, so the difference is read as a signed word. -/
def secondsLeft (clock deadline : W32) : Nat := if (deadline - clock).msb then 0 else (deadline - clock).toNat

def Timer.isRunning : Timer → Bool
  | .running _ => true
  | _ => false

def Timer.pause : Timer → Timer
  | .running n => .paused n
  | t => t

def Timer.resume : Timer → Timer
  | .paused n => .running n
  | t => t

/-- One millisecond of a running timer. -/
def Timer.tick : Timer → Timer
  | .running n => .running (n - 1)
  | t => t

/-! ## Sizes, items and orders (R21) -/

def sizeIndex : Size → Fin 4
  | .p2 => 0 | .p4 => 1 | .p6 => 2 | .p8 => 3

/-- R21: media units per copy. -/
def sizeUnits : Size → Nat
  | .p2 => 2 | .p4 => 4 | .p6 => 6 | .p8 => 8

/-- R21: stripes of a raster. -/
def sizeStripes : Size → Nat
  | .p2 => 75 | .p4 => 150 | .p6 => 225 | .p8 => 300

/-- R21: bytes of a stripe: 8 rows of 1,800 pixels of 3 bytes. -/
def stripeBytes : Nat := 43200

/-- R21: bytes of a raster. -/
def rasterBytes (z : Size) : Nat := sizeStripes z * stripeBytes

/-- R21: the copies of an item that remain to be begun. -/
def remaining (i : Item) : Nat :=
  if i.dropped ∨ i.state = .done ∨ i.state = .unprintable then 0 else i.quantity - i.printed - i.failed - i.inFlight

/-- The media units of an order's copies that remain to be begun (R33, R72). -/
def remainingUnits (o : Order) : Nat := (o.items.map fun i => sizeUnits i.size * remaining i).sum

/-- An order outside CLOSED and CANCELLED (R2). -/
def nonFinal (o : Order) : Bool := o.state != .free && o.state != .closed && o.state != .cancelled

/-- R152: the raster of an item is live until the item is DONE or UNPRINTABLE or the order is final. -/
def rasterLive (o : Order) (i : Item) : Bool := nonFinal o && (i.state == .pending || i.state == .active)

/-- R40: an order holding an UNPRINTABLE item. -/
def hasUnprintable (o : Order) : Bool := o.items.any fun i => i.state == .unprintable

/-- R35: every item DONE or UNPRINTABLE and no copy in flight. -/
def finishedPrinting (o : Order) : Bool :=
  o.items.all fun i => (i.state == .done || i.state == .unprintable) && i.inFlight == 0

/-- R19: a handle is current while its record is not FREE and has its serial. -/
def State.isCurrent (s : State) (h : Handle) : Bool := (s.order h.index).state != .free && (s.order h.index).serial == h.serial

/-- The non-final count of a session's order list (R3). -/
def State.nonFinalCount (s : State) (i : SessionId) : Nat := ((s.session i).orders.filter fun o => nonFinal (s.order o)).length

/-! ## What the lamps and records show of a station (R14, R16) -/

/-- R16: BAY_FAULTED. -/
def State.bayFaulted (s : State) (i : StationId) : Bool := (s.bay i).state == .faulted

/-- R16: ORDER_HELD: an order in the list of the station's ACTIVE session is HELD. -/
def State.orderHeld (s : State) (i : StationId) : Bool :=
  match (s.station i).session with
  | some k => (s.session k).orders.any fun o => (s.order o).state == .held
  | none => false

/-- R16: PAY_NOTICE. -/
def State.payNotice (s : State) (i : StationId) : Bool := (s.station i).notice.isSome

/-- R16: some cause of the CALL lamp is present. -/
def State.callCause (s : State) (i : StationId) : Bool := s.bayFaulted i || s.orderHeld i || s.payNotice i

/-! ## Stock figures (R62 to R67) -/

/-- R65: an item of an order that is not UNPRINTABLE. -/
def itemPrintable (o : Order) (k : Nat) : Bool :=
  match o.items[k]? with
  | some i => i.state != .unprintable
  | none => true

/-- R65: the units of the copy in flight on a printer that a release has not taken early, if it is of the order and its item is not
UNPRINTABLE. DEDUCED, unsafe: log entry 13. -/
def State.inFlightUnits (s : State) (p : PrinterId) (o : OrderId) : Nat :=
  match (s.printer p).copy with
  | some c => if c.order = o ∧ c.releasedEarly = false ∧ itemPrintable (s.order o) c.item = true then sizeUnits c.size else 0
  | none => 0

/-- R65, R66: the media units a placed order's printer still has to supply for it. -/
def State.reservation (s : State) (o : OrderId) : Nat :=
  match (s.order o).placement with
  | some p => remainingUnits (s.order o) + s.inFlightUnits p o
  | none => 0

/-- R62: the sum of the reservations of the orders placed on a printer. -/
def State.reserved (s : State) (p : PrinterId) : Nat :=
  ((List.finRange 32).map fun o => if (s.order o).placement = some p then s.reservation o else 0).sum

/-- R62, R70: the units of a copy still in flight whose order is not placed on the printer. That the copy of an UNPRINTABLE item, which
is outside the reservation (log entry 13), counts here in full once its order has left, so that committed rises by it at the move where
R70 has committed unchanged, is a DESIGN CHOICE, unsafe: log entry 44. -/
def State.trailing (s : State) (p : PrinterId) : Nat :=
  match (s.printer p).copy with
  | some c => if c.releasedEarly = true ∨ (s.order c.order).placement = some p then 0 else sizeUnits c.size
  | none => 0

/-- R62. A move of an order can raise it by the copy of an UNPRINTABLE item: DESIGN CHOICE, unsafe: log entry 44. -/
def State.committed (s : State) (p : PrinterId) : Nat := s.reserved p + s.trailing p + (s.entry p).pendingConsumption

/-- R63. -/
def State.usable (s : State) (p : PrinterId) : Nat :=
  match (s.printer p).state with
  | .ready | .printing | .paused => (s.entry p).reported
  | .faulted | .offline => if (s.entry p).grace.isSome then (s.entry p).reported else 0
  | .service | .absent => 0

/-- R62. -/
def State.freeRoom (s : State) (p : PrinterId) : Nat := s.usable p - s.committed p

/-- R67: the printer that can take the reservation with the larger free room, printer 0 if they are equal. -/
def State.choosePrinter (s : State) (need : Nat) : Option PrinterId :=
  if need ≤ s.freeRoom 0 ∧ need ≤ s.freeRoom 1 then (if s.freeRoom 1 ≤ s.freeRoom 0 then some 0 else some 1)
  else if need ≤ s.freeRoom 0 then some 0
  else if need ≤ s.freeRoom 1 then some 1
  else none

/-- The other printer. -/
def otherPrinter (p : PrinterId) : PrinterId := if p = 0 then 1 else 0

/-! ## Areas and use counts (R151, R152) -/

/-- R152: the live rasters accepted through an aperture. -/
def State.liveRasters (s : State) (a : ApertureId) : Nat :=
  ((List.finRange 32).map fun o => ((s.order o).items.filter fun i => rasterLive (s.order o) i && i.aperture == a).length).sum

/-- The live card buffers of one read in an aperture. -/
def readAreas (a : ApertureId) (r : Read) : Nat :=
  (if r.liveA = true ∧ r.apertureA = a then 1 else 0) + (if r.mode = .alternate ∧ r.liveB = true ∧ r.apertureB = a then 1 else 0)

/-- R152: the live card buffers accepted through an aperture. -/
def State.liveBuffers (s : State) (a : ApertureId) : Nat :=
  ((List.finRange 4).map fun b => (((s.bay b).active.toList ++ (s.bay b).waiting).map (readAreas a)).sum).sum

/-- R152: the live price image accepted through an aperture. -/
def State.liveImages (s : State) (a : ApertureId) : Nat :=
  match s.price.load with
  | some l => if l.aperture = a ∧ l.areaDead = false then 1 else 0
  | none => 0

/-- R152: the use count of an aperture: the number of live host areas accepted through it. -/
def State.useCount (s : State) (a : ApertureId) : Nat := s.liveRasters a + s.liveBuffers a + s.liveImages a

/-- R150, R151: whether an access allows a direction. -/
def allows : Access → Direction → Bool
  | .readWrite, _ => true
  | .read, .read => true
  | .write, .write => true
  | _, _ => false

/-- R151: the three conditions an aperture meets for an area. -/
def accepts (e : Aperture) (d : Direction) (address length : Nat) : Bool :=
  e.state == .active && allows e.access d && decide (e.base ≤ address) && decide (address + length ≤ e.base + e.limit)

/-- R151: the lowest-indexed aperture that passes the area. -/
def State.findAperture (s : State) (d : Direction) (address length : Nat) : Option ApertureId :=
  (List.finRange 8).find? fun a => accepts (s.aperture a) d address length

/-! ## Requesters of the master port (R156) -/

/-- The position of a requester in the two rings. -/
def requesterIndex : Requester → Fin 7
  | .printer p => ⟨p.val, by omega⟩
  | .bay b => ⟨2 + b.val, by omega⟩
  | .load => 6

/-- A transfer joins the end of its requester's line. -/
def State.present (s : State) (t : Transfer) : State :=
  s.onPort fun q => { q with lines := upd q.lines (requesterIndex t.requester) (· ++ [t]) }

/-- R157: the transfers of a requester that have not been granted leave its line. -/
def State.withdraw (s : State) (r : Requester) : State := s.onPort fun q => { q with lines := upd q.lines (requesterIndex r) fun _ => [] }

/-- R153, R156: a granted transfer is in progress until it ends. -/
def inProgress (g : Granted) : Bool := g.outcome.isNone

/-- A requester has a transfer in its line or granted and not yet told. -/
def State.hasTransfer (s : State) (r : Requester) : Bool :=
  !(look s.port.lines (requesterIndex r)).isEmpty || s.port.granted.any fun g => g.transfer.requester == r

end Sys2Proof.Machine
end

