-- ==== Sys2Proof/Machine/Layout.lean ====
section
/-! DEFINITION. Record Layouts (R184): the byte form of every record, result and control word the host reads in the exchange window
(R161), each layout as a table of fields with offset, size and value. The change bits compare the same tables (Flags). -/

namespace Sys2Proof.Machine

/-- A field of a record: its offset, its size in bytes and its value, little-endian (R184). Bytes of no field read zero. -/
structure Field where
  offset : Nat
  size : Nat
  value : Nat
  deriving DecidableEq, Repr

/-- The byte of a record at an offset. -/
def fieldByte : List Field → Nat → Byte
  | [], _ => 0
  | f :: rest, a =>
    if f.offset ≤ a ∧ a < f.offset + f.size then BitVec.ofNat 8 (f.value / 256 ^ (a - f.offset)) else fieldByte rest a

/-- A mask of bits, the first the least significant. -/
def maskOf : List Bool → Nat
  | [] => 0
  | b :: rest => (if b then 1 else 0) + 2 * maskOf rest

def flag (b : Bool) : Nat := if b then 1 else 0

/-- An absent field reads zero (R184). -/
def orZero {α : Type} (v : α → Nat) : Option α → Nat
  | some x => v x
  | none => 0

def word32 (v : Option W32) : Nat := orZero BitVec.toNat v

/-- One-byte entries of a list from an offset on. -/
def byteList (offset : Nat) : List Nat → List Field
  | [] => []
  | v :: rest => { offset := offset, size := 1, value := v } :: byteList (offset + 1) rest

/-! ## Codes (R184): each the position of its value in the manual's list -/

def statusCode (x : Status) : Nat := x.ctorIdx
def reasonCode (x : Reason) : Nat := x.ctorIdx
def slotStateCode (x : SlotState) : Nat := x.ctorIdx
def sessionStateCode (x : SessionState) : Nat := x.ctorIdx
def closeCauseCode (x : CloseCause) : Nat := x.ctorIdx
def readyModeCode (x : ReadyMode) : Nat := x.ctorIdx
def orderStateCode (x : OrderState) : Nat := x.ctorIdx
def draftReasonCode (x : DraftReason) : Nat := x.ctorIdx
def holdReasonCode (x : HoldReason) : Nat := x.ctorIdx
def payOutcomeCode (x : PayOutcome) : Nat := x.ctorIdx
def settleStatusCode (x : SettleStatus) : Nat := x.ctorIdx
def sizeCode (x : Size) : Nat := x.ctorIdx
def finishCode (x : Finish) : Nat := x.ctorIdx
def itemStateCode (x : ItemState) : Nat := x.ctorIdx
def bayStateCode (x : BayState) : Nat := x.ctorIdx
def cardRunCode (x : CardRun) : Nat := x.ctorIdx
def readModeCode (x : ReadMode) : Nat := x.ctorIdx
def targetCode (x : Target) : Nat := x.ctorIdx
def printerStateCode (x : PrinterState) : Nat := x.ctorIdx
def headClassCode (x : HeadClass) : Nat := x.ctorIdx
def copyResultCode (x : CopyResult) : Nat := x.ctorIdx
def terminalStateCode (x : TerminalState) : Nat := x.ctorIdx
/-- The list of holder kinds begins with none. -/
def holderKindCode (x : HolderKind) : Nat := x.ctorIdx + 1
def exchangeCode (x : Exchange) : Nat := x.ctorIdx
def accessCode (x : Access) : Nat := x.ctorIdx
def apertureStateCode (x : ApertureState) : Nat := x.ctorIdx
def directionCode (x : Direction) : Nat := x.ctorIdx
def faultCauseCode (x : FaultCause) : Nat := x.ctorIdx
def loadOutcomeCode (x : LoadOutcome) : Nat := x.ctorIdx
def violationCode (x : Violation) : Nat := x.ctorIdx
def requesterCode (x : Requester) : Nat := (requesterIndex x).val
/-- HEARD 0, SILENT 1. -/
def linkCode (heard : Bool) : Nat := if heard then 0 else 1

def holdCode : QuoteHold → Nat
  | .none => 0 | .running _ => 1 | .stopped => 2

/-- R14: NONE without a session, RUNNING with a deadline, STOPPED without one. -/
def watchCode (s : State) (i : StationId) : Nat :=
  match (s.station i).session with
  | none => 0
  | some k => if (s.session k).deadline.isSome then 1 else 2

/-! ## Unit status records. `counting` says whether countdown and progress fields are filled in. A list takes the room its layout has. -/

/-- The 16-byte common header. -/
def header (unitClass number mask live latched : Nat) : List Field :=
  [⟨0, 1, unitClass⟩, ⟨1, 1, number⟩, ⟨4, 4, mask⟩, ⟨8, 2, live⟩, ⟨10, 2, latched⟩]

/-- R14. -/
def stationRecord (s : State) (counting : Bool) (i : StationId) : List Field :=
  let t := s.station i
  let session := t.session.map s.session
  let deadline := session.bind (·.deadline)
  header 0 i.val (maskOf [t.session.isSome, deadline.isSome, t.notice.isSome, t.last.isSome]) (maskOf [t.noRoomLive])
      (maskOf [t.noRoomLatched, t.idleClosed])
    ++ [⟨16, 1, orZero Fin.val t.session⟩, ⟨17, 1, watchCode s i⟩,
        ⟨18, 2, if counting then orZero (secondsLeft s.clock) deadline else 0⟩, ⟨20, 4, orZero (·.openedAt.toNat) session⟩,
        ⟨24, 1, orZero s.nonFinalCount t.session⟩, ⟨25, 1, t.draining⟩, ⟨26, 1, readyModeCode t.ready⟩, ⟨27, 1, flag t.call⟩,
        ⟨28, 1, maskOf [s.bayFaulted i, s.orderHeld i, s.payNotice i]⟩,
        ⟨29, 1, if counting then orZero (secondsLeft s.clock) t.notice else 0⟩,
        ⟨30, 1, orZero (·.index.val) t.last⟩, ⟨31, 1, orZero (fun l => closeCauseCode l.cause) t.last⟩,
        ⟨32, 4, orZero (·.clock.toNat) t.last⟩, ⟨36, 1, orZero (·.orders.length) session⟩]
    ++ byteList 40 (match session with | some k => (k.orders.take 32).map Fin.val | none => [])

/-- R114: the current target of an ALTERNATE read. -/
def currentTarget (r : Read) : Target := if r.filled % 2 = 0 then .a else .b

/-- R125. -/
def bayRecord (s : State) (counting : Bool) (i : BayId) : List Field :=
  let b := s.bay i
  header 1 i.val (maskOf [b.card.isSome, b.active.isSome, b.last.isSome]) (maskOf [s.bayFaulted i, b.giveBackWait])
      (maskOf [b.latched.identFault, b.latched.giveBackWait, b.latched.readFault, b.latched.removedDuringRead, b.latched.stalled])
    ++ [⟨16, 1, bayStateCode b.state⟩, ⟨17, 1, flag b.contact⟩, ⟨18, 2, b.generation.toNat⟩,
        ⟨20, 4, orZero (·.capacity) b.card⟩, ⟨24, 4, orZero (·.serial.toNat) b.card⟩, ⟨28, 4, orZero (·.identifiedAt.toNat) b.card⟩,
        ⟨32, 1, cardRunCode b.run⟩, ⟨33, 1, orZero (·.slot.val) b.active⟩, ⟨34, 1, orZero (fun r => readModeCode r.mode) b.active⟩,
        ⟨35, 1, orZero (fun r => targetCode (currentTarget r)) b.active⟩, ⟨36, 4, orZero (·.first) b.active⟩,
        ⟨40, 2, orZero (·.count) b.active⟩, ⟨42, 2, if counting then orZero (·.delivered) b.active else 0⟩,
        ⟨44, 4, orZero (·.chunk) b.active⟩, ⟨48, 2, orZero (·.filled) b.active⟩, ⟨50, 2, orZero (·.givenBack) b.active⟩,
        ⟨52, 2, if counting then orZero (·.waited) b.active else 0⟩, ⟨54, 1, b.waiting.length⟩]
    ++ byteList 56 ((b.waiting.take 4).map (·.slot.val))
    ++ [⟨60, 1, orZero (·.slot.val) b.last⟩, ⟨61, 1, orZero (fun l => statusCode l.status) b.last⟩, ⟨64, 4, orZero (·.clock.toNat) b.last⟩,
        ⟨68, 2, b.counts.cardsAccepted⟩, ⟨70, 2, b.counts.blockRetries⟩, ⟨72, 2, b.counts.readsOk⟩, ⟨74, 2, b.counts.readsOther⟩]

/-- R94: the five reported conditions, bits 0 to 4. -/
def conditionBits (c : Conditions) : List Bool := [c.jam, c.mediaOut, c.overheat, c.doorOpen, c.headCooling]

/-- R76, R101. -/
def printerRecord (s : State) (counting : Bool) (i : PrinterId) : List Field :=
  let p := s.printer i
  let e := s.entry i
  let abort := p.copy.bind (·.abortCause)
  header 2 i.val (maskOf [p.linkChangedAt.isSome, p.head.isSome, p.pack.isSome, p.copy.isSome, abort.isSome, p.last.isSome])
      (maskOf (conditionBits p.live.reported ++ [p.live.linkSilent]))
      (maskOf (conditionBits p.latched.reported ++ [p.latched.linkSilent, p.latched.underrun, p.latched.packChanged, p.latched.overheatStop]))
    ++ [⟨16, 1, printerStateCode p.state⟩, ⟨17, 1, flag p.servicePending⟩, ⟨18, 1, flag p.overheatLock⟩, ⟨19, 1, linkCode p.linkHeard⟩,
        ⟨20, 4, word32 p.linkChangedAt⟩, ⟨24, 1, orZero headClassCode p.head⟩, ⟨26, 2, p.packChanges⟩, ⟨28, 4, word32 p.pack⟩,
        ⟨32, 1, p.queue.length⟩, ⟨33, 1, s.heldList.length⟩]
    ++ byteList 36 ((p.queue.take 32).map Fin.val) ++ byteList 68 ((s.heldList.take 32).map Fin.val)
    ++ [⟨100, 2, orZero (·.id.toNat) p.copy⟩, ⟨102, 1, orZero (·.order.val) p.copy⟩, ⟨103, 1, orZero (·.item) p.copy⟩,
        ⟨104, 1, orZero (fun c => sizeCode c.size) p.copy⟩, ⟨105, 1, orZero (fun c => finishCode c.finish) p.copy⟩,
        ⟨106, 1, orZero (·.attempt) p.copy⟩, ⟨107, 1, orZero (fun c => flag c.held) p.copy⟩,
        ⟨108, 2, orZero (fun c => c.highest.getD 0xFFFF) p.copy⟩, ⟨110, 1, orZero copyResultCode abort⟩,
        ⟨112, 2, if counting then orZero (fun c => sizeStripes c.size - c.sent) p.copy else 0⟩,
        ⟨116, 2, orZero (·.id.toNat) p.last⟩, ⟨118, 1, orZero (fun l => copyResultCode l.result) p.last⟩, ⟨119, 1, orZero (·.consumed) p.last⟩,
        ⟨120, 2, p.nextCopyId.toNat⟩, ⟨122, 2, p.counts.copiesOk⟩, ⟨124, 2, p.counts.copiesFailed⟩, ⟨126, 2, p.counts.underruns⟩,
        ⟨128, 2, p.counts.discarded⟩, ⟨130, 2, p.counts.stray⟩, ⟨132, 2, p.counts.sequence⟩,
        ⟨136, 2, e.reported⟩, ⟨138, 2, s.usable i⟩, ⟨140, 2, s.reserved i⟩, ⟨142, 1, s.trailing i⟩, ⟨143, 1, e.pendingConsumption⟩,
        ⟨144, 2, s.committed i⟩, ⟨146, 2, s.freeRoom i⟩, ⟨148, 1, flag e.grace.isSome⟩,
        ⟨150, 2, if counting then orZero (secondsLeft s.clock) e.grace else 0⟩]

/-- R145: counts and sums in the order approvals, captures, voids, uncollected, abandoned. -/
def tillPairs (t : Till) : List TillPair := [t.approvals, t.captures, t.voids, t.uncollected, t.abandoned]

def tillFigures (offset : Nat) : List TillPair → List Field
  | [] => []
  | p :: rest => ⟨offset, 4, p.count⟩ :: ⟨offset + 4, 4, p.sum⟩ :: tillFigures (offset + 8) rest

/-- Bit 2k is the count's and bit 2k + 1 the sum's. -/
def tillSaturated (t : Till) : Nat := maskOf ((tillPairs t).flatMap fun p => [p.countSat, p.sumSat])

/-- R148: the limit of the holder that will next expire, in whole seconds. -/
def limitRemaining (clock : W32) (h : Holder) : Nat :=
  let limits := [h.cardWaitLimit, h.authorizationLimit, h.abortLimit, h.answerLimit].filterMap id
  match limits.map (secondsLeft clock) with
  | [] => 0
  | x :: rest => rest.foldl min x

def waitFields (offset : Nat) : List PayEntry → List Field
  | [] => []
  | e :: rest => ⟨offset, 1, e.slot.val⟩ :: ⟨offset + 1, 1, e.order.val⟩ :: ⟨offset + 2, 1, e.station.val⟩ :: waitFields (offset + 4) rest

def voidFields (offset : Nat) : List VoidEntry → List Field
  | [] => []
  | e :: rest => ⟨offset, 2, e.reference.toNat⟩ :: ⟨offset + 2, 1, e.attempts⟩ :: ⟨offset + 4, 4, e.amount⟩ :: voidFields (offset + 8) rest

/-- R148. -/
def terminalRecord (s : State) (counting : Bool) : List Field :=
  let t := s.terminal
  header 3 0 (maskOf [t.linkChangedAt.isSome, t.holder.isSome, (t.holder.bind (·.order)).isSome, (t.holder.bind (·.slot)).isSome])
      (maskOf [t.linkSilentLive]) (maskOf [t.latched.linkSilent, t.latched.authLost, t.latched.voidAbandoned, t.latched.uncollected])
    ++ [⟨16, 1, terminalStateCode t.state⟩, ⟨17, 1, linkCode t.linkHeard⟩, ⟨32, 4, word32 t.linkChangedAt⟩,
        ⟨18, 1, orZero (fun h => holderKindCode h.kind) t.holder⟩, ⟨19, 1, orZero (fun h => exchangeCode h.exchange) t.holder⟩,
        ⟨20, 2, orZero (·.reference.toNat) t.holder⟩, ⟨22, 1, orZero Fin.val (t.holder.bind (·.order))⟩,
        ⟨23, 1, orZero Fin.val (t.holder.bind (·.slot))⟩, ⟨24, 4, orZero (·.amount) t.holder⟩,
        ⟨28, 2, if counting then orZero (limitRemaining s.clock) t.holder else 0⟩, ⟨30, 2, t.nextReference.toNat⟩,
        ⟨36, 2, s.timers.authorization⟩, ⟨38, 1, t.waitList.length⟩]
    ++ waitFields 40 (t.waitList.take 4)
    ++ [⟨56, 4, (t.pendingSettlements.map fun e => 2 ^ e.order.val).sum⟩,
        ⟨60, 8, (t.pendingSettlements.map fun e => e.attempts * 4 ^ e.order.val).sum⟩, ⟨68, 1, t.voidList.length⟩]
    ++ voidFields 72 (t.voidList.take 16)
    ++ [⟨200, 4, t.till.openedAt.toNat⟩] ++ tillFigures 204 (tillPairs t.till)
    ++ [⟨244, 2, tillSaturated t.till⟩, ⟨246, 2, t.counts.discarded⟩, ⟨248, 2, t.counts.stray⟩, ⟨250, 2, t.counts.lateCaptures⟩]

/-- R51: a size is offered. -/
def anyOffered (t : PriceTable) : Bool := t.sizes.toList.any (·.offered)

/-- R51, R184. The presence bits of the load in work, installed at and the last load are 0, 1 and 2. DESIGN CHOICE, unsafe: log entry 29.
The unit number, which no rule gives for the price table, reads 0. DESIGN CHOICE, unsafe: log entry 45. -/
def priceRecord (s : State) : List Field :=
  let u := s.price
  header 4 0 (maskOf [u.load.isSome, u.table.installedAt.isSome, u.last.isSome]) (maskOf [!anyOffered u.table])
      (maskOf [u.emptyLatched, u.loadFailedLatched])
    ++ [⟨16, 1, flag (anyOffered u.table)⟩, ⟨17, 1, orZero (fun l => if l.fetching then 2 else 1) u.load⟩,
        ⟨18, 1, orZero (·.slot.val) u.load⟩, ⟨19, 1, orZero (fun l => loadOutcomeCode l.outcome) u.last⟩, ⟨20, 4, u.table.tag.toNat⟩,
        ⟨24, 4, word32 u.table.installedAt⟩, ⟨28, 4, orZero (·.tag.toNat) u.load⟩, ⟨32, 4, orZero (·.clock.toNat) u.last⟩,
        ⟨36, 1, orZero Prod.fst (u.last.bind (·.failure))⟩, ⟨37, 1, orZero (fun f => violationCode f.2) (u.last.bind (·.failure))⟩]

/-- R184: records 0 to 3 are the stations, 4 to 7 the bays, 8 and 9 the printers, 10 the terminal, 11 the price table. -/
def unitRecord (s : State) (counting : Bool) (n : UnitId) : List Field :=
  if h : n.val < 4 then stationRecord s counting ⟨n.val, h⟩
  else if h : n.val < 8 then bayRecord s counting ⟨n.val - 4, by omega⟩
  else if h : n.val < 10 then printerRecord s counting ⟨n.val - 8, by omega⟩
  else if n.val = 10 then terminalRecord s counting
  else priceRecord s

/-! ## Order board (R42) -/

def itemFields (offset : Nat) : List Item → List Field
  | [] => []
  | i :: rest =>
    [⟨offset, 1, sizeCode i.size⟩, ⟨offset + 1, 1, finishCode i.finish⟩, ⟨offset + 2, 1, i.quantity⟩, ⟨offset + 3, 1, itemStateCode i.state⟩,
     ⟨offset + 4, 1, i.printed⟩, ⟨offset + 5, 1, i.failed⟩, ⟨offset + 6, 1, i.inFlight⟩, ⟨offset + 7, 1, i.aperture.val⟩,
     ⟨offset + 8, 8, i.address⟩] ++ itemFields (offset + 16) rest

/-- The fixed unit price of a size. -/
def unitPriceOf (f : FixedPrices) (z : Size) : Option Nat := look f.unitPrice (sizeIndex z)

/-- The characters of an authorization code as one little-endian number. -/
def charsNumber (l : List Byte) : Nat := ofLeBytes l

def holdRemaining (clock : W32) : QuoteHold → Nat
  | .running d => secondsLeft clock d
  | _ => 0

/-- R20, R42: an order record; a FREE record reads all zero. -/
def orderRecord (s : State) (counting : Bool) (n : OrderId) : List Field :=
  let o := s.order n
  if o.state = .free then [] else
    let price := fun z => o.prices.bind (unitPriceOf · z)
    [⟨0, 1, n.val⟩, ⟨1, 1, orderStateCode o.state⟩, ⟨2, 1, o.station.val⟩, ⟨3, 1, o.session.val⟩, ⟨4, 4, o.serial.toNat⟩,
     ⟨8, 4, maskOf [o.promotion.isSome, o.placement.isSome, o.draftReason.isSome, o.holdReason.isSome, (price .p2).isSome, (price .p4).isSome,
        (price .p6).isSome, (price .p8).isSome, o.prices.isSome, o.reference.isSome, o.lastOutcome.isSome, o.approved.isSome, o.code.isSome,
        o.settlement.isSome, o.quotedAt.isSome, o.paidAt.isSome, o.closedAt.isSome]⟩,
     ⟨12, 1, o.items.length⟩, ⟨13, 1, orZero id o.promotion⟩, ⟨14, 1, orZero Fin.val o.placement⟩, ⟨15, 1, holdCode o.hold⟩,
     ⟨16, 2, if counting then holdRemaining s.clock o.hold else 0⟩, ⟨18, 2, s.reservation n⟩, ⟨20, 1, orZero draftReasonCode o.draftReason⟩,
     ⟨21, 1, orZero holdReasonCode o.holdReason⟩, ⟨22, 1, flag o.cancelRequested⟩, ⟨23, 1, flag o.uncertain⟩,
     ⟨24, 2, orZero id (price .p2)⟩, ⟨26, 2, orZero id (price .p4)⟩, ⟨28, 2, orZero id (price .p6)⟩, ⟨30, 2, orZero id (price .p8)⟩,
     ⟨32, 2, orZero (·.surcharge) o.prices⟩, ⟨34, 2, orZero (·.rate) o.prices⟩, ⟨36, 2, orZero (·.taxRate) o.prices⟩,
     ⟨38, 2, orZero (·.currency) o.prices⟩, ⟨40, 4, orZero (·.subtotal) o.prices⟩, ⟨44, 4, orZero (·.discount) o.prices⟩,
     ⟨48, 4, orZero (·.tax) o.prices⟩, ⟨52, 4, orZero (·.total) o.prices⟩, ⟨56, 2, orZero BitVec.toNat o.reference⟩,
     ⟨58, 1, orZero payOutcomeCode o.lastOutcome⟩, ⟨59, 1, settleStatusCode o.settleStatus⟩, ⟨60, 4, orZero id o.approved⟩,
     ⟨64, 6, orZero charsNumber o.code⟩, ⟨72, 4, orZero id o.settlement⟩, ⟨76, 4, o.captured⟩, ⟨80, 4, o.openedAt.toNat⟩,
     ⟨84, 4, word32 o.quotedAt⟩, ⟨88, 4, word32 o.paidAt⟩, ⟨92, 4, word32 o.closedAt⟩]
      ++ itemFields 128 o.items

/-! ## Price table image and view (R45, R50) -/

def tierFields (offset : Nat) : List Tier → List Field
  | [] => []
  | t :: rest => ⟨offset, 2, t.threshold⟩ :: ⟨offset + 2, 2, t.price⟩ :: tierFields (offset + 4) rest

def sizeEntryFields (offset : Nat) (e : SizeEntry) : List Field :=
  [⟨offset, 1, flag e.offered⟩, ⟨offset + 1, 1, e.tiers.length⟩, ⟨offset + 4, 2, e.base⟩] ++ tierFields (offset + 8) e.tiers

def promotionFields (offset : Nat) : List Promotion → List Field
  | [] => []
  | p :: rest => ⟨offset, 2, p.rate⟩ :: ⟨offset + 4, 4, p.minimum⟩ :: promotionFields (offset + 8) rest

/-- The image, then the tag at 0x100, installed at and its presence byte. -/
def priceView (t : PriceTable) : List Field :=
  sizeEntryFields 0 (look t.sizes 0) ++ sizeEntryFields 24 (look t.sizes 1) ++ sizeEntryFields 48 (look t.sizes 2)
    ++ sizeEntryFields 72 (look t.sizes 3)
    ++ [⟨0x60, 2, t.surcharge⟩, ⟨0x62, 2, t.taxRate⟩, ⟨0x64, 2, t.currency⟩] ++ promotionFields 0x70 t.promotions.toList
    ++ [⟨0x100, 4, t.tag.toNat⟩, ⟨0x104, 4, word32 t.installedAt⟩, ⟨0x108, 1, flag t.installedAt.isSome⟩]

/-! ## Results (R164, R184): the presence mask and the fields from byte 400 -/

def handleFields (offset : Nat) (h : Handle) : List Field := [⟨offset, 1, h.index.val⟩, ⟨offset + 4, 4, h.serial.toNat⟩]

/-- The 40-byte aperture entry picture. -/
def pictureFields (offset : Nat) (p : AperturePicture) : List Field :=
  let f := p.entry.fault
  [⟨offset, 8, p.entry.base⟩, ⟨offset + 8, 8, p.entry.limit⟩, ⟨offset + 16, 1, accessCode p.entry.access⟩,
   ⟨offset + 17, 1, apertureStateCode p.entry.state⟩, ⟨offset + 18, 2, p.useCount⟩, ⟨offset + 20, 4, orZero (·.clock.toNat) f⟩,
   ⟨offset + 24, 1, orZero (fun r => directionCode r.direction) f⟩, ⟨offset + 25, 1, orZero (fun r => requesterCode r.requester) f⟩,
   ⟨offset + 26, 1, orZero (fun r => faultCauseCode r.cause) f⟩, ⟨offset + 28, 8, orZero (·.address) f⟩, ⟨offset + 36, 2, orZero (·.areasDied) f⟩]

def tableFields (offset : Nat) : List AperturePicture → List Field
  | [] => []
  | p :: rest => ⟨offset, 1, apertureStateCode p.entry.state⟩ :: ⟨offset + 2, 2, p.useCount⟩ :: tableFields (offset + 4) rest

/-- The presence mask of a result. The two fault records of a SET_APERTURE have no bits in the manual's layout; they take bits 0 and 1, in the
order in which the optional fields are listed. DESIGN CHOICE, unsafe: log entry 34. -/
def bodyMask : Body → Nat
  | .paymentOpen _ => 1
  | .badField _ => 1
  | .quoteItem _ => 1
  | .quoteTooLarge _ => 2
  | .quoteNoMedia _ => 4
  | .pay r => maskOf [r.approved.isSome, r.code.isSome, r.reason.isSome, r.granted.isSome]
  | .read r => maskOf [r.target.isSome, r.lastBytes.isSome, r.failing.isSome, r.waited.isSome, r.aperture.isSome]
  | .loaded _ _ _ _ => 1
  | .loadBad _ _ => 2
  | .loadFault _ => 4
  | .apertures before after _ => maskOf [before.entry.fault.isSome, after.entry.fault.isSome]
  | _ => 0

def bodyFields : Body → List Field
  | .zero => []
  | .openSession i t idle => [⟨400, 1, i.val⟩, ⟨404, 4, t.toNat⟩, ⟨408, 2, idle⟩]
  | .closeSession i st c e => [⟨400, 1, i.val⟩, ⟨401, 1, sessionStateCode st⟩, ⟨402, 1, c⟩, ⟨403, 1, e⟩]
  | .paymentOpen h => handleFields 404 h
  | .openOrder h i n => handleFields 400 h ++ [⟨408, 1, i.val⟩, ⟨409, 1, n⟩]
  | .addItem p c => [⟨400, 1, p⟩, ⟨401, 1, c⟩]
  | .badField n => [⟨402, 1, n⟩]
  | .itemCount c => [⟨400, 1, c⟩]
  | .quoted f p r =>
    [⟨400, 4, f.subtotal⟩, ⟨404, 4, f.discount⟩, ⟨408, 4, f.tax⟩, ⟨412, 4, f.total⟩, ⟨416, 2, f.rate⟩, ⟨418, 1, p.val⟩, ⟨420, 2, r⟩]
  | .quoteItem p => [⟨422, 1, p⟩]
  | .quoteTooLarge t => [⟨423, 4, t⟩]
  | .quoteNoMedia u => [⟨427, 2, u⟩]
  | .pay r =>
    [⟨400, 2, r.reference.toNat⟩, ⟨404, 4, r.asked⟩, ⟨408, 4, orZero id r.approved⟩, ⟨412, 6, orZero charsNumber r.code⟩,
     ⟨418, 1, orZero BitVec.toNat r.reason⟩, ⟨420, 4, word32 r.granted⟩]
  | .orderState st => [⟨400, 1, orderStateCode st⟩]
  | .retired st ss a c => [⟨400, 1, orderStateCode st⟩, ⟨401, 1, settleStatusCode ss⟩, ⟨404, 4, a⟩, ⟨408, 4, c⟩]
  | .read r =>
    [⟨400, 2, r.generation.toNat⟩, ⟨404, 4, r.serial.toNat⟩, ⟨408, 2, r.delivered⟩, ⟨410, 2, r.filled⟩, ⟨412, 2, r.givenBack⟩,
     ⟨414, 1, orZero targetCode r.target⟩, ⟨416, 4, orZero id r.lastBytes⟩, ⟨420, 4, orZero id r.failing⟩, ⟨424, 2, orZero id r.waited⟩,
     ⟨426, 1, orZero Fin.val r.aperture⟩]
  | .loaded t at' sz pr => [⟨400, 4, t.toNat⟩, ⟨404, 4, at'.toNat⟩, ⟨408, 1, sz⟩, ⟨409, 1, pr⟩]
  | .loadBad e v => [⟨410, 1, e⟩, ⟨411, 1, violationCode v⟩]
  | .loadFault a => [⟨412, 1, a.val⟩]
  | .apertures b a t => pictureFields 400 b ++ pictureFields 440 a ++ tableFields 480 t.toList
  | .timers t c0 c1 c2 c3 =>
    [⟨400, 2, t.idle⟩, ⟨402, 2, t.quoteHold⟩, ⟨404, 2, t.authorization⟩, ⟨406, 2, t.grace⟩, ⟨408, 1, maskOf [c0, c1, c2, c3]⟩]
  | .shift c t => [⟨400, 4, c.toNat⟩, ⟨404, 4, t.openedAt.toNat⟩] ++ tillFigures 408 (tillPairs t) ++ [⟨448, 2, tillSaturated t⟩]
  | .resetBay g n => [⟨400, 2, g.toNat⟩, ⟨402, 2, n⟩]
  | .resetPrinter st i => [⟨400, 2, printerStateCode st⟩, ⟨402, 2, i.toNat⟩]
  | .resetTerminal st r => [⟨400, 2, terminalStateCode st⟩, ⟨402, 2, r.toNat⟩]
  | .service st p => [⟨400, 1, printerStateCode st⟩, ⟨401, 1, flag p⟩]

/-- The result part of a slot, at its offsets in the slot (R164). -/
def resultFields (c : Slot) : List Field :=
  [⟨384, 2, statusCode c.status⟩, ⟨386, 1, reasonCode c.reason⟩, ⟨388, 4, c.tagEcho.toNat⟩, ⟨392, 4, c.completedAt.toNat⟩,
   ⟨396, 4, bodyMask c.body⟩] ++ bodyFields c.body

/-- R161: a byte of a slot. -/
def slotByte (c : Slot) (a : Nat) : Byte := if a < requestBytes then Mem.read c.request a else fieldByte (resultFields c) a

/-! ## Control words and the strip (R162, R165) -/

/-- R172: ATTN: DONE, PROGRESS, UNIT, ORDER, MISUSE; UNIT and ORDER follow the change words. -/
def attnFlags (s : State) : BitVec 5 :=
  BitVec.ofNat 5 (maskOf [s.attnDone, s.attnProgress, s.unitChanged != 0, s.orderChanged != 0, s.attnMisuse])

/-- R171: a slot's DONE mask bit is set exactly while the slot is DONE. -/
def doneBit (s : State) (n : SlotId) : Bool := (s.slot n).state == .done

def doneMask (s : State) : Nat := maskOf ((List.finRange 64).map (doneBit s))

/-- R184: the PART word. -/
def partWord (s : State) : Nat :=
  (match s.part with | .run => 1 | _ => 0) + Config.revision * 16 + Config.partCode * 256 + Config.vendorCode * 65536

/-- R165: slot state, progress counter, and the status while DONE. -/
def stripWord (c : Slot) : Nat :=
  slotStateCode c.state + c.progress.toNat * 256 + (if c.state = .done then statusCode c.status * 65536 else 0)

def controlWord (s : State) : Nat → Nat
  | 0 => partWord s
  | 1 => (attnFlags s).toNat
  | 2 => s.attnEnable.toNat
  | 3 => doneMask s % 2 ^ 32
  | 4 => doneMask s / 2 ^ 32
  | 5 => s.unitChanged.toNat
  | 6 => s.orderChanged.toNat
  | 7 => s.clock.toNat
  | _ => 0

def wordByte (v a : Nat) : Byte := BitVec.ofNat 8 (v / 256 ^ (a % 4))

/-- R161: the byte a host read returns at an offset of the window, in RUN. Gaps read zero. -/
def windowByteRun (s : State) (a : Nat) : Byte :=
  if a < 0x20 then wordByte (controlWord s (a / 4)) a
  else if h : 0x100 ≤ a ∧ a < 0x200 then wordByte (stripWord (s.slot ⟨(a - 0x100) / 4, by omega⟩)) a
  else if h : 0x1000 ≤ a ∧ a < 0x1C00 then fieldByte (unitRecord s true ⟨(a - 0x1000) / 256, by omega⟩) ((a - 0x1000) % 256)
  else if h : 0x2000 ≤ a ∧ a < 0x6000 then fieldByte (orderRecord s true ⟨(a - 0x2000) / 512, by omega⟩) ((a - 0x2000) % 512)
  else if 0x6000 ≤ a ∧ a < 0x7000 then fieldByte (priceView s.price.table) (a - 0x6000)
  else if h : 0x8000 ≤ a ∧ a < 0x10000 then slotByte (s.slot ⟨(a - 0x8000) / 512, by omega⟩) ((a - 0x8000) % 512)
  else 0

/-- R161, R176, R182: in STARTING every byte reads zero but the PART word's; a part held in power-on answers nothing. -/
def windowByte (s : State) (a : Nat) : Byte :=
  match s.part with
  | .run => windowByteRun s a
  | .starting => if a < 4 then wordByte (partWord s) a else 0
  | .held => 0

/-- R15: the READY output: on while STEADY, and in the on half of a blink. -/
def readyOutput (t : Station) : Bool :=
  match t.ready with
  | .off => false
  | .steady => true
  | .blink => t.blinkOn

end Sys2Proof.Machine
end

