-- ==== Sys2Proof/Machine/Flags.lean ====
section
/-! DEFINITION. The flag computations of the exchange window: ATTN and the interrupt message (R172, R175), the change bits (R173), slot
completion (R171) and progress (R165). -/

namespace Sys2Proof.Machine

/-! ## Attention and the interrupt message -/

/-- R175: the set of ATTN flags that are both set and enabled is not empty. -/
def attnPending (s : State) : Bool := (attnFlags s &&& s.attnEnable) != 0

/-- R175, R182: a message is sent only in RUN, with the link up and messages enabled; otherwise it is neither sent nor kept. -/
def sendMessage (s : State) : State :=
  if s.part = .run ∧ s.pcieUp = true ∧ s.msiEnable = true then s.emit .interruptMessage else s

/-- R175, second case: after a host write to ATTN, ATTN_ENABLE, UNIT_CHANGED or ORDER_CHANGED. -/
def interruptAfterWrite (s : State) : State := if attnPending s then sendMessage s else s

/-- R175, first case: the set goes from empty to not empty. `before` is the state at the start of the event. -/
def interruptOnEdge (before s : State) : State := if !attnPending before && attnPending s then sendMessage s else s

/-! ## Change bits -/

/-- The word whose bit i says whether f i holds. -/
def bitsOf : (n : Nat) → (Nat → Bool) → BitVec n
  | 0, _ => 0#0
  | n + 1, f => BitVec.cons (f n) (bitsOf n f)

/-- R173: the unit records in which a field other than a countdown or progress field differs. -/
def unitDiff (before s : State) : BitVec 12 :=
  bitsOf 12 fun n => if h : n < 12 then unitRecord before false ⟨n, h⟩ != unitRecord s false ⟨n, h⟩ else false

/-- R42, R173: the order records in which something other than the hold countdown differs. -/
def orderDiff (before s : State) : W32 :=
  bitsOf 32 fun n => if h : n < 32 then orderRecord before false ⟨n, h⟩ != orderRecord s false ⟨n, h⟩ else false

/-- R173: the records that differ between two moments of an event are marked; a set bit stays set. DEDUCED, unsafe: log entry 29. -/
def markChanges (before s : State) : State :=
  { s with unitChanged := s.unitChanged ||| unitDiff before s, orderChanged := s.orderChanged ||| orderDiff before s }

/-- A rule that sets a record's UNIT_CHANGED bit by name. -/
def State.markUnit (s : State) (n : UnitId) : State := { s with unitChanged := s.unitChanged ||| BitVec.twoPow 12 n.val }

/-- R23: an applied edit sets the order's ORDER_CHANGED bit. -/
def State.markOrder (s : State) (o : OrderId) : State := { s with orderChanged := s.orderChanged ||| BitVec.twoPow 32 o.val }

def stationUnit (i : StationId) : UnitId := ⟨i.val, by omega⟩
def bayUnit (i : BayId) : UnitId := ⟨4 + i.val, by omega⟩
def printerUnit (i : PrinterId) : UnitId := ⟨8 + i.val, by omega⟩

/-- The end of every event in the window: the records that changed are marked, then the interrupt check runs. -/
def closeEvent (before s : State) : State := interruptOnEdge before (markChanges before s)

/-! ## Completion and progress -/

/-- R171: a TAKEN slot becomes DONE with its result; the DONE mask bit follows the state and ATTN.DONE sets. A completion reaches only a
TAKEN slot. -/
def complete (n : SlotId) (st : Status) (why : Reason) (body : Body) (s : State) : State :=
  if (s.slot n).state = .taken then
    { (s.onSlot n fun c => { c with state := .done, status := st, reason := why, completedAt := s.clock, body := body }) with attnDone := true }
  else s

/-- A completion that keeps the kind-specific fields the owner has written while TAKEN (R164). -/
def completeKeeping (n : SlotId) (st : Status) (s : State) : State := complete n st .none (s.slot n).body s

/-- R165: the owner of a TAKEN slot reports an advance. -/
def advanceProgress (n : SlotId) (s : State) : State :=
  if (s.slot n).state = .taken then { (s.onSlot n fun c => { c with progress := c.progress + 1 }) with attnProgress := true } else s

/-- R164: the owner of a TAKEN slot writes its kind-specific fields. -/
def writeBody (n : SlotId) (body : Body) (s : State) : State :=
  if (s.slot n).state = .taken then s.onSlot n fun c => { c with body := body } else s

end Sys2Proof.Machine
end

