-- ==== Sys2Proof/Machine/Price.lean ====
section
/-! DEFINITION. The price unit's arithmetic: the quote computation (R52 to R57), the settlement computation (R58), and the check and
reading of a price table image (R45, R48). Every step is exact whole-number arithmetic. -/

namespace Sys2Proof.Machine

/-- R52: the prints of a size, across both finishes. -/
def sizeCount (items : List Item) (z : Size) : Nat := ((items.filter fun i => i.size == z).map (·.quantity)).sum

def sizeEntry (t : PriceTable) (z : Size) : SizeEntry := look t.sizes (sizeIndex z)

/-- R52: the position of the first item whose size is not offered. -/
def firstNotOffered (t : PriceTable) (items : List Item) : Option Nat := items.findIdx? fun i => !(sizeEntry t i.size).offered

/-- R53: the price of the highest tier whose threshold is reached, else the base price. -/
def tierPrice (e : SizeEntry) (n : Nat) : Nat :=
  match (e.tiers.filter fun t => t.threshold ≤ n).getLast? with
  | some t => t.price
  | none => e.base

/-- R53, R57: the unit price of a size ordered; absent for sizes not ordered. -/
def unitPrice (t : PriceTable) (items : List Item) (z : Size) : Option Nat :=
  if 0 < sizeCount items z then some (tierPrice (sizeEntry t z) (sizeCount items z)) else none

/-- R54, R58: a number of prints of an item at its unit price, with the surcharge on MATTE. -/
def lineAmount (prices : Size → Option Nat) (surcharge : Nat) (count : Item → Nat) (i : Item) : Nat :=
  count i * ((prices i.size).getD 0 + if i.finish = .matte then surcharge else 0)

/-- R54, R58: the sum of the lines. -/
def subtotalOf (prices : Size → Option Nat) (surcharge : Nat) (count : Item → Nat) (items : List Item) : Nat :=
  (items.map (lineAmount prices surcharge count)).sum

/-- R55, R56: a rate in basis points of an amount, rounded half-up. -/
def rated (amount rate : Nat) : Nat := (amount * rate + 5000) / 10000

/-- R55: the rate applied to a subtotal. -/
def appliedRate (t : PriceTable) (promotion : Option Nat) (subtotal : Nat) : Nat :=
  match promotion.bind (t.promotions[·]?) with
  | some e => if e.rate ≠ 0 ∧ e.minimum ≤ subtotal then e.rate else 0
  | none => 0

/-- R52, R56: how a quote computation ends. -/
inductive QuoteOutcome where
  | noPrice (position : Nat)
  | tooLarge (total : Nat)
  | priced (prices : FixedPrices)
  deriving DecidableEq, Repr

/-- R54 to R57: the fixed prices of an order whose sizes are all offered. -/
def fixedPrices (t : PriceTable) (items : List Item) (promotion : Option Nat) : FixedPrices :=
  let subtotal := subtotalOf (unitPrice t items) t.surcharge (·.quantity) items
  let rate := appliedRate t promotion subtotal
  let discount := rated subtotal rate
  let tax := rated (subtotal - discount) t.taxRate
  { unitPrice := #v[unitPrice t items .p2, unitPrice t items .p4, unitPrice t items .p6, unitPrice t items .p8],
    surcharge := t.surcharge, rate := rate, taxRate := t.taxRate, currency := t.currency, subtotal := subtotal, discount := discount,
    tax := tax, total := subtotal - discount + tax }

/-- R52 to R57: the quote computation on the table in force. -/
def quoteComputation (t : PriceTable) (items : List Item) (promotion : Option Nat) : QuoteOutcome :=
  match firstNotOffered t items with
  | some position => .noPrice position
  | none =>
    if Config.maxTotal < (fixedPrices t items promotion).total then .tooLarge (fixedPrices t items promotion).total
    else .priced (fixedPrices t items promotion)

/-- R58: the settlement from the printed counts and the fixed prices. -/
def settlementOf (f : FixedPrices) (items : List Item) : Nat :=
  let subtotal := subtotalOf (unitPriceOf f) f.surcharge (·.printed) items
  let net := subtotal - rated subtotal f.rate
  net + rated net f.taxRate

/-- The quoted total of an order; an order without fixed prices has none to charge. -/
def orderTotal (o : Order) : Nat := orZero (·.total) o.prices

/-- R58 on an order record. -/
def orderSettlement (o : Order) : Nat := orZero (fun f => settlementOf f o.items) o.prices

/-- R65, R28: the reservation asked for at quote: quantity times units for every item. -/
def quoteUnits (items : List Item) : Nat := (items.map fun i => i.quantity * sizeUnits i.size).sum

/-! ## The table image (R45, R48, R184) -/

def imageNumber (image : List Byte) (offset n : Nat) : Nat := ofLeBytes ((image.drop offset).take n)

def imageZero (image : List Byte) (offset n : Nat) : Bool := ((image.drop offset).take n).all (· == 0#8)

def imageTier (image : List Byte) (entry k : Nat) : Tier :=
  { threshold := imageNumber image (24 * entry + 8 + 4 * k) 2, price := imageNumber image (24 * entry + 8 + 4 * k + 2) 2 }

/-- The first check of a list that fails, with its violation. -/
def firstFailure : List (Bool × Violation) → Option Violation
  | [] => none
  | (ok, v) :: rest => if ok then firstFailure rest else some v

/-- R48: the checks of a size entry, in order. -/
def checkSizeEntry (image : List Byte) (e : Nat) : Option Violation :=
  let offered := imageNumber image (24 * e) 1
  let count := imageNumber image (24 * e + 1) 1
  let used := (List.range (min count 4)).map (imageTier image e)
  firstFailure
    [(offered ≤ 1, .badFlag), (count ≤ 4, .badCount),
     (offered ≠ 0 || (imageNumber image (24 * e + 4) 2 = 0 && count = 0 && imageZero image (24 * e + 8) 16), .unusedNotZero),
     (offered = 0 || used.all (fun t => 2 ≤ t.threshold && t.threshold ≤ 2376), .thresholdRange),
     (offered = 0 || (used.zip used.tail).all (fun p => p.1.threshold < p.2.threshold), .thresholdOrder),
     (offered = 0 || imageZero image (24 * e + 8 + 4 * count) (16 - 4 * count), .unusedNotZero),
     (imageZero image (24 * e + 2) 2 && imageZero image (24 * e + 6) 2, .reservedNotZero)]

/-- R48: the checks of the common entry, whose reserved bytes are 0x66 to 0x6F and 0xF0 to 0xFF. -/
def checkCommon (image : List Byte) : Option Violation :=
  firstFailure
    [(imageNumber image 0x60 2 ≤ 9999, .valueRange), (imageNumber image 0x62 2 ≤ 5000, .valueRange),
     (imageNumber image 0x64 2 ≤ 999, .valueRange), (imageZero image 0x66 10 && imageZero image 0xF0 16, .reservedNotZero)]

/-- R48: the checks of a promotion entry. -/
def checkPromotion (image : List Byte) (k : Nat) : Option Violation :=
  let rate := imageNumber image (0x70 + 8 * k) 2
  let minimum := imageNumber image (0x70 + 8 * k + 4) 4
  firstFailure
    [(rate ≤ 10000, .valueRange), (minimum ≤ 9999999, .valueRange), (rate ≠ 0 || minimum = 0, .unusedNotZero),
     (imageZero image (0x70 + 8 * k + 2) 2, .reservedNotZero)]

def checkEntry (image : List Byte) (entry : Nat) : Option Violation :=
  if entry < 4 then checkSizeEntry image entry else if entry = 4 then checkCommon image else checkPromotion image (entry - 5)

/-- R48: the first failure of an image, by entry index 0 to 20. -/
def imageFailure (image : List Byte) : Option (Nat × Violation) :=
  (List.range 21).findSome? fun e => (checkEntry image e).map fun v => (e, v)

def imageSize (image : List Byte) (e : Nat) : SizeEntry :=
  { offered := imageNumber image (24 * e) 1 == 1, base := imageNumber image (24 * e + 4) 2,
    tiers := (List.range (imageNumber image (24 * e + 1) 1)).map (imageTier image e) }

def imagePromotion (image : List Byte) (k : Nat) : Promotion :=
  { rate := imageNumber image (0x70 + 8 * k) 2, minimum := imageNumber image (0x70 + 8 * k + 4) 4 }

/-- R47: the table a good image holds. -/
def tableOfImage (image : List Byte) (tag clock : W32) : PriceTable :=
  { sizes := Vector.ofFn fun e : Fin 4 => imageSize image e.val, surcharge := imageNumber image 0x60 2, taxRate := imageNumber image 0x62 2,
    currency := imageNumber image 0x64 2, promotions := Vector.ofFn fun k : Fin 16 => imagePromotion image k.val, tag := tag,
    installedAt := some clock }

end Sys2Proof.Machine
end

