-- ==== Sys2Proof/Machine/Stations.lean ====
section
/-! DEFINITION. The station controller's shared operations: lamps (R15 to R17), opening and freeing sessions (R4 to R6), the idle watch
(R11, R12), and what it does with the reports of the order unit (R3, R10, R41). -/

namespace Sys2Proof.Machine

/-- R15: some printer has usable stock above 0. -/
def someStock (s : State) : Bool := decide (0 < s.usable 0) || decide (0 < s.usable 1)

/-- R15: the READY mode of a station. -/
def readyMode (s : State) (i : StationId) : ReadyMode :=
  if (s.station i).session.isSome then .blink
  else if someStock s && s.terminal.state == .idle then .steady
  else .off

/-- R15, R17: one evaluation of a station's lamps. -/
def lampsOf (s : State) (i : StationId) (t : Station) : Station :=
  let mode := readyMode s i
  let t := { t with ready := mode, blinkOn := mode == .blink && (t.ready != .blink || t.blinkOn) }
  if s.callCause i then (if t.call then t else { t with call := true, minimumOn := some (s.after Config.minimumOnSeconds) })
  else if t.minimumOn.isSome then t
  else { t with call := false }

/-- R17: the station controller evaluates the lamps of a station. -/
def evalLamps (i : StationId) (s : State) : State := s.onStation i (lampsOf s i)

/-- R17, R182: every station. -/
def evalAllLamps (s : State) : State := forEach (List.finRange 4) evalLamps s

/-- R2, R4: the lowest-numbered FREE entry. -/
def lowestFree (s : State) : Option SessionId := (List.finRange 8).find? fun k => (s.session k).state == .free

/-- R4: entry k opens at station i. -/
def openSessionAt (i : StationId) (k : SessionId) (s : State) : State :=
  let s := s.onSession k fun _ =>
    { state := .active, station := i, orders := [], openedAt := s.clock, deadline := some (s.after s.timers.idle) }
  let s := s.onStation i fun t => { t with session := some k, noRoomLive := false }
  evalLamps i (s.markUnit (stationUnit i))

/-- R11: a running idle watch restarts; a stopped one stays stopped. -/
def restartSession (k : SessionId) (s : State) : State :=
  if (s.session k).state = .active ∧ (s.session k).deadline.isSome = true then
    s.onSession k fun e => { e with deadline := some (s.after s.timers.idle) }
  else s

/-- R11: the taking of a request whose header carries the station. -/
def restartForStation (i : StationId) (s : State) : State :=
  match (s.station i).session with
  | some k => restartSession k s
  | none => s

/-- R11: the taking of a request that names an order in the session's order list. -/
def restartForOrder (o : OrderId) (s : State) : State :=
  if (s.session (s.order o).session).orders.contains o then restartSession (s.order o).session s else s

/-- R6: every live NO_SESSION_ROOM condition clears. -/
def clearNoRoom (s : State) : State :=
  forEach (List.finRange 4) (fun i t =>
    if (t.station i).noRoomLive then (t.onStation i fun e => { e with noRoomLive := false }).markUnit (stationUnit i) else t) s

/-- R3, R6: an entry becomes FREE. -/
def freeEntry (k : SessionId) (s : State) : State :=
  clearNoRoom (s.onSession k fun e => { e with state := .free, orders := [], deadline := none })

/-- R5: bay i has accepted a card arrival. -/
def cardArrival (i : StationId) (s : State) : State :=
  match (s.station i).session with
  | some k => restartSession k s
  | none =>
    match lowestFree s with
    | some k => openSessionAt i k s
    | none => (s.onStation i fun t => { t with noRoomLive := true, noRoomLatched := true }).markUnit (stationUnit i)

/-- R3, R10: a listed order has become final; the last one of a DRAINING session frees the entry. -/
def reportFinal (o : OrderId) (s : State) : State :=
  let k := (s.order o).session
  if (s.session k).state = .draining ∧ (s.session k).orders.contains o = true ∧ s.nonFinalCount k = 0 then
    let i := (s.session k).station
    ((freeEntry k s).onStation i fun t => { t with draining := t.draining - 1 }).markUnit (stationUnit i)
  else s

/-- R12: an order of the session enters PAYING. -/
def stopWatch (o : OrderId) (s : State) : State :=
  let k := (s.order o).session
  if (s.session k).state = .active ∧ (s.session k).orders.contains o = true then s.onSession k fun e => { e with deadline := none } else s

/-- R12: the session's last order in PAYING has left PAYING. -/
def restartWatch (o : OrderId) (s : State) : State :=
  let k := (s.order o).session
  if (s.session k).state = .active ∧ (s.session k).orders.contains o = true
      ∧ (s.session k).orders.all (fun x => (s.order x).state != .paying) = true then
    s.onSession k fun e => { e with deadline := some (s.after s.timers.idle) }
  else s

/-- R16: the payment notice of a station starts, or restarts from full. -/
def startNotice (i : StationId) (s : State) : State :=
  evalLamps i (s.onStation i fun t => { t with notice := some (s.after Config.noticeSeconds) })

end Sys2Proof.Machine
end

