-- ==== Sys2Proof/Machine/Orders.lean ====
section
/-! DEFINITION. The order unit's shared operations: the ways of an order between its states (R23, R29, R31 to R38), print queues and the
held list as the order unit fills them (R82, R71), the counts of copies (R34), and the settlement trigger (R35, R36). -/

namespace Sys2Proof.Machine

/-! ## Print queues and the held list -/

def removeOrder (o : OrderId) (l : List OrderId) : List OrderId := l.filter (· != o)

/-- R82: an order leaves the queue it is in. -/
def leaveQueues (o : OrderId) (s : State) : State :=
  (s.onPrinter 0 fun q => { q with queue := removeOrder o q.queue }).onPrinter 1 fun q => { q with queue := removeOrder o q.queue }

/-- R82: an order joins the tail of a printer's queue. -/
def joinQueue (o : OrderId) (p : PrinterId) (s : State) : State :=
  (leaveQueues o s).onPrinter p fun q => { q with queue := q.queue ++ [o] }

/-- R76: a change to the held list sets the bits of both printer records. -/
def markHeldList (s : State) : State := (s.markUnit (printerUnit 0)).markUnit (printerUnit 1)

/-- R71: an order leaves the held list. -/
def leaveHeld (o : OrderId) (s : State) : State := { s with heldList := removeOrder o s.heldList }

/-! ## Ways between states -/

/-- R23, R29, R31, R32, R40: an order returns to DRAFT: placement, fixed prices and quote hold go, the draft reason is recorded. -/
def toDraft (o : OrderId) (why : DraftReason) (s : State) : State :=
  s.onOrder o fun r => { r with state := .draft, hold := .none, placement := none, prices := none, draftReason := some why }

/-- R30 to R33: an order becomes PAID at the tail of its printer's queue. -/
def makePaid (o : OrderId) (p : PrinterId) (s : State) : State :=
  joinQueue o p (s.onOrder o fun r => { r with state := .paid, hold := .none, placement := some p, holdReason := none })

/-- R31, R32, R71: an order becomes HELD at the tail of the held list; the entry is reported and the lamps are evaluated. -/
def enterHeld (o : OrderId) (s : State) : State :=
  let s := leaveHeld o (leaveQueues o s)
  let s := s.onOrder o fun r => { r with state := .held, hold := .none, placement := none, holdReason := some .noMedia }
  evalLamps (s.order o).station (markHeldList { s with heldList := s.heldList ++ [o] })

/-- R33: a HELD order is placed and becomes PAID; the exit is reported. -/
def placeHeld (o : OrderId) (p : PrinterId) (s : State) : State :=
  let s := makePaid o p (markHeldList (leaveHeld o s))
  evalLamps (s.order o).station s

/-- R37: an order becomes CANCELLED and is reported final. -/
def makeCancelled (o : OrderId) (s : State) : State :=
  reportFinal o (s.onOrder o fun r =>
    { r with state := .cancelled, hold := .none, placement := none, settleStatus := .none, closedAt := some s.clock })

/-! ## Settlement -/

/-- R130: pending settlements are kept in grant order, the lowest order index first. -/
def insertSettlement (e : PendingSettlement) : List PendingSettlement → List PendingSettlement
  | [] => [e]
  | x :: rest => if e.order.val < x.order.val then e :: x :: rest else x :: insertSettlement e rest

/-- R141, R142: a settlement joins the pending settlements. -/
def addSettlement (o : OrderId) (attempts : Nat) (s : State) : State :=
  s.onTerminal fun t => { t with pendingSettlements := insertSettlement { order := o, attempts := attempts } t.pendingSettlements }

/-- R35: the settlement trigger. -/
def settlementTrigger (o : OrderId) (s : State) : State :=
  let r := s.order o
  let t := (leaveHeld o (leaveQueues o s)).onNote o fun _ => none
  let t := t.onOrder o fun x => { x with placement := none, holdReason := none, settlement := some (orderSettlement x) }
  if orderTotal r = 0 then
    let t := t.onOrder o fun x => { x with state := .closed, settleStatus := .nothingDue, closedAt := some t.clock }
    reportFinal o (if r.state = .held then evalLamps r.station t else t)
  else
    let t := addSettlement o 0 (t.onOrder o fun x => { x with state := .settling })
    if r.state = .held then evalLamps r.station t else t

/-- R35: an order in PAID, PRINTING or HELD that has finished printing meets the settlement trigger. -/
def settlementCheck (o : OrderId) (s : State) : State :=
  let r := s.order o
  if (r.state = .paid ∨ r.state = .printing ∨ r.state = .held) ∧ finishedPrinting r = true then settlementTrigger o s else s

/-- R36: the end of a settlement exchange closes the order. -/
def closeOrder (o : OrderId) (how : SettleStatus) (s : State) : State :=
  reportFinal o (s.onOrder o fun r =>
    { r with state := .closed, settleStatus := how, captured := if how = .captured then r.settlement.getD 0 else 0, reference := none,
             closedAt := some s.clock })

/-! ## Items and copies -/

/-- R34: one item of an order changed. -/
def State.onItem (s : State) (o : OrderId) (i : Nat) (f : Item → Item) : State :=
  s.onOrder o fun r => { r with items := r.items.modify i f }

/-- R34, R21: an item with no copy left to begin and none in flight becomes DONE. -/
def finishItem (i : Item) : Item :=
  if (i.state = .pending ∨ i.state = .active) ∧ remaining i = 0 ∧ i.inFlight = 0 then { i with state := .done } else i

/-- R37, R38: the copies of an item that remain to be begun are dropped. -/
def dropItem (i : Item) : Item :=
  if i.state = .pending ∨ i.state = .active then finishItem { i with dropped := true } else i

/-- R37, R38, R91: CANCEL_ORDER drops the remaining copies of every item and the retry note. -/
def dropCopies (o : OrderId) (s : State) : State :=
  (s.onOrder o fun r => { r with items := r.items.map dropItem }).onNote o fun _ => none

/-- R34: a copy begins. -/
def copyBegins (o : OrderId) (i : Nat) (s : State) : State :=
  (s.onItem o i fun x => { x with inFlight := x.inFlight + 1, state := if x.state = .pending then .active else x.state }).onOrder o fun r =>
    { r with state := if r.state = .paid then .printing else r.state }

/-- R34, R74: the conditions for a retry of a failed copy, on the state after its end has been applied by R66 and it has been counted failed. -/
def retryGranted (p : PrinterId) (c : Copy) (s : State) : Bool :=
  let r := s.order c.order
  c.attempt == 1 && !c.releasedEarly && r.state == .printing && r.placement == some p && !r.cancelRequested
    && (match r.items[c.item]? with | some i => i.state != .unprintable && !i.dropped | none => false)
    && decide (sizeUnits c.size ≤ s.freeRoom p)

/-- R34, R91: a copy that has left its printer is counted printed or failed, or a retry is granted and noted; then the item and the order
are looked at. -/
def copyEnded (p : PrinterId) (c : Copy) (result : CopyResult) (s : State) : State :=
  let ended :=
    if result = .ok then s.onItem c.order c.item fun i => { i with inFlight := i.inFlight - 1, printed := i.printed + 1 }
    else
      let failed := s.onItem c.order c.item fun i => { i with inFlight := i.inFlight - 1, failed := i.failed + 1 }
      if retryGranted p c failed then
        (failed.onItem c.order c.item fun i => { i with failed := i.failed - 1 }).onNote c.order fun _ => some c.item
      else failed
  settlementCheck c.order (ended.onItem c.order c.item finishItem)

/-- R39: a final order's record becomes FREE and its index leaves the list that holds it. -/
def retireOrder (o : OrderId) (s : State) : State :=
  (s.onSession (s.order o).session fun k => { k with orders := removeOrder o k.orders }).onOrder o fun _ => Order.reset

end Sys2Proof.Machine
end

