-- ==== Sys2Proof/Machine/Print.lean ====
section
/-! DEFINITION. The print controller's shared operations: aborting and ending a copy (R89, R90), beginning one (R83), fetching and sending
stripes (R85, R86), the printer's state with its fault grace (R64, R79) and entering SERVICE (R99). -/

namespace Sys2Proof.Machine

/-- A change to the copy in flight on a printer. -/
def State.onCopy (s : State) (p : PrinterId) (f : Copy → Copy) : State := s.onPrinter p fun q => { q with copy := q.copy.map f }

/-! ## Printer state and fault grace -/

/-- R63: the states in which usable stock is the reported stock whatever the grace. -/
def healthy : PrinterState → Bool
  | .ready | .printing | .paused => true
  | _ => false

/-- R64, R66: what a change of printer state does to the stock entry. -/
def graceAfter (s : State) (before after : PrinterState) (e : StockEntry) : StockEntry :=
  match after with
  | .ready | .printing | .paused => { e with grace := none }
  | .service => { e with grace := none, pendingConsumption := 0 }
  | .absent =>
    { e with grace := if healthy before then some (s.after s.timers.grace) else e.grace, pendingConsumption := 0 }
  | .faulted | .offline => { e with grace := if healthy before then some (s.after s.timers.grace) else e.grace }

/-- R79: a printer's state changes and the stock table is told (R64). -/
def setPrinterState (p : PrinterId) (new : PrinterState) (s : State) : State :=
  let old := (s.printer p).state
  if old = new then s
  else (s.onPrinter p fun q => { q with state := new }).onEntry p (graceAfter s old new)

/-- R99: a printer becomes SERVICE. -/
def enterService (p : PrinterId) (s : State) : State :=
  setPrinterState p .service (s.onPrinter p fun q => { q with servicePending := false, statusInService := false })

/-! ## The end of a copy -/

/-- R89: ABORT_COPY is sent for the copy in flight; only the first cause is recorded. The begin-answer limit stops (R84) and fetches not
yet granted are withdrawn (R86). -/
def abortCopy (p : PrinterId) (cause : CopyResult) (s : State) : State :=
  match (s.printer p).copy with
  | none => s
  | some c =>
    if c.abortCause.isSome then s
    else
      ((s.emit (.abortCopy p c.id)).onCopy p fun c =>
        { c with abortCause := some cause, abortDeadline := some (s.after Config.abortAnswerSeconds), beginWait := none }).withdraw (.printer p)

/-- R89: the abort cause replaces a result of ABORTED. -/
def finalResult (c : Copy) (result : CopyResult) : CopyResult :=
  if result = .aborted then c.abortCause.getD .aborted else result

/-- R90, step 5: the last copy and the copy counts of the printer record. -/
def recordCopy (c : Copy) (result : CopyResult) (consumed : Nat) (q : Printer) : Printer :=
  { q with
    last := some { id := c.id, result := result, consumed := consumed },
    counts := if result = .ok then { q.counts with copiesOk := bump q.counts.copiesOk }
              else { q.counts with copiesFailed := bump q.counts.copiesFailed } }

/-- R90: the copy in flight ends. -/
def endCopy (p : PrinterId) (result : CopyResult) (consumed : Nat) (s : State) : State :=
  match (s.printer p).copy with
  | none => s
  | some c =>
    let used := min consumed (sizeUnits c.size)
    let final := finalResult c result
    let t := (s.onPrinter p fun q => { q with copy := none, bufferA := StripeBuffer.reset, bufferB := StripeBuffer.reset }).withdraw (.printer p)
    let t := if c.releasedEarly then t else t.onEntry p fun e => { e with pendingConsumption := e.pendingConsumption + used }
    let t := copyEnded p c final t
    let t := (t.onPrinter p (recordCopy c final used)).markUnit (printerUnit p)
    if (t.printer p).servicePending then enterService p t else t

/-- R89, R92, R97, R100: an end that counts the full units of the copy's size. -/
def endCopyFull (p : PrinterId) (result : CopyResult) (s : State) : State := endCopy p result 8 s

/-- R90: the result a code stands for; an unknown code is taken as ABORTED. -/
def resultOfCode (code : Byte) : CopyResult :=
  if code = 0 then .ok else if code = 1 then .jam else if code = 2 then .mediaOut else if code = 3 then .underrun
  else if code = 4 then .overheat else .aborted

/-! ## The beginning of a copy -/

/-- R34: the next copy of an order in PAID or PRINTING: its lowest-positioned item with a copy that remains to be begun. -/
def nextItem (r : Order) : Option Nat :=
  if r.state = .paid ∨ r.state = .printing then r.items.findIdx? fun i => decide (0 < remaining i) else none

/-- R83: the order nearest the head of the queue with a copy that remains to be begun, and that copy's item. -/
def nextCopy (s : State) (p : PrinterId) : Option (OrderId × Nat) :=
  (s.printer p).queue.findSome? fun o => (nextItem (s.order o)).map fun i => (o, i)

/-- R83: the printer's next copy id; 0 is never given. -/
def nextId (i : W16) : W16 := if i = 0xFFFF#16 then 1#16 else i + 1

/-- R83: a copy of an item begins. -/
def beginCopy (p : PrinterId) (o : OrderId) (i : Nat) (item : Item) (s : State) : State :=
  let id := (s.printer p).nextCopyId
  let second := s.note o == some i
  let copy : Copy :=
    { id := id, order := o, item := i, size := item.size, finish := item.finish, attempt := if second then 2 else 1, highest := none, sent := 0,
      requests := [], held := false, abortCause := none, releasedEarly := false,
      beginWait := some { sends := 1, deadline := s.after Config.beginAnswerSeconds }, abortDeadline := none }
  let t := s.onPrinter p fun q =>
    { q with nextCopyId := nextId id, copy := some copy, bufferA := StripeBuffer.reset, bufferB := StripeBuffer.reset, target := .a }
  let t := if second then t.onNote o fun _ => none else t
  copyBegins o i (t.emit (.beginCopy p id item.size item.finish))

/-- R83: the check whether a copy can begin. -/
def beginCheck (p : PrinterId) (s : State) : State :=
  let q := s.printer p
  if (q.state = .ready ∨ q.state = .printing) ∧ q.copy = none ∧ q.servicePending = false then
    match nextCopy s p with
    | some (o, i) =>
      match (s.order o).items[i]? with
      | some item => beginCopy p o i item s
      | none => s
    | none => s
  else s

/-! ## Stripes -/

def Printer.buffer (q : Printer) : Target → StripeBuffer
  | .a => q.bufferA
  | .b => q.bufferB

def Printer.setBuffer (q : Printer) (side : Target) (v : StripeBuffer) : Printer :=
  match side with
  | .a => { q with bufferA := v }
  | .b => { q with bufferB := v }

def otherTarget : Target → Target
  | .a => .b
  | .b => .a

/-- R86: the buffer that holds a stripe in a state in which its frame can start: FULL for a new request, SENT for a repeat. -/
def sendable (q : Printer) (n : Nat) : Option Target :=
  if q.bufferA.state = .full n ∨ q.bufferA.state = .sent n then some .a
  else if q.bufferB.state = .full n ∨ q.bufferB.state = .sent n then some .b
  else none

/-- The stripe a buffer is filling with, holds or sends. -/
def StripeBuffer.stripe (b : StripeBuffer) : Option Nat :=
  match b.state with
  | .empty => none
  | .filling n | .full n | .sending n | .sent n => some n

/-- R86: a buffer is for the stripe. One whose buffer a new request has taken over has none. -/
def hasBuffer (q : Printer) (n : Nat) : Bool := q.bufferA.stripe == some n || q.bufferB.stripe == some n

/-- R86: the lowest stripe among the requests whose frame has not started, passing over a repeat whose buffer has been given up. DESIGN
CHOICE, unsafe: log entry 17. -/
def lowestUnstarted (q : Printer) : List StripeRequest → Option Nat
  | [] => none
  | r :: rest =>
    if r.started = true ∨ hasBuffer q r.stripe = false then lowestUnstarted q rest
    else match lowestUnstarted q rest with
      | some m => some (min r.stripe m)
      | none => some r.stripe

/-- A change to the first request for a stripe that meets a condition. Two requests are for one stripe while it is asked for twice again. -/
def onFirst (ok : StripeRequest → Bool) (f : StripeRequest → StripeRequest) : List StripeRequest → List StripeRequest
  | [] => []
  | r :: rest => if ok r then f r :: rest else r :: onFirst ok f rest

/-- R87: the underrun timer stops when the frame starts. -/
def startRequest (n : Nat) (l : List StripeRequest) : List StripeRequest :=
  onFirst (fun r => r.stripe == n && !r.started) (fun r => { r with started := true, timer := .stopped }) l

/-- R86: the next STRIPE frame starts when no hold is in force, no abort is outstanding, none is in transmission and its buffer is ready. -/
def trySend (p : PrinterId) (s : State) : State :=
  let q := s.printer p
  match q.copy with
  | none => s
  | some c =>
    if c.held = true ∨ c.abortCause.isSome = true ∨ q.transmitting.isSome = true then s
    else
      match lowestUnstarted q c.requests with
      | none => s
      | some n =>
        match sendable q n with
        | none => s
        | some side =>
          let frame := Out.stripeFrame p n (q.buffer side).data
          ((s.onPrinter p fun q =>
            { (q.setBuffer side { q.buffer side with state := .sending n }) with transmitting := some { copyId := c.id, stripe := n } }).onCopy p fun c =>
              { c with requests := startRequest n c.requests }).emit frame

/-- R86: the transfers of a fetch: ten of 4,096 bytes and one of 2,240. -/
def fetchTransfers (p : PrinterId) (c : Copy) (item : Item) (n : Nat) (side : Target) : List Transfer :=
  (List.range 11).map fun k =>
    { requester := .printer p, direction := .read, address := item.address + n * stripeBytes + k * 4096,
      length := if k = 10 then 2240 else 4096, aperture := item.aperture,
      purpose := .stripe c.id n side (k == 10), data := [] }

/-- R87, R88: an underrun timer that starts while a hold is in force is paused at once. -/
def underrunTimer (held : Bool) : Timer := if held then .paused Config.underrunMs else .running Config.underrunMs

/-- R85: the three cases of a NEXT_STRIPE. -/
inductive StripeCase where
  | newRequest
  | again
  | outOfSequence
  deriving DecidableEq, Repr

/-- R85: the case of NEXT_STRIPE(n). -/
def stripeCase (q : Printer) (n : Nat) : StripeCase :=
  match q.copy with
  | none => .outOfSequence
  | some c =>
    if c.abortCause.isSome = true ∨ 2 ≤ c.requests.length then .outOfSequence
    else if n = (match c.highest with | some h => h + 1 | none => 0) ∧ n < sizeStripes c.size then .newRequest
    else if q.bufferA.state = .sent n ∨ q.bufferB.state = .sent n then .again
    else .outOfSequence

/-- R84, R85: the first NEXT_STRIPE of a copy stops the begin-answer limit; a request starts its underrun timer. -/
def addRequest (n : Nat) (c : Copy) : Copy :=
  { c with requests := c.requests ++ [{ stripe := n, started := false, timer := underrunTimer c.held }], beginWait := none }

/-- R85, R86: a new request is fetched into the target buffer, whose old contents are given up, be a repeat of them due or on the wire. DESIGN
CHOICE, unsafe: log entry 17. -/
def newStripe (p : PrinterId) (n : Nat) (s : State) : State :=
  let q := s.printer p
  match q.copy with
  | none => s
  | some c =>
    match (s.order c.order).items[c.item]? with
    | none => s
    | some item =>
      let t := s.onPrinter p fun q =>
        { (q.setBuffer q.target { state := .filling n, data := [] }) with target := otherTarget q.target }
      let t := t.onCopy p fun c => { addRequest n c with highest := some n }
      forEach (fetchTransfers p c item n q.target) (fun x u => u.present x) t

/-- R85: one NEXT_STRIPE at a printer whose link is heard. -/
def nextStripe (p : PrinterId) (n : Nat) (s : State) : State :=
  match stripeCase (s.printer p) n with
  | .newRequest => newStripe p n s
  | .again => trySend p (s.onCopy p (addRequest n))
  | .outOfSequence => s.onPrinter p fun q => { q with counts := { q.counts with sequence := bump q.counts.sequence } }

/-- R86: a transfer of a fetch has ended without error. Data for a copy that has ended or is being aborted is discarded. -/
def stripeArrived (p : PrinterId) (copyId : W16) (n : Nat) (side : Target) (last : Bool) (data : List Byte) (s : State) : State :=
  let q := s.printer p
  match q.copy with
  | none => s
  | some c =>
    if c.id = copyId ∧ c.abortCause = none ∧ (q.buffer side).state = .filling n then
      trySend p (s.onPrinter p fun q =>
        q.setBuffer side { state := if last then .full n else .filling n, data := (q.buffer side).data ++ data })
    else s

/-- R86: a fetch that ends in a link error gives its buffer up, and the buffer is EMPTY. DESIGN CHOICE, unsafe: log entry 40. -/
def stripeFailed (p : PrinterId) (copyId : W16) (n : Nat) (side : Target) (s : State) : State :=
  let q := s.printer p
  match q.copy with
  | none => s
  | some c => if c.id = copyId ∧ (q.buffer side).state = .filling n then s.onPrinter p fun q => q.setBuffer side StripeBuffer.reset else s

/-- R86: the buffer sending a stripe is SENT. -/
def sentBuffer (n : Nat) (b : StripeBuffer) : StripeBuffer := if b.state = .sending n then { b with state := .sent n } else b

/-- R85, R86: the last byte of the STRIPE frame in transmission has gone out. -/
def frameSent (p : PrinterId) (s : State) : State :=
  match (s.printer p).transmitting with
  | none => s
  | some x =>
    let t := s.onPrinter p fun q => { q with transmitting := none }
    match (t.printer p).copy with
    | none => t
    | some c =>
      let t := if c.id = x.copyId then
          (t.onPrinter p fun q => { q with bufferA := sentBuffer x.stripe q.bufferA, bufferB := sentBuffer x.stripe q.bufferB }).onCopy p fun c =>
            { c with sent := max c.sent (x.stripe + 1), requests := c.requests.filter fun r => !(r.started && r.stripe == x.stripe) }
        else t
      trySend p t

/-! ## The link (R81) -/

/-- R81: every good frame restarts a running link watch. -/
def heard (p : PrinterId) (s : State) : State := s.onPrinter p fun q => { q with watch := some (s.after Config.printerWatchSeconds) }

/-- R81: the link passes to HEARD. -/
def linkHeard (p : PrinterId) (s : State) : State :=
  s.onPrinter p fun q =>
    { q with linkHeard := true, linkChangedAt := if q.linkHeard then q.linkChangedAt else some s.clock, live := { q.live with linkSilent := false } }

/-- R81: a good frame that is no STATUS frame. From an OFFLINE or ABSENT printer it is stray; from one in SERVICE it clears LINK_SILENT. That
a NEXT_STRIPE from an OFFLINE or ABSENT printer, out of sequence by R85 too, is counted stray alone is a DESIGN CHOICE, unsafe: log
entry 47. -/
def goodFrame (p : PrinterId) (f : State → State) (s : State) : State :=
  match (s.printer p).state with
  | .offline | .absent => s.onPrinter p fun q => { q with counts := { q.counts with stray := bump q.counts.stray } }
  | .service => f (linkHeard p (heard p s))
  | _ => f (heard p s)

def countStray (p : PrinterId) (s : State) : State :=
  s.onPrinter p fun q => { q with counts := { q.counts with stray := bump q.counts.stray } }

end Sys2Proof.Machine
end

