-- ==== Sys2Proof/Machine/Stock.lean ====
section
/-! DEFINITION. The stock table's shared operations: the release of placements when usable stock falls short (R69, R70), the effects the
order unit carries out for it (R32), and the scan of the held list (R72). -/

namespace Sys2Proof.Machine

/-- Orders by quote stamp, newest first. -/
def insertNewest (s : State) (o : OrderId) : List OrderId → List OrderId
  | [] => [o]
  | x :: rest => if (s.order x).stamp < (s.order o).stamp then o :: x :: rest else x :: insertNewest s o rest

/-- R69, steps 1 and 2: the orders of a state placed on a printer, newest quote stamp first. -/
def placedNewestFirst (s : State) (p : PrinterId) (st : OrderState) : List OrderId :=
  ((List.finRange 32).filter fun o => (s.order o).state == st && (s.order o).placement == some p).foldr (insertNewest s) []

/-- R69, steps 3 and 4: the orders of a state in a printer's queue, from the tail toward the head. -/
def queuedTailFirst (s : State) (p : PrinterId) (st : OrderState) : List OrderId :=
  ((s.printer p).queue.filter fun o => (s.order o).state == st).reverse

/-- R69: the orders a release takes, in its order. -/
def releaseOrderList (s : State) (p : PrinterId) : List OrderId :=
  placedNewestFirst s p .priced ++ placedNewestFirst s p .paying ++ queuedTailFirst s p .paid ++ queuedTailFirst s p .printing

/-- R69, R32: one order leaves its printer for the other one or loses its placement. -/
def releaseOrder (p : PrinterId) (o : OrderId) (s : State) : State :=
  let other := otherPrinter p
  let fits := decide (remainingUnits (s.order o) ≤ s.freeRoom other)
  match (s.order o).state with
  | .priced => if fits then s.onOrder o fun r => { r with placement := some other } else toDraft o .noMedia s
  | .paying => s.onOrder o fun r => { r with placement := if fits then some other else none }
  | .paid | .printing => if fits then makePaid o other s else enterHeld o s
  | _ => s

/-- R69: a printer whose usable stock is below its committed figure. -/
def short (s : State) (p : PrinterId) : Bool := decide (s.usable p < s.committed p)

/-- R69: one order of the release; an order with nothing to gain is passed over, and nothing is taken once the printer is no longer short. -/
def releaseStep (p : PrinterId) (o : OrderId) (s : State) : State :=
  if short s p = true ∧ remainingUnits (s.order o) ≠ 0 then releaseOrder p o s else s

/-- R69, step 5, and R70: the copy in flight is aborted and its units are released at once. -/
def releaseCopy (p : PrinterId) (s : State) : State :=
  if short s p then abortCopy p .aborted (s.onCopy p fun c => { c with releasedEarly := true }) else s

/-- R69: the release on one printer. -/
def release (p : PrinterId) (s : State) : State := releaseCopy p (forEach (releaseOrderList s p) (releaseStep p) s)

/-- R72: one member of the held list in a scan. Every member is HELD (R71). -/
def scanStep (o : OrderId) (s : State) : State :=
  if (s.order o).state = .held then
    match s.choosePrinter (remainingUnits (s.order o)) with
    | some p => placeHeld o p s
    | none => s
  else s

/-- R72: the scan of the held list, from head to tail. -/
def scanHeld (s : State) : State := forEach s.heldList scanStep s

/-- R72: either printer's free room is larger than before. -/
def roomGrew (before s : State) : Bool := decide (before.freeRoom 0 < s.freeRoom 0) || decide (before.freeRoom 1 < s.freeRoom 1)

/-- R68: a quoted order is placed on the chosen printer and takes the next quote stamp. -/
def placeQuoted (o : OrderId) (p : PrinterId) (s : State) : State :=
  { (s.onOrder o fun r => { r with placement := some p, stamp := s.quoteSequence }) with quoteSequence := s.quoteSequence + 1 }

end Sys2Proof.Machine
end

