-- ==== Sys2Proof/Machine/Payment.lean ====
section
/-! DEFINITION. The payment controller's shared operations: the till (R145), the void list (R143), fresh references (R131), the arbiter's
grants (R130, R134, R141, R144), the end of an authorization (R31, R135, R139), follow-up voids (R136), the end of a settlement
(R141, R142), and link loss (R140). -/

namespace Sys2Proof.Machine

/-! ## Till and void list -/

/-- R145: a figure that would pass its maximum stays there. -/
def capTill (n : Nat) : Nat := min n Config.maxTill

/-- R145: a count rises by one and its sum by an amount, each saturating. -/
def TillPair.add (amount : Nat) (t : TillPair) : TillPair :=
  { count := capTill (t.count + 1), sum := capTill (t.sum + amount),
    countSat := t.countSat || decide (Config.maxTill < t.count + 1), sumSat := t.sumSat || decide (Config.maxTill < t.sum + amount) }

def State.onTill (s : State) (f : Till → Till) : State := s.onTerminal fun t => { t with till := f t.till }

def countApproval (amount : Nat) (s : State) : State := s.onTill fun t => { t with approvals := t.approvals.add amount }
def countCapture (amount : Nat) (s : State) : State := s.onTill fun t => { t with captures := t.captures.add amount }
def countVoid (amount : Nat) (s : State) : State := s.onTill fun t => { t with voids := t.voids.add amount }

/-- A reference joins a list once. -/
def joinOnce (ref : W16) (l : List W16) : List W16 := if l.contains ref then l else l ++ [ref]

/-- R141, R142: a settlement ending UNCOLLECTED is counted and latched, and its reference is kept for R142's late captures. -/
def countUncollected (h : Holder) (s : State) : State :=
  (s.onTill fun t => { t with uncollected := t.uncollected.add h.amount }).onTerminal fun t =>
    { t with latched := { t.latched with uncollected := true }, uncollectedReferences := joinOnce h.reference t.uncollectedReferences }

/-- R143, R144: a void-list entry dropped or failed is counted abandoned and latched. -/
def countAbandoned (amount : Nat) (s : State) : State :=
  (s.onTill fun t => { t with abandoned := t.abandoned.add amount }).onTerminal fun t =>
    { t with latched := { t.latched with voidAbandoned := true } }

/-- R143: the reference of the void-list entry that holds the terminal. -/
def heldVoid (s : State) : Option W16 :=
  match s.terminal.holder with
  | some h => if h.kind = .listVoid then some h.reference else none
  | none => none

/-- An entry leaves the void list. -/
def leaveVoidList (ref : W16) (s : State) : State :=
  s.onTerminal fun t => { t with voidList := t.voidList.filter (·.reference != ref) }

/-- R143: the oldest entry that is not holding the terminal is dropped and counted abandoned. -/
def dropOldestVoid (s : State) : State :=
  match s.terminal.voidList.find? fun e => some e.reference != heldVoid s with
  | some e => countAbandoned e.amount (leaveVoidList e.reference s)
  | none => s

/-- R143: a reference joins the void list at the tail, unless it is there already. -/
def joinVoid (ref : W16) (amount attempts : Nat) (s : State) : State :=
  if s.terminal.voidList.any (·.reference == ref) then s
  else
    let t := if Config.maxVoids ≤ s.terminal.voidList.length then dropOldestVoid s else s
    t.onTerminal fun u => { u with voidList := u.voidList ++ [{ reference := ref, amount := amount, attempts := attempts }] }

/-! ## References (R131) -/

/-- R131: a reference that an order, a void-list entry or the exchange in progress has. -/
def liveReference (s : State) (r : W16) : Bool :=
  (List.finRange 32).any (fun o => (s.order o).reference == some r) || s.terminal.voidList.any (·.reference == r)
    || (match s.terminal.holder with | some h => h.reference == r | none => false)

/-- R131: from 0xFFFF the counter goes to 1. -/
def nextReference (r : W16) : W16 := if r = 0xFFFF#16 then 1#16 else r + 1

/-- R131: live values are skipped. At most 49 references are live, so 64 tries find a free one. -/
def skipLive (s : State) : Nat → W16 → W16
  | 0, r => r
  | n + 1, r => if liveReference s r then skipLive s n (nextReference r) else r

/-! ## Grants -/

/-- R134: the authorization of a PAY starts, under a reference that no longer stands for an older order. R131: live values are skipped here, at
the grant, and not when the counter advances, so the counter shown may stand at a live value. DESIGN CHOICE, unsafe: log entry 43. -/
def grantPay (e : PayEntry) (s : State) : State :=
  let r := s.order e.order
  let ref := skipLive s 64 s.terminal.nextReference
  let total := orderTotal r
  let holder : Holder :=
    { kind := .authorization, reference := ref, amount := total, exchange := .opened, order := some e.order, slot := some e.slot, attempts := 0,
      cardSeen := false, cardWaitLimit := some (s.after Config.cardWaitSeconds), authorizationLimit := some (s.after s.timers.authorization),
      abortLimit := none, answerLimit := none }
  let t := s.onTerminal fun t =>
    { t with state := .authorizing, holder := some holder, nextReference := nextReference ref, waitList := t.waitList.tail,
             uncollectedReferences := t.uncollectedReferences.filter (· != ref) }
  let t := t.onOrder e.order fun r => if r.state = .paying then { r with reference := some ref } else r
  let t := writeBody e.slot (.pay { reference := ref, asked := total, approved := none, code := none, reason := none, granted := some s.clock }) t
  t.emit (.authorize ref total (orZero (·.currency) r.prices))

/-- A holder that waits for an answer (R136, R141, R144). -/
def answerHolder (s : State) (kind : HolderKind) (ref : W16) (amount attempts : Nat) (order : Option OrderId) : Holder :=
  { kind := kind, reference := ref, amount := amount, exchange := .answerWait, order := order, slot := none, attempts := attempts,
    cardSeen := false, cardWaitLimit := none, authorizationLimit := none, abortLimit := none,
    answerLimit := some (s.after Config.answerSeconds) }

/-- R141: a pending settlement is granted: CAPTURE of an amount above 0, VOID for 0. -/
def grantSettlement (e : PendingSettlement) (s : State) : State :=
  let r := s.order e.order
  let ref := r.reference.getD 0
  let amount := r.settlement.getD 0
  let t := s.onTerminal fun t =>
    { t with state := .settling, holder := some (answerHolder s .settlement ref amount e.attempts (some e.order)),
             pendingSettlements := t.pendingSettlements.tail }
  t.emit (if 0 < amount then .capture ref amount else .void ref)

/-- R144: the oldest void-list entry is granted. -/
def grantVoid (e : VoidEntry) (s : State) : State :=
  (s.onTerminal fun t => { t with state := .settling, holder := some (answerHolder s .listVoid e.reference e.amount e.attempts none) }).emit
    (.void e.reference)

/-- R130: the arbiter's check: the lowest pending settlement, else the oldest void-list entry, else the head of the wait list. -/
def arbiter (s : State) : State :=
  if s.terminal.state = .idle ∧ s.terminal.holder = none then
    match s.terminal.pendingSettlements, s.terminal.voidList, s.terminal.waitList with
    | e :: _, _, _ => grantSettlement e s
    | [], v :: _, _ => grantVoid v s
    | [], [], w :: _ => grantPay w s
    | [], [], [] => s
  else s

/-! ## The end of a PAY -/

/-- R31: the slot status of an outcome. -/
def outcomeStatus : PayOutcome → Status
  | .ok => .ok | .declined => .declined | .short => .short | .timedOut => .timedOut | .aborted => .aborted | .terminalLost => .terminalLost
  | .cancelled => .cancelled

/-- R16, R31: the outcomes that start the payment notice. -/
def givesNotice : PayOutcome → Bool
  | .declined | .short | .timedOut | .terminalLost => true
  | _ => false

/-- R31, R73: an approval: the order becomes PAID, or HELD with one try for a printer. -/
def approveOrder (o : OrderId) (code : List Byte) (s : State) : State :=
  let t := s.onOrder o fun r =>
    { r with approved := some (orderTotal r), code := some code, paidAt := some s.clock, lastOutcome := some .ok, uncertain := false }
  match (t.order o).placement with
  | some p => makePaid o p t
  | none => scanStep o (enterHeld o t)

/-- R31: any other outcome: back to PRICED with a fresh quote hold, or to DRAFT. -/
def failOrder (o : OrderId) (outcome : PayOutcome) (s : State) : State :=
  let t := s.onOrder o fun r =>
    { r with reference := none, lastOutcome := some outcome, uncertain := if outcome = .terminalLost then true else r.uncertain }
  let r := t.order o
  if r.placement.isSome = true ∧ hasUnprintable r = false then
    t.onOrder o fun r => { r with state := .priced, hold := .running (t.after t.timers.quoteHold) }
  else toDraft o (if r.placement.isSome then .unprintable else .noMedia) t

/-- R31: the order unit's reports to the station controller at the exit from PAYING. -/
def reportPayEnd (o : OrderId) (outcome : PayOutcome) (s : State) : State :=
  let t := restartWatch o s
  if givesNotice outcome then startNotice (t.order o).station t else t

/-- R135: the PAY result with what the frame gave. -/
def payResult (s : State) (n : SlotId) (approved : Option Nat) (code : Option (List Byte)) (reason : Option Byte) : Body :=
  match (s.slot n).body with
  | .pay r => .pay { r with approved := approved, code := code, reason := reason }
  | b => b

/-- R31: the end of an order's authorization: the order leaves PAYING and the PAY slot completes with the outcome. -/
def endPay (n : SlotId) (o : OrderId) (outcome : PayOutcome) (approved : Option Nat) (code : Option (List Byte)) (reason : Option Byte)
    (s : State) : State :=
  let t := if outcome = .ok then approveOrder o (code.getD []) s else failOrder o outcome s
  complete n (outcomeStatus outcome) .none (payResult t n approved code reason) (reportPayEnd o outcome t)

/-! ## Holdings -/

/-- R130: the holding ends on a live link and the terminal becomes IDLE. -/
def endHolding (s : State) : State := s.onTerminal fun t => { t with state := .idle, holder := none }

/-- The holding ends without an answer; the terminal's state is left to the caller. -/
def clearHolder (s : State) : State := s.onTerminal fun t => { t with holder := none }

/-- R136: the holding passes to a follow-up void. -/
def startFollowUp (ref : W16) (amount : Nat) (s : State) : State :=
  (s.onTerminal fun t => { t with state := .settling, holder := some (answerHolder s .followUpVoid ref amount 0 none) }).emit (.void ref)

/-- R139: an open authorization ends TERMINAL_LOST. -/
def loseAuthorization (h : Holder) (n : SlotId) (o : OrderId) (s : State) : State :=
  let t := endPay n o .terminalLost none none none s
  let t := joinVoid h.reference h.amount 0 t
  t.onTerminal fun u => { u with latched := { u.latched with authLost := true } }

/-- R138: the PAY ends CANCELLED without an answer and its reference joins the void list. -/
def abandonAuthorization (h : Holder) (n : SlotId) (o : OrderId) (s : State) : State :=
  joinVoid h.reference h.amount 0 (endPay n o .cancelled none none none s)

/-- R140: the effect of link loss on the party that holds the terminal. -/
def loseHolding (s : State) : State :=
  match s.terminal.holder with
  | none => s
  | some h =>
    match h.kind, h.slot, h.order with
    | .authorization, some n, some o => clearHolder (loseAuthorization h n o s)
    | .authorization, _, _ => clearHolder (joinVoid h.reference h.amount 0 s)
    | .followUpVoid, _, _ => clearHolder (joinVoid h.reference h.amount 0 s)
    | .settlement, _, some o => addSettlement o h.attempts (clearHolder s)
    | .settlement, _, none => clearHolder s
    | .listVoid, _, _ => clearHolder s

/-- R133: every waiting PAY entry leaves the wait list, in list order, and its PAY ends ABORTED. -/
def endWaiting (s : State) : State :=
  forEach s.terminal.waitList (fun e t => endPay e.slot e.order .aborted none none none t) (s.onTerminal fun t => { t with waitList := [] })

/-- R129, R140: link loss: the holding ends, the terminal takes the state given and waiting PAY entries end. -/
def linkLoss (new : TerminalState) (s : State) : State :=
  endWaiting ((loseHolding s).onTerminal fun t =>
    { t with state := new, watch := none, linkHeard := false, linkChangedAt := if t.linkHeard then some s.clock else t.linkChangedAt })

/-- R36, R141: a settlement exchange ends with an answer or after its last attempt. -/
def endSettlement (o : OrderId) (how : SettleStatus) (s : State) : State := endHolding (closeOrder o how s)

/-- R144: an attempt on the void-list entry that holds the terminal has gone unanswered. -/
def voidAttemptFailed (h : Holder) (s : State) : State :=
  endHolding
    (if h.attempts < 2 then
      s.onTerminal fun t =>
        { t with voidList := t.voidList.map fun e => if e.reference = h.reference then { e with attempts := h.attempts + 1 } else e }
    else countAbandoned h.amount (leaveVoidList h.reference s))

/-- R129: a good frame that has no other effect than the restart of the watch. -/
def terminalStray (s : State) : State :=
  s.onTerminal fun t => { t with counts := { t.counts with stray := bump t.counts.stray } }

/-- R129: every good frame restarts the link watch, which runs in IDLE, AUTHORIZING and SETTLING. -/
def terminalHeard (s : State) : State :=
  match s.terminal.state with
  | .absent | .offline => s
  | _ => s.onTerminal fun t => { t with watch := some (s.after Config.terminalWatchSeconds) }

/-- R129: the holder whose exchange a frame of this reference answers. -/
def holderOf (s : State) (ref : W16) : Option Holder :=
  match s.terminal.holder with
  | some h => if h.reference = ref ∧ (s.terminal.state = .authorizing ∨ s.terminal.state = .settling) then some h else none
  | none => none

end Sys2Proof.Machine
end

