-- ==== Sys2Proof/Machine/Bays.lean ====
section
/-! DEFINITION. The card bays' shared operations: the two halves and their writes (R110, R113, R114), waits for the host (R116), block
failures (R109), how a read becomes active and ends (R112, R118, R119), removal (R105, R121) and arrival (R104). -/

namespace Sys2Proof.Machine

def State.onActive (s : State) (b : BayId) (f : Read → Read) : State := s.onBay b fun y => { y with active := y.active.map f }

/-! ## Halves -/

/-- R110: the half that the next accepted block goes into; halves are filled in turn from half 0. -/
def fillHalf (r : Read) : Fin 2 := if r.accepted / 8 % 2 = 0 then 0 else 1

/-- R110: the half that is written next. -/
def writeHalf (r : Read) : Fin 2 := if r.delivered / 8 % 2 = 0 then 0 else 1

def Bay.half (y : Bay) (h : Fin 2) : Half := if h = 0 then y.half0 else y.half1

def Bay.setHalf (y : Bay) (h : Fin 2) (v : Half) : Bay := if h = 0 then { y with half0 := v } else { y with half1 := v }

/-- R110: a half that a block can go into. -/
def canTake (h : Half) : Bool := h.state == .empty || h.state == .filling

def bothEmpty (y : Bay) : Bool := y.half0.state == .empty && y.half1.state == .empty

def someEmpty (y : Bay) : Bool := y.half0.state == .empty || y.half1.state == .empty

def noneWriting (y : Bay) : Bool := y.half0.state != .writing && y.half1.state != .writing

/-! ## Where a half goes (R113, R114) -/

/-- R114: the number of buffers that lie wholly before a block of the read, so the index from 0 of the buffer the block belongs to. -/
def bufferIndex (r : Read) (block : Nat) : Nat := block * blockBytes / r.chunk

/-- R113, R114: the host address a half starting at a block of the read is written to. -/
def halfAddress (r : Read) (block : Nat) : Nat :=
  match r.mode with
  | .single => r.addressA + block * blockBytes
  | .alternate => (if bufferIndex r block % 2 = 0 then r.addressA else r.addressB) + block * blockBytes % r.chunk

def halfAperture (r : Read) (block : Nat) : ApertureId :=
  match r.mode with
  | .single => r.apertureA
  | .alternate => if bufferIndex r block % 2 = 0 then r.apertureA else r.apertureB

/-- R114: the half starting at a block must wait for a GIVE_BACK: it starts a buffer and two filled buffers have not been given back. -/
def mustWait (r : Read) (block : Nat) : Bool :=
  match r.mode with
  | .single => false
  | .alternate => decide (r.givenBack + 2 ≤ bufferIndex r block)

/-- R152: the areas of a read that are still live. -/
def areasLive (r : Read) : Bool := r.liveA && (r.mode == .single || r.liveB)

/-! ## What the result shows (R114, R115, R118, R119) -/

/-- The bytes in the last buffer filled; none before the first. -/
def lastBytes (r : Read) : Option Nat :=
  if r.mode = .alternate ∧ 0 < r.filled then some (min (r.delivered * blockBytes - (r.filled - 1) * r.chunk) r.chunk) else none

def liveResult (r : Read) : ReadResult :=
  { generation := r.generation, serial := r.serial, delivered := r.delivered, filled := r.filled, givenBack := r.givenBack,
    target := if r.mode = .alternate then some (currentTarget r) else none, lastBytes := lastBytes r, failing := none, waited := none,
    aperture := none }

/-- R118, R119: the result at completion. -/
def finalReadResult (r : Read) : ReadResult :=
  { liveResult r with failing := r.failing, waited := if r.mode = .alternate then some r.waited else none, aperture := r.faultedAperture }

/-- R119: the result of a read that ends while waiting: all its figures are 0 or absent. -/
def unstartedResult (r : Read) : ReadResult :=
  { generation := r.generation, serial := r.serial, delivered := 0, filled := 0, givenBack := 0, target := none, lastBytes := none,
    failing := none, waited := none, aperture := r.faultedAperture }

/-- R164: the active read's figures are kept up to date in its slot. -/
def syncRead (b : BayId) (s : State) : State :=
  match (s.bay b).active with
  | some r => writeBody r.slot (.read (liveResult r)) s
  | none => s

/-! ## Ending and starting reads -/

def endStatus : EndCause → Status
  | .cancelled => .cancelled | .sessionEnded => .sessionEnded | .cardGone => .cardGone | .readFault => .readFault | .stalled => .stalled
  | .transferFault => .transferFault | .unitDown => .unitDown

/-- R118, R119: the bay record of a read that has completed. -/
def recordRead (b : BayId) (n : SlotId) (st : Status) (s : State) : State :=
  s.onBay b fun y =>
    { y with
      last := some { slot := n, status := st, clock := s.clock },
      counts := if st = .ok then { y.counts with readsOk := bump y.counts.readsOk }
                else { y.counts with readsOther := bump y.counts.readsOther } }

/-- R112: the oldest waiting read becomes active. -/
def activateNext (b : BayId) (s : State) : State :=
  match (s.bay b).waiting with
  | [] => s
  | r :: rest =>
    let t := s.onBay b fun y =>
      { y with state := .reading, active := some { r with accepted := 0, delivered := 0, filled := 0, givenBack := 0, waited := 0, failures := 0 },
               waiting := rest, half0 := Half.reset, half1 := Half.reset, run := .running, block := .running Config.blockMs,
               giveBackWait := false, waitLength := 0, waitLimit := false }
    syncRead b (t.emit (.readRun b r.first))

/-- R112: after the active read's slot has completed, the queue moves on. -/
def queueMovesOn (b : BayId) (s : State) : State :=
  match (s.bay b).state with
  | .ready | .reading => activateNext b (s.onBay b fun y => { y with state := .ready })
  | _ => s

/-- R118, R119: the active read's slot completes; its areas die with it. -/
def finishRead (b : BayId) (r : Read) (st : Status) (s : State) : State :=
  let t := s.onBay b fun y =>
    { y with active := none, half0 := Half.reset, half1 := Half.reset, run := .idle, block := .stopped, giveBackWait := false,
             waitLength := 0, waitLimit := false }
  queueMovesOn b (recordRead b r.slot st (complete r.slot st .none (.read (finalReadResult r)) t))

/-- R119: in an ALTERNATE read that ends early, a buffer into which at least one half was written counts as filled. -/
def countPartial (r : Read) : Read :=
  if r.mode = .alternate ∧ r.filled * r.chunk < r.delivered * blockBytes then { r with filled := r.filled + 1 } else r

/-- R119, step 4: a read that winds down completes once nothing of it is being or is still to be written. -/
def finishEnded (b : BayId) (s : State) : State :=
  match (s.bay b).active with
  | some r =>
    match r.ended with
    | some cause => if bothEmpty (s.bay b) then finishRead b (countPartial r) (endStatus cause) s else s
    | none => s
  | none => s

/-! ## Writes, waits and the card clock -/

/-- R110: the transfer of a FULL half. -/
def halfTransfer (b : BayId) (r : Read) (h : Half) : Transfer :=
  { requester := .bay b, direction := .write, address := halfAddress r r.delivered, length := h.blocks * blockBytes,
    aperture := halfAperture r r.delivered, purpose := .half (writeHalf r) h.blocks, data := h.data }

/-- R116: the read begins to wait for a GIVE_BACK. -/
def startWait (b : BayId) (s : State) : State :=
  s.onBay b fun y =>
    if y.giveBackWait then y
    else { y with giveBackWait := true, latched := { y.latched with giveBackWait := true }, waitLength := 0, waitLimit := true }

/-- R110, R114, R116: the bay asks for one write at a time: the next FULL half, unless its buffer cannot start. It asks for none once an area of
the read has died (log entries 26 and 41). -/
def requestWrite (b : BayId) (s : State) : State :=
  match (s.bay b).active with
  | none => s
  | some r =>
    let h := (s.bay b).half (writeHalf r)
    if h.state = .full ∧ s.hasTransfer (.bay b) = false ∧ areasLive r = true then
      if r.ended = none ∧ mustWait r r.delivered = true then startWait b s else s.present (halfTransfer b r h)
    else s

/-- R110: the card clock restarts when a half can take the next block. -/
def restartClock (b : BayId) (s : State) : State :=
  s.onBay b fun y =>
    match y.active with
    | some r => if y.run = .clockStopped ∧ canTake (y.half (fillHalf r)) = true then { y with run := .running, block := y.block.resume } else y
    | none => y

/-- R116: a HALTED run restarts at the first block not yet accepted, once the wait is over and a half is EMPTY. -/
def restartRun (b : BayId) (s : State) : State :=
  match (s.bay b).active with
  | some r =>
    if (s.bay b).run = .halted ∧ (s.bay b).giveBackWait = false ∧ someEmpty (s.bay b) = true then
      (s.onBay b fun y => { y with run := .running, block := .running Config.blockMs }).emit (.readRun b (r.first + r.accepted))
    else s
  | none => s

/-- What the bay does when a half or a buffer has changed: it completes a read whose work is done, restarts the card and asks for writes. -/
def bayAdvance (b : BayId) (s : State) : State :=
  match (s.bay b).active with
  | none => s
  | some r =>
    if r.ended.isSome then finishEnded b (requestWrite b s)
    else if r.delivered = r.count then finishRead b r .ok s
    else requestWrite b (restartRun b (restartClock b s))

/-! ## Early ends (R119) -/

/-- R119, step 3: whether a FULL half is kept to be written: for READ_FAULT and CARD_GONE, when it need not wait for a GIVE_BACK. -/
def keepsHalf (cause : EndCause) (r : Read) (h : Fin 2) : Bool :=
  let block := if h = writeHalf r then r.delivered else r.delivered + 8
  (cause == .readFault || cause == .cardGone) && areasLive r && !mustWait r block

/-- R119, step 3: a half of a read that ends. A WRITING half runs to its end. -/
def endHalf (cause : EndCause) (r : Read) (h : Fin 2) (v : Half) : Half :=
  match v.state with
  | .writing => v
  | .full => if keepsHalf cause r h then v else Half.reset
  | _ => Half.reset

/-- R119: the active read ends for a cause at its stopping point. -/
def windDown (b : BayId) (cause : EndCause) (s : State) : State :=
  match (s.bay b).active with
  | none => s
  | some r =>
    let running := (s.bay b).run = .running ∨ (s.bay b).run = .clockStopped
    let t := if running ∧ (s.bay b).card.isSome = true then s.emit (.halt b) else s
    let t := t.onBay b fun y =>
      { y with active := some { r with ended := some cause, mark := none }, run := .idle, block := .stopped, giveBackWait := false,
               waitLength := 0, waitLimit := false, half0 := endHalf cause r 0 y.half0, half1 := endHalf cause r 1 y.half1 }
    let t := if ((t.bay b).half (writeHalf r)).state = .full then t else t.withdraw (.bay b)
    bayAdvance b t

/-- R119, R121: the active read has passed its last boundary and no half of it waits. -/
def pastLastBoundary (y : Bay) (r : Read) : Bool := r.accepted == r.count && !y.giveBackWait

/-- R119, step 1: CANCELLED and SESSION_ENDED wait for the end of the block then arriving. -/
def endAtBoundary (b : BayId) (cause : EndCause) (s : State) : State :=
  match (s.bay b).active with
  | none => s
  | some r =>
    if r.ended.isSome = true ∨ r.mark.isSome = true ∨ pastLastBoundary (s.bay b) r = true then s
    else if (s.bay b).run = .running then s.onActive b fun r => { r with mark := some cause }
    else windDown b cause s

/-- R119: a cause that acts at once; a read already marked ends with the cause that reached it first. DEDUCED, unsafe: log entry 25. -/
def endAtOnce (b : BayId) (cause : EndCause) (s : State) : State :=
  match (s.bay b).active with
  | none => s
  | some r => if r.ended.isSome then s else windDown b (r.mark.getD cause) s

/-- R119: a waiting read ends at once. -/
def endWaitingRead (b : BayId) (cause : EndCause) (r : Read) (s : State) : State :=
  let t := s.onBay b fun y => { y with waiting := y.waiting.filter (·.slot != r.slot) }
  recordRead b r.slot (endStatus cause) (complete r.slot (endStatus cause) .none (.read (unstartedResult r)) t)

/-- R119: one event that ends several reads of a bay ends the waiting ones in queue order, then the active one, so that the record's last read
names the one last completed. DESIGN CHOICE, unsafe: log entry 36. -/
def endWaitingReads (b : BayId) (cause : EndCause) (s : State) : State := forEach (s.bay b).waiting (endWaitingRead b cause) s

/-- R8, R9: the reads of a bay that a session close ends or marks: those not already ending, and not past their last boundary. -/
def closableReads (y : Bay) : Nat :=
  y.waiting.length + (match y.active with
    | some r => if r.ended.isSome = true ∨ r.mark.isSome = true ∨ pastLastBoundary y r = true then 0 else 1
    | none => 0)

/-- R8, step 3: the close of a session ends the reads of its bay. -/
def closeReads (b : BayId) (s : State) : State := endAtBoundary b .sessionEnded (endWaitingReads b .sessionEnded s)

/-! ## Blocks (R108, R109) -/

/-- R108, R110: a good block joins the filling half. -/
def acceptBlock (b : BayId) (r : Read) (data : List Byte) (s : State) : State :=
  let h := fillHalf r
  let accepted := r.accepted + 1
  let v := (s.bay b).half h
  let blocks := v.blocks + 1
  let full := blocks = 8 ∨ accepted = r.count
  let t := s.onBay b fun y =>
    { (y.setHalf h { state := if full then .full else .filling, blocks := blocks, data := v.data ++ data }) with
      active := some { r with accepted := accepted, failures := 0 }, block := .running Config.blockMs }
  if accepted = r.count then (t.onBay b fun y => { y with run := .idle, block := .stopped }).emit (.halt b)
  else
    t.onBay b fun y =>
      if canTake (y.half (fillHalf { r with accepted := accepted })) then y else { y with run := .clockStopped, block := y.block.pause }

def countRetry (b : BayId) (s : State) : State :=
  s.onBay b fun y => { y with counts := { y.counts with blockRetries := bump y.counts.blockRetries } }

/-- R109: a block failure of a read that no end has reached. -/
def blockFailed (b : BayId) (r : Read) (s : State) : State :=
  let t := countRetry b s
  if r.failures < 2 then
    ((t.onBay b fun y => { y with active := some { r with failures := r.failures + 1 }, run := .running, block := .running Config.blockMs }).emit
      (.halt b)).emit (.readRun b (r.first + r.accepted))
  else
    windDown b .readFault (t.onBay b fun y =>
      { y with active := some { r with failures := r.failures + 1, failing := some (r.first + r.accepted) },
               latched := { y.latched with readFault := true } })

/-- R108, R109, R119: the end of a block at an active read, good or not; a marked read ends at this boundary. -/
def blockEnd (b : BayId) (r : Read) (good : Option (List Byte)) (s : State) : State :=
  match r.mark with
  | some cause =>
    match good with
    | some data => windDown b cause (acceptBlock b r data s)
    | none => windDown b cause (countRetry b s)
  | none =>
    match good with
    | some data => bayAdvance b (acceptBlock b r data s)
    | none => blockFailed b r s

/-! ## Writes that end (R110, R113, R114) -/

/-- R114: the write that brings a buffer to its full size, or that of the read's last block, fills it. -/
def buffersFilled (r : Read) (delivered : Nat) : Nat :=
  match r.mode with
  | .single => 0
  | .alternate =>
    if delivered = r.count ∨ (r.filled + 1) * r.chunk ≤ delivered * blockBytes then r.filled + 1 else r.filled

/-- R113, R114: whether a write's end is an advance of the slot's progress. -/
def advances (r : Read) (delivered : Nat) : Bool :=
  match r.mode with
  | .single => decide (r.delivered / 128 < delivered / 128)
  | .alternate => decide (r.filled < buffersFilled r delivered)

/-- R110: a half's write has ended without error. -/
def halfWritten (b : BayId) (h : Fin 2) (blocks : Nat) (s : State) : State :=
  match (s.bay b).active with
  | none => s
  | some r =>
    let delivered := r.delivered + blocks
    let t := s.onBay b fun y =>
      { (y.setHalf h Half.reset) with active := some { r with delivered := delivered, filled := buffersFilled r delivered } }
    let t := syncRead b t
    bayAdvance b (if advances r delivered then advanceProgress r.slot t else t)

/-- R122: a half's write has ended in a link error: it adds nothing to blocks delivered. -/
def halfFailed (b : BayId) (h : Fin 2) (s : State) : State := bayAdvance b (s.onBay b fun y => y.setHalf h Half.reset)

/-! ## The host gives a buffer back (R115, R116) -/

/-- R115, R116: an accepted GIVE_BACK on the active read. -/
def giveBackBuffer (b : BayId) (r : Read) (s : State) : State :=
  let t := s.onBay b fun y =>
    { y with active := some { r with givenBack := r.givenBack + 1 }, giveBackWait := false, waitLength := 0, waitLimit := false }
  bayAdvance b (syncRead b t)

/-! ## Arrival and removal -/

/-- R104: a contact closing in EMPTY. -/
def startSettling (b : BayId) (s : State) : State :=
  s.onBay b fun y => { y with contact := true, state := .settling, settle := .running Config.settleMs }

/-- R121: some half is FILLING. -/
def halfFilling (y : Bay) : Bool := y.half0.state == .filling || y.half1.state == .filling

/-- R105, R121: the removal of an accepted card. -/
def removeCard (b : BayId) (s : State) : State :=
  let t := s.onBay b fun y =>
    { y with contact := false, state := .empty, card := none, identify := .stopped, identifySends := 0,
             latched := { y.latched with removedDuringRead := y.latched.removedDuringRead || (y.active.isSome && halfFilling y) } }
  let t := endWaitingReads b .cardGone t
  let i : StationId := b
  evalLamps i
    (match (t.bay b).active with
    | some r => if pastLastBoundary (t.bay b) r then t else endAtOnce b .cardGone t
    | none => t)

/-- R107: IDENTIFY is sent and its answer limit starts. -/
def sendIdentify (b : BayId) (s : State) : State :=
  (s.onBay b fun y => { y with identifySends := y.identifySends + 1, identify := .running Config.identifyMs }).emit (.identify b)

/-- R107: a failed identification: IDENTIFY once more, then FAULTED. -/
def identifyFailed (b : BayId) (s : State) : State :=
  if (s.bay b).identifySends < 2 then sendIdentify b s
  else
    evalLamps b (s.onBay b fun y =>
      { y with state := .faulted, identify := .stopped, latched := { y.latched with identFault := true } })

end Sys2Proof.Machine
end

