-- ==== Sys2Proof/Machine/Transfers.lean ====
section
/-! DEFINITION. The transfer engine's shared operations: grants of the master port (R156), outcomes told in grant order (R157), the fault
of an aperture with the deaths of its areas (R158, R159), and the price unit's load (R46, R47, R49). -/

namespace Sys2Proof.Machine

/-! ## Price load -/

/-- R51: a load has ended: its outcome is shown and its slot completes. The image's area dies with the load. -/
def endLoad (l : Load) (outcome : LoadOutcome) (st : Status) (failure : Option (Nat × Violation)) (body : Body) (s : State) : State :=
  complete l.slot st .none body
    (s.onPrice fun u =>
      { u with load := none, last := some { outcome := outcome, clock := s.clock, failure := failure },
               loadFailedLatched := u.loadFailedLatched || outcome == .format || outcome == .transferFault })

/-- R49: a load ends TRANSFER_FAULT. -/
def faultLoad (l : Load) (s : State) : State := endLoad l .transferFault .transferFault none (.loadFault l.aperture) s

/-- R51: the latched TABLE_EMPTY sets when the live condition appears. -/
def installTable (t : PriceTable) (s : State) : State :=
  s.onPrice fun u => { u with table := t, emptyLatched := u.emptyLatched || (anyOffered u.table && !anyOffered t) }

/-- R47: a fetched image is checked whole and installed, or the load completes FORMAT. -/
def judgeImage (l : Load) (image : List Byte) (s : State) : State :=
  match imageFailure image with
  | some (entry, violation) => endLoad l .format .format (some (entry, violation)) (.loadBad entry violation) s
  | none =>
    let t := tableOfImage image l.tag s.clock
    endLoad l .ok .ok none
      (.loaded l.tag s.clock (t.sizes.toList.filter (·.offered)).length (t.promotions.toList.filter (·.rate != 0)).length) (installTable t s)

/-- R47, R49: the fetch of the load has ended without a link error. -/
def imageArrived (image : List Byte) (s : State) : State :=
  match s.price.load with
  | none => s
  | some l =>
    if l.areaDead then faultLoad l s
    else if l.cancelled then endLoad l .cancelled .cancelled none .zero s
    else judgeImage l image s

/-- R49: the load's own transfer has ended in a link error. -/
def imageFailed (s : State) : State :=
  match s.price.load with
  | none => s
  | some l => faultLoad l s

/-- R49: a CANCEL on the load's TAKEN slot. -/
def cancelLoad (l : Load) (s : State) : State :=
  if l.fetching then s.onPrice fun u => { u with load := some { l with cancelled := true } }
  else endLoad l .cancelled .cancelled none .zero (s.withdraw .load)

/-! ## Grants (R156) -/

def highRing : List (Fin 7) := [0, 1]
def normalRing : List (Fin 7) := [2, 3, 4, 5, 6]

/-- The ring from the requester after the one last granted, round to it. -/
def ringFrom (ring : List (Fin 7)) : Option (Fin 7) → List (Fin 7)
  | none => ring
  | some i => (ring.dropWhile (· != i)).drop 1 ++ ring.takeWhile (· != i) ++ ring.filter (· == i)

/-- The first requester of a ring with a waiting request. -/
def firstWaiting (q : Port) (ring : List (Fin 7)) : Option (Fin 7) := ring.find? fun i => !(look q.lines i).isEmpty

/-- R156: the requester the next grant goes to. -/
def nextRequester (q : Port) : Option (Fin 7) :=
  match firstWaiting q (ringFrom highRing q.lastHigh) with
  | some i => some i
  | none => firstWaiting q (ringFrom normalRing q.lastNormal)

/-- R110, R46: what the requester's block changes at a grant: a half is WRITING, a load is FETCHING. -/
def grantNote (t : Transfer) (s : State) : State :=
  match t.requester, t.purpose with
  | .bay b, .half h _ => s.onBay b fun y => y.setHalf h { y.half h with state := .writing }
  | .load, _ => s.onPrice fun u => { u with load := u.load.map fun l => { l with fetching := true } }
  | _, _ => s

/-- R155: what the engine sends on the link for a granted transfer. -/
def sendTransfer (t : Transfer) (s : State) : State :=
  match t.direction with
  | .read => s.emit (.hostRead t.address t.length)
  | .write => (s.emit (.hostWrite t.address t.data)).emit (.hostReadBack (t.address + t.length - 4))

/-- R156: one grant to a requester with a waiting request. -/
def grantTo (i : Fin 7) (s : State) : State :=
  match look s.port.lines i with
  | [] => s
  | t :: rest =>
    let u := s.onPort fun q =>
      { q with lines := upd q.lines i fun _ => rest,
               granted := q.granted ++ [{ transfer := t, timer := .running Config.transferMs, outcome := none }],
               lastHigh := if i.val < 2 then some i else q.lastHigh, lastNormal := if i.val < 2 then q.lastNormal else some i }
    sendTransfer t (grantNote t u)

/-- R156: the number of transfers in progress. -/
def busyTransfers (s : State) : Nat := (s.port.granted.filter inProgress).length

def grantOne (s : State) : State :=
  if busyTransfers s < Config.maxInProgress then
    match nextRequester s.port with
    | some i => grantTo i s
    | none => s
  else s

/-- R156: the arbiter grants until the port is full or no request waits; at most 4 transfers are in progress. -/
def grantLoop (s : State) : State := grantOne (grantOne (grantOne (grantOne s)))

/-! ## Telling outcomes (R157) -/

/-- R155: a requester is told how a transfer ended. -/
def tellOne (t : Transfer) (o : TransferOutcome) (s : State) : State :=
  match t.requester, t.purpose, o with
  | .printer p, .stripe copyId n side last, .done data => stripeArrived p copyId n side last data s
  | .printer p, .stripe copyId n side _, .error _ => stripeFailed p copyId n side s
  | .bay b, .half h blocks, .done _ => halfWritten b h blocks s
  | .bay b, .half h _, .error _ => halfFailed b h s
  | .load, .image, .done data => imageArrived data s
  | .load, .image, .error _ => imageFailed s
  | _, _, _ => s

/-- R157: the outcomes of a requester that can be told: those before its first transfer still in progress, in grant order. -/
def tellable (r : Requester) : List Granted → List (Transfer × TransferOutcome)
  | [] => []
  | g :: rest =>
    if g.transfer.requester = r then
      match g.outcome with
      | some o => (g.transfer, o) :: tellable r rest
      | none => []
    else tellable r rest

/-- R157: those transfers leave the engine. -/
def dropTold (r : Requester) : List Granted → List Granted
  | [] => []
  | g :: rest =>
    if g.transfer.requester = r then
      match g.outcome with
      | some _ => dropTold r rest
      | none => g :: rest
    else g :: dropTold r rest

/-- R157: a requester is told every outcome it can be told. -/
def tellRequester (r : Requester) (s : State) : State :=
  forEach (tellable r s.port.granted) (fun x t => tellOne x.1 x.2 t) (s.onPort fun q => { q with granted := dropTold r q.granted })

/-! ## Aperture faults (R158, R159) -/

/-- R40: an item whose raster died with an aperture. -/
def markItem (o : Order) (a : ApertureId) (i : Item) : Item :=
  if rasterLive o i = true ∧ i.aperture = a then { i with state := .unprintable } else i

/-- R40: the positions of the items an aperture's fault marks. -/
def markedItems (o : Order) (a : ApertureId) : List Nat :=
  (List.range o.items.length).filter fun k => match o.items[k]? with | some i => rasterLive o i && i.aperture == a | none => false

/-- R98: the copy in flight on a printer is aborted if it is of one of the items marked. -/
def abortMarked (p : PrinterId) (o : OrderId) (marked : List Nat) (s : State) : State :=
  match (s.printer p).copy with
  | some c => if c.order = o ∧ marked.contains c.item = true then abortCopy p .aborted s else s
  | none => s

/-- R91: the retry note of a marked item is removed. -/
def dropNote (o : OrderId) (marked : List Nat) (s : State) : State :=
  s.onNote o fun n => match n with | some i => if marked.contains i then none else n | none => none

/-- R40: the effect of the markings on an order, by its state before them. -/
def markEffect (x : OrderId × List Nat) (s : State) : State :=
  let o := x.1
  let t := dropNote o x.2 s
  match (t.order o).state with
  | .priced => toDraft o .unprintable t
  | .paid | .printing | .held => settlementCheck o (abortMarked 1 o x.2 (abortMarked 0 o x.2 t))
  | _ => t

/-- R40: every item with a live raster in the aperture becomes UNPRINTABLE; then each order holding one takes the effect of its state. -/
def killRasters (a : ApertureId) (s : State) : State :=
  let hit := ((List.finRange 32).map fun o => (o, markedItems (s.order o) a)).filter fun x => !x.2.isEmpty
  let t := { s with orders := s.orders.map fun o => { o with items := o.items.map (markItem o a) } }
  forEach hit markEffect t

/-- R122, R152: the areas of a read in the aperture die. -/
def killAreas (a : ApertureId) (r : Read) : Read :=
  if readAreas a r = 0 then r
  else { r with liveA := r.liveA && r.apertureA != a, liveB := r.liveB && r.apertureB != a,
                faultedAperture := if r.ended.isSome = true ∨ r.mark.isSome = true then r.faultedAperture else some a }

/-- R119, R158: the FULL halves of a read whose areas have died are not written. -/
def discardFull (v : Half) : Half := if v.state = .full then Half.reset else v

/-- R122: a bay's reads with an area in the aperture end TRANSFER_FAULT: the waiting ones at once, the active one by R119. A read that CANCEL or
a session close has marked is left to its block boundary and its mark's cause, and no further write of it is asked for: DESIGN CHOICE, unsafe,
log entry 41. A read that winds down already keeps its cause and loses all its FULL halves, and with them the write that the bay has asked for
and that is not granted, whatever aperture they are bound for: DESIGN CHOICE, unsafe, log entry 42. -/
def killReads (a : ApertureId) (b : BayId) (s : State) : State :=
  let hit := (s.bay b).waiting.filter fun r => readAreas a r != 0
  let t := forEach hit (fun r u => endWaitingRead b .transferFault { r with faultedAperture := some a } u) s
  match (t.bay b).active with
  | none => t
  | some r =>
    if readAreas a r = 0 then t
    else
      let u := t.onActive b (killAreas a)
      if r.ended.isSome then
        bayAdvance b ((u.onBay b fun y => { y with half0 := discardFull y.half0, half1 := discardFull y.half1 }).withdraw (.bay b))
      else if r.mark.isSome then u
      else windDown b .transferFault u

/-- R49: the price load's area dies: WAITING ends at once, FETCHING once its transfer has ended. -/
def killLoad (a : ApertureId) (s : State) : State :=
  match s.price.load with
  | none => s
  | some l =>
    if l.aperture = a ∧ l.areaDead = false then
      (if l.fetching then s.onPrice fun u => { u with load := some { l with areaDead := true } } else faultLoad l s)
    else s

/-- R158, step 3: every waiting or not yet granted transfer under the aperture is withdrawn. The stripe buffer of a fetch withdrawn so stays
FILLING until the copy, which R40 aborts in the same event, ends. DESIGN CHOICE, unsafe: log entry 40. -/
def withdrawUnder (a : ApertureId) (s : State) : State :=
  s.onPort fun q => { q with lines := q.lines.map fun l => l.filter (·.aperture != a) }

/-- R158, step 4: every live area in the aperture dies. -/
def killAll (a : ApertureId) (s : State) : State :=
  killLoad a (forEach (List.finRange 4) (killReads a) (killRasters a s))

/-- R158: a transfer has ended in a link error; if its aperture is ACTIVE it faults. -/
def faultAperture (t : Transfer) (cause : FaultCause) (s : State) : State :=
  if (s.aperture t.aperture).state = .active then
    let record : FaultRecord :=
      { clock := s.clock, direction := t.direction, requester := t.requester, address := t.address, cause := cause,
        areasDied := s.useCount t.aperture }
    killAll t.aperture (withdrawUnder t.aperture
      (s.onAperture t.aperture fun e => { e with state := .faulted, fault := some record }))
  else s

/-- R155, R157: the transfer at a place among those granted has ended: a link error faults its aperture, and its requester is told. -/
def endTransfer (index : Nat) (outcome : TransferOutcome) (s : State) : State :=
  match s.port.granted[index]? with
  | none => s
  | some g =>
    if g.outcome.isSome then s
    else
      let t := s.onPort fun q => { q with granted := q.granted.modify index fun g => { g with timer := .stopped, outcome := some outcome } }
      let t := match outcome with
        | .error cause => faultAperture g.transfer cause t
        | .done _ => t
      tellRequester g.transfer.requester t

end Sys2Proof.Machine
end

