-- ==== Sys2Proof/Machine/Event.lean ====
section
/-! DEFINITION. The frame of an event: which events the part takes in which state (R181, R182), what follows an event at its end (R69,
R72, R83, R130, R156, R17), the records it marks and the interrupt check (R173, R175). And the close of a session (R8). -/

namespace Sys2Proof.Machine

/-- An outcome of this machine. -/
abbrev Result := Host.Outcome State Fault Refusal

/-- R17, R42, R173: what an event has done before the blocks settle is marked, so that a change undone in the settling is not lost. -/
def noteChanges (before s : State) : State := markChanges before (evalAllLamps s)

/-- R69: the release on each printer. Its changes are marked before the scan and the begin checks. -/
def releaseBoth (s : State) : State := markChanges s (release 1 (release 0 s))

/-- The end of an event that may move stock, copies, the terminal or the master port: release on each short printer, the held-list scan if
free room grew, the begin checks, the arbiter, the grants and the lamps. The order is DEDUCED, unsafe: log entry 15. -/
def settle (before s : State) : State :=
  let t := releaseBoth (noteChanges before s)
  let t := if roomGrew before t then scanHeld t else t
  let t := beginCheck 1 (beginCheck 0 t)
  evalAllLamps (grantLoop (arbiter t))

/-- What was sent in an earlier step is over. -/
def State.quiet (s : State) : State := { s with out := [] }

/-- R182: an event of a block, taken in RUN only; at its end the records that changed are marked and the interrupt check runs. -/
def event (f : State → State) (s : State) : Result :=
  .next (if s.part = .run then closeEvent s.quiet (f s.quiet) else s.quiet)

/-- An event after which the blocks settle. -/
def settlingEvent (f : State → State) (s : State) : Result := event (fun t => settle t (f t)) s

/-- R161, R176: a host write reaches the window only over a link that is up and in RUN. -/
def hostEvent (f : State → State) (s : State) : Result :=
  .next (if s.part = .run ∧ s.pcieUp = true then closeEvent s.quiet (f s.quiet) else s.quiet)

/-- R162, R175: a host write to a control word, followed by the interrupt check of the second case. -/
def controlWrite (f : State → State) (s : State) : Result :=
  .next (if s.part = .run ∧ s.pcieUp = true then interruptAfterWrite (f s.quiet) else s.quiet)

/-! ## Closing a session -/

/-- R8, step 2: an order of the list in DRAFT or PRICED is cancelled. -/
def cancelForClose (o : OrderId) (s : State) : State :=
  match (s.order o).state with
  | .draft | .priced => makeCancelled o s
  | _ => s

/-- R8: the orders of a session's list that a close cancels. -/
def cancellable (s : State) (k : SessionId) : List OrderId :=
  (s.session k).orders.filter fun o => (s.order o).state == .draft || (s.order o).state == .priced

/-- R8, step 4: what the entry becomes. -/
def closeEntry (k : SessionId) (i : StationId) (s : State) : State :=
  if 0 < s.nonFinalCount k then
    (s.onSession k fun e => { e with state := .draining }).onStation i fun t => { t with draining := t.draining + 1 }
  else freeEntry k s

/-- R8: the close of the ACTIVE session k of station i. -/
def closeSession (i : StationId) (k : SessionId) (cause : CloseCause) (s : State) : State :=
  let t := s.onSession k fun e => { e with deadline := none }
  let t := forEach (t.session k).orders cancelForClose t
  let t := closeEntry k i (closeReads i t)
  let t := t.onStation i fun e => { e with session := none, last := some { index := k, cause := cause, clock := s.clock } }
  evalLamps i (t.markUnit (stationUnit i))

end Sys2Proof.Machine
end

