-- ==== Sys2Proof/Machine/Operands.lean ====
section
/-! DEFINITION. The operand forms of the request part (R163, R184): header, handle, host area and the fields of each kind, and the frame of
a taking (R170): the head of the intake list, the tag echo and the checks up to NO_SUCH. -/

namespace Sys2Proof.Machine

/-! ## Fields of a request part -/

def reqByte (c : Slot) (a : Nat) : Nat := (Mem.read c.request a).toNat

/-- A little-endian field of a request part. -/
def reqField (c : Slot) (a n : Nat) : Nat := Mem.number c.request a n

def kindCode (c : Slot) : Nat := reqField c 0 2
def stationField (c : Slot) : Nat := reqByte c 2
def hostTag (c : Slot) : W32 := BitVec.ofNat 32 (reqField c 4 4)

/-- R19: the handle of a request; an index above 31 names no record. -/
def handleField (c : Slot) : Option Handle :=
  if h : reqByte c 16 < 32 then some { index := ⟨reqByte c 16, h⟩, serial := BitVec.ofNat 32 (reqField c 20 4) } else none

/-! ## Kinds (R184) -/

/-- The request kinds. -/
inductive Kind where
  | openSession | closeSession | openOrder | addItem | changeItem | removeItem | setPromo | quote | pay | cancelOrder | retireOrder | readCard
  | loadPrices | setAperture | setTimers | shiftClose | resetUnit | printerService
  deriving DecidableEq, Repr

def Kind.code : Kind → Nat
  | .openSession => 0x0001 | .closeSession => 0x0002 | .openOrder => 0x0010 | .addItem => 0x0011 | .changeItem => 0x0012 | .removeItem => 0x0013
  | .setPromo => 0x0014 | .quote => 0x0015 | .pay => 0x0016 | .cancelOrder => 0x0017 | .retireOrder => 0x0018 | .readCard => 0x0020
  | .loadPrices => 0x0100 | .setAperture => 0x0101 | .setTimers => 0x0102 | .shiftClose => 0x0103 | .resetUnit => 0x0104
  | .printerService => 0x0105

def allKinds : List Kind :=
  [.openSession, .closeSession, .openOrder, .addItem, .changeItem, .removeItem, .setPromo, .quote, .pay, .cancelOrder, .retireOrder, .readCard,
   .loadPrices, .setAperture, .setTimers, .shiftClose, .resetUnit, .printerService]

/-- R177: the service kinds. -/
def Kind.service : Kind → Bool
  | .loadPrices | .setAperture | .setTimers | .shiftClose | .resetUnit | .printerService => true
  | _ => false

/-- R163: the kinds that carry a station in the header. -/
def Kind.carriesStation : Kind → Bool
  | .openSession | .closeSession | .openOrder | .readCard => true
  | _ => false

/-- The 8 bytes of a handle: index and serial; the 3 bytes between are reserved. -/
def handleSpan : List (Nat × Nat) := [(16, 1), (20, 4)]

/-- READ_CARD, modes: 0 SINGLE, 1 ALTERNATE. -/
def readSpan (mode : Nat) : List (Nat × Nat) :=
  let common := [(16, 1), (17, 1), (18, 2), (20, 4), (24, 2), (32, 8)]
  if mode = 0 then (40, 4) :: common
  else if mode = 1 then (28, 4) :: (48, 8) :: common
  else (28, 4) :: (40, 4) :: (48, 8) :: common

/-- R184: offset and size of the request fields of a kind. Every other byte from 16 on is reserved. -/
def Kind.span (c : Slot) : Kind → List (Nat × Nat)
  | .openSession | .closeSession | .openOrder | .shiftClose => []
  | .addItem => handleSpan ++ [(24, 1), (25, 1), (26, 1), (32, 8), (40, 4)]
  | .changeItem => handleSpan ++ [(24, 1), (25, 1), (26, 1)]
  | .removeItem | .setPromo => handleSpan ++ [(24, 1)]
  | .quote | .pay | .cancelOrder | .retireOrder => handleSpan
  | .readCard => readSpan (reqByte c 17)
  | .loadPrices => [(16, 4), (24, 8), (32, 4)]
  | .setAperture => [(16, 1), (17, 1), (24, 8), (32, 8)]
  | .setTimers => [(16, 1), (20, 4), (24, 4), (28, 4), (32, 4)]
  | .resetUnit => [(16, 1), (17, 1)]
  | .printerService => [(16, 1), (17, 1)]

/-- R163, R184: the header's fields: kind, station in the kinds that carry one, host tag. -/
def Kind.headerSpan (k : Kind) : List (Nat × Nat) := if k.carriesStation then [(0, 2), (2, 1), (4, 4)] else [(0, 2), (4, 4)]

def covers (l : List (Nat × Nat)) (a : Nat) : Bool := l.any fun f => decide (f.1 ≤ a) && decide (a < f.1 + f.2)

/-- R170, first check: the bytes of no field are zero. A canonical request part lists its nonzero bytes only. -/
def reservedZero (k : Kind) (c : Slot) : Bool := c.request.all fun cell => covers (k.headerSpan ++ k.span c) cell.1 || cell.2 == 0#8

/-- R178, R179: reserved bits inside a field: the mask bits of SET_TIMERS above 3, and the number of a terminal RESET_UNIT. -/
def innerZero (k : Kind) (c : Slot) : Bool :=
  match k with
  | .setTimers => decide (reqByte c 16 < 16)
  | .resetUnit => !(reqByte c 16 == 3 && reqByte c 17 != 0)
  | _ => true

def formatGood (k : Kind) (c : Slot) : Bool := reservedZero k c && innerZero k c

/-! ## The frame of a taking (R170) -/

/-- R164, R170: the slot leaves the head of the intake list and is TAKEN; the tag echo is written. -/
def takeSlot (n : SlotId) (rest : List SlotId) (s : State) : State :=
  { (s.onSlot n fun c => { c with state := .taken, tagEcho := hostTag c }) with intake := rest }

/-- R177: the station slots. -/
def stationSlot (n : SlotId) : Bool := decide (n.val < 56)

/-- A completion without kind-specific fields. -/
def refuseSlot (n : SlotId) (st : Status) (s : State) : State := complete n st .none .zero s

/-- R170: the first two checks, then the kind's own. -/
def dispatch (k : Kind) (work : SlotId → State → State) (n : SlotId) (s : State) : State :=
  if formatGood k (s.slot n) = false then refuseSlot n .format s
  else if k.service = true ∧ stationSlot n = true then refuseSlot n .privilege s
  else work n s

/-- R170: the taking of the slot at the head of the intake list, which is of the kind; with any other head, or none, this command cannot
occur (DESIGN CHOICE, safe: log entries 6 and 7). -/
def taking (k : Kind) (work : SlotId → State → State) (s : State) : State :=
  match s.intake with
  | [] => s
  | n :: rest => if kindCode (s.slot n) = k.code then dispatch k work n (takeSlot n rest s) else s

/-- R1, R170: the third check of a kind that carries a station, and the report to the station controller (R11). -/
def withStation (work : StationId → SlotId → State → State) (n : SlotId) (s : State) : State :=
  if h : stationField (s.slot n) < 4 then work ⟨stationField (s.slot n), h⟩ n (restartForStation ⟨stationField (s.slot n), h⟩ s)
  else refuseSlot n .noSuch s

/-- R19, R170: the third check of a kind that names an order, and the report to the station controller (R11). -/
def withOrder (work : OrderId → SlotId → State → State) (n : SlotId) (s : State) : State :=
  match handleField (s.slot n) with
  | some h => if s.isCurrent h then work h.index n (restartForOrder h.index s) else refuseSlot n .noSuch s
  | none => refuseSlot n .noSuch s

/-- R170, R184: a STATE refusal of a kind that names an order carries the order's state. -/
def refuseState (o : OrderId) (n : SlotId) (s : State) : State := complete n .state .none (.orderState (s.order o).state) s

/-! ## Codes the host writes -/

def sizeOfCode (n : Nat) : Option Size :=
  match n with
  | 0 => some .p2 | 1 => some .p4 | 2 => some .p6 | 3 => some .p8 | _ => none

def finishOfCode (n : Nat) : Option Finish :=
  match n with
  | 0 => some .glossy | 1 => some .matte | _ => none

def accessOfCode (n : Nat) : Option Access :=
  match n with
  | 0 => some .none | 1 => some .read | 2 => some .write | 3 => some .readWrite | _ => none

/-- R24, R25: a quantity in range. -/
def quantityGood (n : Nat) : Bool := decide (1 ≤ n) && decide (n ≤ 99)

end Sys2Proof.Machine
end

