-- ==== Sys2Proof/Machine/Window.lean ====
section
/-! DEFINITION. The host's writes to the exchange window (R161 to R168, R174) and the taking of an unknown kind (R170). -/

namespace Sys2Proof.Machine

/-! ## Request parts and discarded writes -/

/-- R163: the request part takes host writes only while its slot is FREE. -/
def writeRequest (n : SlotId) (offset : Nat) (data : List Byte) (s : State) : State :=
  if (s.slot n).state = .free then s.onSlot n fun c => { c with request := Mem.store c.request offset data } else s

/-- SLOT_REQUEST_WRITE (R163). -/
def execSlotRequestWrite (n : SlotId) (offset : Nat) (data : List Byte) (s : State) : Result := hostEvent (writeRequest n offset data) s

/-- WINDOW_WRITE_DISCARDED (R161): a discarded write changes nothing and reaches no block. -/
def execWindowWriteDiscarded (_offset : Nat) (_data : List Byte) (s : State) : Result := .next s.quiet

/-! ## Control words -/

/-- R162, R172: a 1 written to DONE, PROGRESS or MISUSE clears that flag. -/
def clearAttn (v : W32) (s : State) : State :=
  { s with attnDone := s.attnDone && !v.getLsbD 0, attnProgress := s.attnProgress && !v.getLsbD 1, attnMisuse := s.attnMisuse && !v.getLsbD 4 }

/-- ATTN (R162). -/
def execAttn (v : W32) (s : State) : Result := controlWrite (clearAttn v) s

/-- ATTN_ENABLE (R162): the five enables take the written values. -/
def execAttnEnable (v : W32) (s : State) : Result := controlWrite (fun t => { t with attnEnable := v.setWidth 5 }) s

/-- R14: a latched condition whose live condition is absent clears. -/
def ackStation (t : Station) : Station := { t with noRoomLatched := t.noRoomLatched && t.noRoomLive, idleClosed := false }

/-- R124. -/
def ackBay (y : Bay) : Bay :=
  { y with latched :=
    { identFault := y.latched.identFault && y.state == .faulted, giveBackWait := y.latched.giveBackWait && y.giveBackWait, readFault := false,
      removedDuringRead := false, stalled := false } }

/-- R94. -/
def ackConditions (latched live : Conditions) : Conditions :=
  { jam := latched.jam && live.jam, mediaOut := latched.mediaOut && live.mediaOut, overheat := latched.overheat && live.overheat,
    doorOpen := latched.doorOpen && live.doorOpen, headCooling := latched.headCooling && live.headCooling }

/-- R94. -/
def ackPrinter (q : Printer) : Printer :=
  { q with latched :=
    { reported := ackConditions q.latched.reported q.live.reported, linkSilent := q.latched.linkSilent && q.live.linkSilent, underrun := false,
      packChanged := false, overheatStop := false } }

/-- R148. -/
def ackTerminal (t : Terminal) : Terminal :=
  { t with latched := { linkSilent := t.latched.linkSilent && t.linkSilentLive, authLost := false, voidAbandoned := false, uncollected := false } }

/-- R51. -/
def ackPrice (u : PriceUnit) : PriceUnit := { u with emptyLatched := u.emptyLatched && !anyOffered u.table, loadFailedLatched := false }

/-- R174: the acknowledgement of a unit record: its latched conditions without a live one clear. -/
def ackUnit (n : UnitId) (s : State) : State :=
  if h : n.val < 4 then s.onStation ⟨n.val, h⟩ ackStation
  else if h : n.val < 8 then s.onBay ⟨n.val - 4, by omega⟩ ackBay
  else if h : n.val < 10 then s.onPrinter ⟨n.val - 8, by omega⟩ ackPrinter
  else if n.val = 10 then s.onTerminal ackTerminal
  else s.onPrice ackPrice

/-- R174: the records whose bit is written 1 are acknowledged and their bits clear. -/
def ackUnits (v : W32) (s : State) : State :=
  let t := forEach (List.finRange 12) (fun n u => if v.getLsbD n.val then ackUnit n u else u) s
  { t with unitChanged := t.unitChanged &&& ~~~(v.setWidth 12) }

/-- UNIT_CHANGED (R174). -/
def execUnitChanged (v : W32) (s : State) : Result := controlWrite (ackUnits v) s

/-- ORDER_CHANGED (R174): order records have no latched conditions. -/
def execOrderChanged (v : W32) (s : State) : Result := controlWrite (fun t => { t with orderChanged := t.orderChanged &&& ~~~v }) s

/-! ## The strip -/

/-- R166: a refused or discarded strip write. -/
def misuse (s : State) : State := { s with attnMisuse := true }

/-- R164 to R166, R169: a FREE slot is POSTED at the tail of the intake list, its result part and progress zero. -/
def postSlot (n : SlotId) (s : State) : State :=
  if (s.slot n).state = .free then
    { (s.onSlot n fun c =>
        { c with state := .posted, progress := 0, status := .ok, reason := .none, tagEcho := 0, completedAt := 0, body := .zero }) with
      intake := s.intake ++ [n] }
  else misuse s

/-- POST (R166). -/
def execPost (n : SlotId) (s : State) : Result := hostEvent (postSlot n) s

/-- R167: a POSTED slot leaves the intake list and completes CANCELLED. -/
def cancelPosted (n : SlotId) (s : State) : State :=
  refuseSlot n .cancelled
    { (s.onSlot n fun c => { c with state := .taken, tagEcho := hostTag c }) with intake := s.intake.filter (· != n) }

/-- R138: ABORT is sent for the authorization in the exchange; the card-wait limit stops and the authorization limit goes on. -/
def abortExchange (h : Holder) (s : State) : State :=
  (s.onTerminal fun t =>
    { t with holder := some { h with exchange := .aborting, abortLimit := some (s.after Config.terminalAbortSeconds), cardWaitLimit := none } }).emit
    (.abort h.reference)

/-- R133, R138: a CANCEL handed to the payment controller. -/
def cancelPay (n : SlotId) (s : State) : State :=
  match s.terminal.waitList.find? (·.slot == n) with
  | some e =>
    endPay n e.order .cancelled none none none (s.onTerminal fun t => { t with waitList := t.waitList.filter (·.slot != n) })
  | none =>
    match s.terminal.holder with
    | some h => if h.slot = some n ∧ h.exchange = .opened then abortExchange h s else s
    | none => s

/-- R120: a CANCEL handed to a bay. -/
def cancelRead (n : SlotId) (b : BayId) (s : State) : State :=
  match (s.bay b).waiting.find? (·.slot == n) with
  | some r => endWaitingRead b .cancelled r s
  | none =>
    match (s.bay b).active with
    | some r => if r.slot = n then endAtBoundary b .cancelled s else s
    | none => s

/-- R49: a CANCEL handed to the price unit. -/
def cancelPriceLoad (n : SlotId) (s : State) : State :=
  match s.price.load with
  | some l => if l.slot = n then cancelLoad l s else s
  | none => s

/-- R167: a CANCEL on a TAKEN slot reaches the owner of its operation. -/
def cancelTaken (n : SlotId) (s : State) : State :=
  cancelPriceLoad n (forEach (List.finRange 4) (cancelRead n) (cancelPay n s))

/-- R166: CANCEL by the slot's state. -/
def cancelSlot (n : SlotId) (s : State) : State :=
  match (s.slot n).state with
  | .posted => cancelPosted n s
  | .taken => settle s (cancelTaken n s)
  | .free | .done => s

/-- CANCEL (R167). -/
def execCancel (n : SlotId) (s : State) : Result := hostEvent (cancelSlot n) s

/-- R168: a DONE slot becomes FREE; its result part is kept. -/
def releaseSlot (n : SlotId) (s : State) : State :=
  if (s.slot n).state = .done then s.onSlot n fun c => { c with state := .free, progress := 0 } else misuse s

/-- RELEASE (R168). -/
def execRelease (n : SlotId) (s : State) : Result := hostEvent (releaseSlot n) s

/-- R115: the bay whose active read is an ALTERNATE read of the slot, with that read. -/
def alternateRead (s : State) (n : SlotId) : Option (BayId × Read) :=
  (List.finRange 4).findSome? fun b =>
    match (s.bay b).active with
    | some r => if r.slot = n ∧ r.mode = .alternate then some (b, r) else none
    | none => none

/-- R115, R168: GIVE_BACK: accepted while fewer buffers are given back than filled, else refused. -/
def giveBackSlot (n : SlotId) (s : State) : State :=
  match alternateRead s n with
  | some (b, r) =>
    if (s.slot n).state = .taken ∧ r.givenBack < r.filled then settle s (giveBackBuffer b r s) else misuse s
  | none => misuse s

/-- GIVE_BACK (R115). -/
def execGiveBack (n : SlotId) (s : State) : Result := hostEvent (giveBackSlot n) s

/-- STRIP_WRITE_REFUSED (R166): narrower, unaligned and unknown writes are refused alike. -/
def execStripWriteRefused (_n : SlotId) (_why : StripMisuse) (s : State) : Result := hostEvent misuse s

/-! ## An unknown kind -/

/-- R170, first check: a kind code of no kind. -/
def takeUnknown (s : State) : State :=
  match s.intake with
  | [] => s
  | n :: rest =>
    if allKinds.any (fun k => k.code == kindCode (s.slot n)) then s else refuseSlot n .format (takeSlot n rest s)

/-- UNKNOWN_KIND (R170). -/
def execUnknownKind (s : State) : Result := event takeUnknown s

end Sys2Proof.Machine
end

