-- ==== Sys2Proof/Machine/SessionKinds.lean ====
section
/-! DEFINITION. The takings of OPEN_SESSION and CLOSE_SESSION (R7, R9), the idle expiry (R13) and the station's lamp timers (R15 to R17). -/

namespace Sys2Proof.Machine

/-- R7. -/
def openSessionWork (i : StationId) (n : SlotId) (s : State) : State :=
  match (s.station i).session with
  | some k => complete n .state .none (.openSession k (s.session k).openedAt 0) s
  | none =>
    match lowestFree s with
    | none => refuseSlot n .tableFull s
    | some k => complete n .ok .none (.openSession k s.clock s.timers.idle) (openSessionAt i k s)

/-- OPEN_SESSION (R7). -/
def execOpenSession (s : State) : Result := event (taking .openSession (withStation openSessionWork)) s

/-- R9: the order of a session's list in PAYING. -/
def payingOrder (s : State) (k : SessionId) : Option OrderId := (s.session k).orders.find? fun o => (s.order o).state == .paying

/-- R9. -/
def closeSessionWork (i : StationId) (n : SlotId) (s : State) : State :=
  match (s.station i).session with
  | none => complete n .state .noSession .zero s
  | some k =>
    match payingOrder s k with
    | some o => complete n .state .paymentOpen (.paymentOpen { index := o, serial := (s.order o).serial }) s
    | none =>
      let t := closeSession i k .host s
      settle s (complete n .ok .none
        (.closeSession k (t.session k).state (cancellable s k).length (closableReads (s.bay i))) t)

/-- CLOSE_SESSION (R9). -/
def execCloseSession (s : State) : Result := event (taking .closeSession (withStation closeSessionWork)) s

/-- R13. -/
def idleExpires (k : SessionId) (s : State) : State :=
  if (s.session k).state = .active ∧ (s.session k).deadline.isSome = true then
    let i := (s.session k).station
    settle s ((closeSession i k .idle s).onStation i fun t => { t with idleClosed := true })
  else s

/-- IDLE_EXPIRY (R13). -/
def execIdleExpiry (k : SessionId) (s : State) : Result := event (idleExpires k) s

/-- PAYMENT_NOTICE_EXPIRY (R16): the cause disappears. -/
def execPaymentNoticeExpiry (i : StationId) (s : State) : Result :=
  event (fun t => if (t.station i).notice.isSome then evalLamps i (t.onStation i fun e => { e with notice := none }) else t) s

/-- MINIMUM_ON_TIME_EXPIRY (R17): the lamp is evaluated again. -/
def execMinimumOnTimeExpiry (i : StationId) (s : State) : Result :=
  event (fun t => if (t.station i).minimumOn.isSome then evalLamps i (t.onStation i fun e => { e with minimumOn := none }) else t) s

/-- BLINK_TOGGLE (R15): the READY output of a blinking lamp changes its half. -/
def execBlinkToggle (i : StationId) (s : State) : Result :=
  event (fun t => if (t.station i).ready = .blink then t.onStation i fun e => { e with blinkOn := !e.blinkOn } else t) s

end Sys2Proof.Machine
end

