-- ==== Sys2Proof/Machine/OrderKinds.lean ====
section
/-! DEFINITION. The takings of the order requests (R22 to R30, R37 to R39) and the quote hold expiry (R29). -/

namespace Sys2Proof.Machine

/-! ## OPEN_ORDER -/

/-- R19: the lowest-numbered FREE record. -/
def lowestFreeOrder (s : State) : Option OrderId := (List.finRange 32).find? fun o => (s.order o).state == .free

/-- R22: the number of FREE records. -/
def freeOrders (s : State) : Nat := ((List.finRange 32).filter fun o => (s.order o).state == .free).length

/-- R19: serial 0 is never given. -/
def nextSerial (v : W32) : W32 := if v = 0xFFFFFFFF#32 then 1#32 else v + 1

/-- R22: a record takes a new order of session k at station i; its index joins the session's order list. -/
def createOrder (i : StationId) (k : SessionId) (o : OrderId) (s : State) : State :=
  let t := s.onOrder o fun _ =>
    { Order.reset with state := .draft, serial := s.orderSerial, station := i, session := k, openedAt := s.clock }
  { (t.onSession k fun e => { e with orders := e.orders ++ [o] }) with orderSerial := nextSerial s.orderSerial }

/-- R22. -/
def openOrderWork (i : StationId) (n : SlotId) (s : State) : State :=
  match (s.station i).session with
  | none => complete n .state .noSession .zero s
  | some k =>
    if Config.maxNonFinal ≤ s.nonFinalCount k then complete n .state .orderLimit .zero s
    else
      match lowestFreeOrder s with
      | none => refuseSlot n .tableFull s
      | some o =>
        let t := createOrder i k o s
        complete n .ok .none (.openOrder { index := o, serial := s.orderSerial } k (freeOrders t)) t

/-- OPEN_ORDER (R22). -/
def execOpenOrder (s : State) : Result := event (taking .openOrder (withStation openOrderWork)) s

/-! ## Edits (R23 to R27) -/

/-- R23: the states in which an edit is taken. -/
def editable (o : Order) : Bool := o.state == .draft || o.state == .priced

/-- R23: an edit that has passed its checks: a PRICED order first returns to DRAFT; the edit is applied; the record's change bit sets. -/
def applyEdit (o : OrderId) (f : Order → Order) (s : State) : State :=
  let t := if (s.order o).state = .priced then toDraft o .edited s else s
  (t.onOrder o f).markOrder o

/-- R24: the fields of an ADD_ITEM that have passed RANGE. -/
structure NewItem where
  size : Size
  finish : Finish
  quantity : Nat
  address : Nat
  aperture : ApertureId
  deriving DecidableEq, Repr

/-- R24: the RANGE check: the item, or the number of the first field found bad. -/
def itemFields? (s : State) (c : Slot) : Except Nat NewItem :=
  match sizeOfCode (reqByte c 24) with
  | none => .error 0
  | some size =>
    match finishOfCode (reqByte c 25) with
    | none => .error 1
    | some finish =>
      if quantityGood (reqByte c 26) = false then .error 2
      else if reqField c 40 4 ≠ rasterBytes size then .error 3
      else
        match s.findAperture .read (reqField c 32 8) (rasterBytes size) with
        | none => .error 4
        | some a => .ok { size := size, finish := finish, quantity := reqByte c 26, address := reqField c 32 8, aperture := a }

/-- R24: a PENDING item with counts 0. -/
def freshItem (i : NewItem) : Item :=
  { size := i.size, finish := i.finish, quantity := i.quantity, address := i.address, aperture := i.aperture, printed := 0, failed := 0,
    inFlight := 0, state := .pending, dropped := false }

/-- R24. -/
def addItemWork (o : OrderId) (n : SlotId) (s : State) : State :=
  match itemFields? s (s.slot n) with
  | .error field => complete n .range .none (.badField field) s
  | .ok i =>
    let count := (s.order o).items.length
    if editable (s.order o) = false then refuseState o n s
    else if Config.maxItems ≤ count then refuseSlot n .tableFull s
    else
      settle s (complete n .ok .none (.addItem count (count + 1)) (applyEdit o (fun r => { r with items := r.items ++ [freshItem i] }) s))

/-- ADD_ITEM (R24). -/
def execAddItem (s : State) : Result := event (taking .addItem (withOrder addItemWork)) s

/-- R25. -/
def changeItemWork (o : OrderId) (n : SlotId) (s : State) : State :=
  let c := s.slot n
  match (s.order o).items[reqByte c 24]?, finishOfCode (reqByte c 25) with
  | some i, some finish =>
    if quantityGood (reqByte c 26) = false then refuseSlot n .range s
    else if editable (s.order o) = false ∨ i.state = .unprintable then refuseState o n s
    else
      settle s (complete n .ok .none .zero (applyEdit o (fun r =>
        { r with items := r.items.modify (reqByte c 24) fun x => { x with quantity := reqByte c 26, finish := finish } }) s))
  | _, _ => refuseSlot n .range s

/-- CHANGE_ITEM (R25). -/
def execChangeItem (s : State) : Result := event (taking .changeItem (withOrder changeItemWork)) s

/-- R26. -/
def removeItemWork (o : OrderId) (n : SlotId) (s : State) : State :=
  let position := reqByte (s.slot n) 24
  let count := (s.order o).items.length
  if count ≤ position then refuseSlot n .range s
  else if editable (s.order o) = false then refuseState o n s
  else
    settle s (complete n .ok .none (.itemCount (count - 1))
      (applyEdit o (fun r => { r with items := r.items.eraseIdx position }) s))

/-- REMOVE_ITEM (R26). -/
def execRemoveItem (s : State) : Result := event (taking .removeItem (withOrder removeItemWork)) s

/-- R27: the promotion a code names: an index 0 to 15, or 0xFF for none. -/
def promotionOfCode (v : Nat) : Option (Option Nat) := if v < 16 then some (some v) else if v = 0xFF then some none else none

/-- R27. -/
def setPromoWork (o : OrderId) (n : SlotId) (s : State) : State :=
  match promotionOfCode (reqByte (s.slot n) 24) with
  | none => refuseSlot n .range s
  | some promotion =>
    if editable (s.order o) = false then refuseState o n s
    else settle s (complete n .ok .none .zero (applyEdit o (fun r => { r with promotion := promotion }) s))

/-- SET_PROMO (R27). -/
def execSetPromo (s : State) : Result := event (taking .setPromo (withOrder setPromoWork)) s

/-! ## QUOTE (R28) -/

/-- R28: a DRAFT order is PRICED and placed. -/
def priceOrder (o : OrderId) (prices : FixedPrices) (p : PrinterId) (s : State) : State :=
  placeQuoted o p (s.onOrder o fun r =>
    { r with state := .priced, prices := some prices, draftReason := none, quotedAt := some s.clock,
             hold := .running (s.after s.timers.quoteHold) })

/-- R28. -/
def quoteWork (o : OrderId) (n : SlotId) (s : State) : State :=
  let r := s.order o
  if r.state ≠ .draft then refuseState o n s
  else if r.items = [] then refuseSlot n .range s
  else
    match r.items.findIdx? fun i => i.state == .unprintable with
    | some position => complete n .range .none (.quoteItem position) s
    | none =>
      match quoteComputation s.price.table r.items r.promotion with
      | .noPrice position => complete n .noPrice .none (.quoteItem position) s
      | .tooLarge total => complete n .tooLarge .none (.quoteTooLarge total) s
      | .priced prices =>
        let units := quoteUnits r.items
        match s.choosePrinter units with
        | none => complete n .noMedia .none (.quoteNoMedia units) s
        | some p => complete n .ok .none (.quoted prices p units) (priceOrder o prices p s)

/-- QUOTE (R28). -/
def execQuote (s : State) : Result := event (taking .quote (withOrder quoteWork)) s

/-! ## PAY (R30, R132) -/

/-- R30: another order of the same station is in PAYING. -/
def stationPaying (s : State) (o : OrderId) : Bool :=
  (List.finRange 32).any fun x => x != o && (s.order x).state == .paying && (s.order x).station == (s.order o).station

/-- R30: a total of 0 is paid at once. -/
def payNothing (o : OrderId) (s : State) : State :=
  let t := s.onOrder o fun r => { r with paidAt := some s.clock, lastOutcome := some .ok, uncertain := false }
  match (t.order o).placement with
  | some p => makePaid o p t
  | none => scanStep o (enterHeld o t)

/-- R30, R132: the payment controller accepts a PAY: the order enters PAYING and joins the wait list. -/
def acceptPay (o : OrderId) (n : SlotId) (s : State) : State :=
  let t := stopWatch o (s.onOrder o fun r => { r with state := .paying, hold := .stopped })
  t.onTerminal fun u => { u with waitList := u.waitList ++ [{ slot := n, order := o, station := (s.order o).station }] }

/-- R30, R132. -/
def payWork (o : OrderId) (n : SlotId) (s : State) : State :=
  let r := s.order o
  if r.state ≠ .priced then refuseState o n s
  else if stationPaying s o = true then refuseSlot n .busy s
  else if orderTotal r = 0 then settle s (refuseSlot n .ok (payNothing o s))
  else if s.terminal.state = .absent ∨ s.terminal.state = .offline then refuseSlot n .noTerminal s
  else settle s (acceptPay o n s)

/-- PAY (R30). -/
def execPay (s : State) : Result := event (taking .pay (withOrder payWork)) s

/-! ## CANCEL_ORDER and RETIRE_ORDER -/

/-- R37, R38: CANCEL_ORDER by the order's state; none where it is refused STATE. -/
def cancelOrder (o : OrderId) (s : State) : Option State :=
  match (s.order o).state with
  | .draft | .priced => some (makeCancelled o s)
  | .paid | .printing => some (settlementCheck o (dropCopies o (s.onOrder o fun r => { r with cancelRequested := true })))
  | .held => some (settlementCheck o (dropCopies o s))
  | .free | .paying | .settling | .closed | .cancelled => none

/-- R37. The result carries the order's state after the taking. -/
def cancelOrderWork (o : OrderId) (n : SlotId) (s : State) : State :=
  match cancelOrder o s with
  | none => refuseState o n s
  | some t =>
    let u := settle s t
    complete n .ok .none (.orderState (u.order o).state) u

/-- CANCEL_ORDER (R37). -/
def execCancelOrder (s : State) : Result := event (taking .cancelOrder (withOrder cancelOrderWork)) s

/-- R39. -/
def retireOrderWork (o : OrderId) (n : SlotId) (s : State) : State :=
  let r := s.order o
  if r.state = .closed ∨ r.state = .cancelled then
    complete n .ok .none (.retired r.state r.settleStatus (r.settlement.getD 0) r.captured) (retireOrder o s)
  else refuseState o n s

/-- RETIRE_ORDER (R39). -/
def execRetireOrder (s : State) : Result := event (taking .retireOrder (withOrder retireOrderWork)) s

/-! ## The quote hold -/

/-- QUOTE_HOLD_EXPIRY (R29). -/
def execQuoteHoldExpiry (o : OrderId) (s : State) : Result :=
  event (fun t =>
    match (t.order o).state, (t.order o).hold with
    | .priced, .running _ => settle t (toDraft o .expired t)
    | _, _ => t) s

end Sys2Proof.Machine
end

