-- ==== Sys2Proof/Machine/CardKinds.lean ====
section
/-! DEFINITION. The taking of READ_CARD (R111, R112) and the events of the card port (R104 to R109, R116, R117). -/

namespace Sys2Proof.Machine

/-! ## READ_CARD -/

/-- R111: the host areas of a read that have passed RANGE. -/
structure ReadAreas where
  mode : ReadMode
  addressA : Nat
  apertureA : ApertureId
  addressB : Nat
  apertureB : ApertureId
  chunk : Nat
  deriving DecidableEq, Repr

/-- R111: a chunk size is a multiple of 4 KiB from 4 KiB to 1 MiB. -/
def chunkGood (c : Nat) : Bool := decide (c % 4096 = 0) && decide (4096 ≤ c) && decide (c ≤ 1048576)

/-- R111: two buffers of C bytes overlap. -/
def overlap (a b c : Nat) : Bool := decide (a < b + c) && decide (b < a + c)

/-- R111: a SINGLE read's area. -/
def singleArea (s : State) (c : Slot) (count : Nat) : Option ReadAreas :=
  let address := reqField c 32 8
  let length := reqField c 40 4
  if length < count * blockBytes then none
  else (s.findAperture .write address length).map fun a =>
    { mode := .single, addressA := address, apertureA := a, addressB := 0, apertureB := 0, chunk := 0 }

/-- R111: an ALTERNATE read's buffers, each checked on its own (R151). -/
def alternateAreas (s : State) (c : Slot) : Option ReadAreas :=
  let size := reqField c 28 4
  let a := reqField c 32 8
  let b := reqField c 48 8
  if chunkGood size = false ∨ overlap a b size = true then none
  else
    match s.findAperture .write a size, s.findAperture .write b size with
    | some x, some y => some { mode := .alternate, addressA := a, apertureA := x, addressB := b, apertureB := y, chunk := size }
    | _, _ => none

/-- R111: the RANGE check. -/
def readAreasOf (s : State) (i : StationId) (c : Slot) : Option ReadAreas :=
  let count := reqField c 24 2
  if reqByte c 16 ≠ i.val ∨ count = 0 then none
  else if reqByte c 17 = 0 then singleArea s c count
  else if reqByte c 17 = 1 then alternateAreas s c
  else none

/-- R111: the reason of a STATE refusal. -/
def readState (s : State) (i : StationId) : Option Reason :=
  if (s.station i).session = none then some .noSession
  else
    match (s.bay i).state with
    | .empty | .settling => some .noCard
    | .identifying => some .identifying
    | .faulted => some .bayFaulted
    | .ready | .reading => none

/-- R111, R112: an accepted read, its areas live and its result carrying generation and serial from the start. -/
def newRead (n : SlotId) (s : State) (i : StationId) (a : ReadAreas) (c : Slot) : Read :=
  { slot := n, mode := a.mode, generation := (s.bay i).generation, serial := ((s.bay i).card.map (·.serial)).getD 0,
    first := reqField c 20 4, count := reqField c 24 2, addressA := a.addressA, apertureA := a.apertureA, liveA := true,
    addressB := a.addressB, apertureB := a.apertureB, liveB := a.mode == .alternate, chunk := a.chunk, accepted := 0, delivered := 0,
    filled := 0, givenBack := 0, waited := 0, failures := 0, mark := none, ended := none, failing := none, faultedAperture := none }

/-- R112: an accepted read joins the bay's queue, and becomes active at once if no read is active. -/
def acceptRead (i : StationId) (r : Read) (s : State) : State :=
  let t := writeBody r.slot (.read (unstartedResult r)) (s.onBay i fun y => { y with waiting := y.waiting ++ [r] })
  if (t.bay i).active = none then activateNext i t else t

/-- R111, after the third check. -/
def readCardWork (i : StationId) (n : SlotId) (s : State) : State :=
  let c := s.slot n
  match readAreasOf s i c with
  | none => refuseSlot n .range s
  | some a =>
    match readState s i with
    | some why => complete n .state why .zero s
    | none =>
      if BitVec.ofNat 16 (reqField c 18 2) ≠ (s.bay i).generation then refuseSlot n .staleCard s
      else if ((s.bay i).card.map (·.capacity)).getD 0 < reqField c 20 4 + reqField c 24 2 then refuseSlot n .range s
      else if Config.maxWaitingReads ≤ (s.bay i).waiting.length then refuseSlot n .busy s
      else acceptRead i (newRead n s i a c) s

/-- R111, R170: the third check of a READ_CARD: its station and its bay. -/
def readCardTaken (n : SlotId) (s : State) : State :=
  if 3 < reqByte (s.slot n) 16 then refuseSlot n .noSuch s else withStation readCardWork n s

/-- READ_CARD (R111). -/
def execReadCard (s : State) : Result := event (taking .readCard readCardTaken) s

/-! ## Contact -/

/-- R104: the contact of a bay closes; outside RUN only the pin moves (R182). -/
def closeContact (b : BayId) (s : State) : State := if (s.bay b).state = .empty then startSettling b s else s

/-- CONTACT_CLOSE (R104). -/
def execContactClose (b : BayId) (s : State) : Result :=
  event (closeContact b) { s with contactPins := upd s.contactPins b fun _ => true }

/-- R104, R105: the contact of a bay opens. -/
def openContact (b : BayId) (s : State) : State :=
  match (s.bay b).state with
  | .empty => s
  | .settling => s.onBay b fun y => { y with contact := false, state := .empty, settle := .stopped }
  | .identifying | .ready | .reading | .faulted => settle s (removeCard b s)

/-- CONTACT_OPEN (R105). -/
def execContactOpen (b : BayId) (s : State) : Result :=
  event (openContact b) { s with contactPins := upd s.contactPins b fun _ => false }

/-- R104: an arrival is accepted. -/
def acceptArrival (b : BayId) (s : State) : State :=
  let t := s.onBay b fun y =>
    { y with generation := y.generation + 1, state := .identifying, settle := .stopped, identifySends := 0,
             counts := { y.counts with cardsAccepted := bump y.counts.cardsAccepted } }
  cardArrival b (sendIdentify b t)

/-- SETTLE_TIMER_EXPIRY (R104). -/
def execSettleTimerExpiry (b : BayId) (s : State) : Result :=
  event (fun t => if (t.bay b).state = .settling ∧ (t.bay b).settle.isRunning = true then acceptArrival b t else t) s

/-! ## Identification (R107) -/

/-- R107: an answer within the limit: a good one ends identification, another fails. -/
def identityAnswer (b : BayId) (capacity serial : W32) (check : W16) (s : State) : State :=
  if check = identityCheck capacity serial ∧ capacity ≠ 0 then
    let t := s.onBay b fun y =>
      { y with card := some { capacity := capacity.toNat, serial := serial, identifiedAt := s.clock }, state := .ready, identify := .stopped }
    if (t.bay b).active = none then activateNext b t else t
  else identifyFailed b s

/-- IDENTIFY_ANSWER (R107). An answer after the limit or after a removal is discarded. While the limit of the second IDENTIFY runs, any answer
is taken as the answer to the second, also a late one to the first. DESIGN CHOICE, unsafe: log entry 39. -/
def execIdentifyAnswer (b : BayId) (capacity serial : W32) (check : W16) (s : State) : Result :=
  event (fun t =>
    if (t.bay b).state = .identifying ∧ (t.bay b).identify.isRunning = true then identityAnswer b capacity serial check t else t) s

/-- IDENTIFY_LIMIT_EXPIRY (R107). -/
def execIdentifyLimitExpiry (b : BayId) (s : State) : Result :=
  event (fun t =>
    if (t.bay b).state = .identifying ∧ (t.bay b).identify.isRunning = true then identifyFailed b t else t) s

/-! ## Blocks (R108, R109) -/

/-- R108: a block is good if its 512 bytes match their check. -/
def goodBlock (data : List Byte) (check : W16) : Option (List Byte) :=
  if data.length = blockBytes ∧ crc16 data = check then some data else none

/-- R108, R109: a block ends at a bay whose run is RUNNING; elsewhere it is discarded. At a RUNNING run it is taken as a block of that run, also
where the HALT of the run before and the READ_RUN of this one went out in one event. DESIGN CHOICE, unsafe: log entry 35. -/
def endBlock (b : BayId) (good : Option (List Byte)) (s : State) : State :=
  match (s.bay b).active with
  | some r => if (s.bay b).run = .running ∧ r.ended = none then settle s (blockEnd b r good s) else s
  | none => s

/-- BLOCK_ARRIVAL (R108). -/
def execBlockArrival (b : BayId) (data : List Byte) (check : W16) (s : State) : Result := event (endBlock b (goodBlock data check)) s

/-- BLOCK_LIMIT_EXPIRY (R109): a block that does not finish arriving within its limit is a block failure. -/
def execBlockLimitExpiry (b : BayId) (s : State) : Result :=
  event (fun t => if (t.bay b).block.isRunning then endBlock b none t else t) s

/-! ## Waits (R116, R117) -/

/-- R116: a wait has lasted 2 s: a run that is RUNNING or CLOCK_STOPPED is HALTED. The HALT is the boundary of a marked read (R119). DEDUCED,
unsafe: log entry 25. -/
def waitTooLong (b : BayId) (s : State) : State :=
  let t := s.onBay b fun y =>
    { y with waitLimit := false, waitLength := Config.giveBackWaitMs,
             active := y.active.map fun r => { r with waited := min Config.stallMs (r.waited + (Config.giveBackWaitMs - y.waitLength)) } }
  if (t.bay b).run = .running ∨ (t.bay b).run = .clockStopped then
    let u := (t.onBay b fun y => { y with run := .halted, block := .stopped }).emit (.halt b)
    match (u.bay b).active with
    | some r => match r.mark with
      | some cause => windDown b cause u
      | none => u
    | none => u
  else t

/-- GIVE_BACK_WAIT_EXPIRY (R116). -/
def execGiveBackWaitExpiry (b : BayId) (s : State) : Result :=
  event (fun t => if (t.bay b).giveBackWait = true ∧ (t.bay b).waitLimit = true then settle t (waitTooLong b t) else t) s

/-- R117: the waited time has reached 30 s within a wait: the read ends STALLED. -/
def stallRead (b : BayId) (s : State) : State :=
  let t := s.onBay b fun y =>
    { y with active := y.active.map fun r => { r with waited := Config.stallMs }, latched := { y.latched with stalled := true } }
  endAtOnce b .stalled t

/-- R117: whether the stall limit can reach the bay: its active read waits and no other end has reached it; a marked read goes on to its
boundary. DEDUCED, unsafe: log entry 25. -/
def canStall (y : Bay) : Bool := y.giveBackWait && (match y.active with | some r => r.mark.isNone && r.ended.isNone | none => false)

/-- STALL_LIMIT_EXPIRY (R117). -/
def execStallLimitExpiry (b : BayId) (s : State) : Result :=
  event (fun t => if canStall (t.bay b) then settle t (stallRead b t) else t) s

end Sys2Proof.Machine
end

