-- ==== Sys2Proof/Machine/ServiceKinds.lean ====
section
/-! DEFINITION. The takings of the service kinds (R46, R99, R100, R123, R146, R147, R153, R178, R179), the fault grace expiry (R64) and the
ends of transfers on the master port (R155). -/

namespace Sys2Proof.Machine

/-! ## LOAD_PRICES (R46) -/

/-- R46: the price image's length. -/
def imageBytes : Nat := 256

/-- R46: an accepted load asks for one transfer of 256 bytes. -/
def acceptLoad (n : SlotId) (tag : W32) (address : Nat) (a : ApertureId) (s : State) : State :=
  (s.onPrice fun u =>
    { u with load := some { slot := n, tag := tag, address := address, aperture := a, fetching := false, cancelled := false, areaDead := false } }).present
    { requester := .load, direction := .read, address := address, length := imageBytes, aperture := a, purpose := .image, data := [] }

/-- R46. -/
def loadPricesWork (n : SlotId) (s : State) : State :=
  let c := s.slot n
  let address := reqField c 24 8
  if reqField c 32 4 ≠ imageBytes then refuseSlot n .range s
  else
    match s.findAperture .read address imageBytes with
    | none => refuseSlot n .range s
    | some a =>
      if s.price.load.isSome = true then refuseSlot n .busy s
      else settle s (acceptLoad n (BitVec.ofNat 32 (reqField c 16 4)) address a s)

/-- LOAD_PRICES (R46). -/
def execLoadPrices (s : State) : Result := event (taking .loadPrices loadPricesWork) s

/-! ## SET_APERTURE (R153, R154) -/

/-- R154: the picture of an entry. -/
def picture (s : State) (a : ApertureId) : AperturePicture := { entry := s.aperture a, useCount := s.useCount a }

/-- R154: the result of every SET_APERTURE that passes the third check. -/
def apertureBody (a : ApertureId) (before after : State) : Body :=
  .apertures (picture before a) (picture after a) (Vector.ofFn fun x : Fin 8 => picture after x)

/-- R153: the RANGE check. -/
def apertureRangeGood (access : Option Access) (base limit : Nat) : Bool :=
  match access with
  | none => false
  | some x =>
    decide (base % 4096 = 0) && decide (limit % 4096 = 0) && decide (limit ≤ Config.maxLimit) && decide (base + limit ≤ Config.hostMemoryEnd)
      && (if x = .none then decide (limit = 0) else decide (limit ≠ 0))

/-- R153: the reason of a STATE refusal. With a live area and a transfer in progress both, the reason is IN_USE, which R153 lists first, while
R160 says TRANSFER_ACTIVE. DESIGN CHOICE, unsafe: log entry 34. -/
def apertureState (s : State) (a : ApertureId) : Option Reason :=
  if 0 < s.useCount a then some .inUse
  else if s.port.granted.any (fun g => inProgress g && g.transfer.aperture == a) then some .transferActive
  else none

/-- R153: an entry rewritten. -/
def rewriteAperture (a : ApertureId) (access : Access) (base limit : Nat) (s : State) : State :=
  s.onAperture a fun _ =>
    { base := base, limit := limit, access := access, state := if access = .none then .disabled else .active, fault := none }

/-- R153, after the third check. -/
def apertureChecked (a : ApertureId) (n : SlotId) (s : State) : State :=
  let c := s.slot n
  let access := accessOfCode (reqByte c 17)
  let base := reqField c 24 8
  let limit := reqField c 32 8
  if apertureRangeGood access base limit = false then complete n .range .none (apertureBody a s s) s
  else
    match apertureState s a with
    | some why => complete n .state why (apertureBody a s s) s
    | none =>
      let t := rewriteAperture a (access.getD .none) base limit s
      complete n .ok .none (apertureBody a s t) t

/-- R153. -/
def setApertureWork (n : SlotId) (s : State) : State :=
  if h : reqByte (s.slot n) 16 < 8 then apertureChecked ⟨reqByte (s.slot n) 16, h⟩ n s else refuseSlot n .noSuch s

/-- SET_APERTURE (R153). -/
def execSetAperture (s : State) : Result := event (taking .setAperture setApertureWork) s

/-! ## SET_TIMERS (R178) -/

/-- R178: a value brought into its range. -/
def clamp (low high v : Nat) : Nat := if v < low then low else if high < v then high else v

/-- R178: a setting after the taking. -/
def newSetting (change : Bool) (low high old v : Nat) : Nat := if change then clamp low high v else old

/-- R178: a written value lay outside its range. -/
def wasClamped (change : Bool) (low high v : Nat) : Bool := change && (decide (v < low) || decide (high < v))

def changes (c : Slot) (i : Nat) : Bool := (reqByte c 16).testBit i

/-- R178: the settings in force after the taking. -/
def settingsAfter (old : TimerSettings) (c : Slot) : TimerSettings :=
  { idle := newSetting (changes c 0) Config.idleMin Config.idleMax old.idle (reqField c 20 4),
    quoteHold := newSetting (changes c 1) Config.holdMin Config.holdMax old.quoteHold (reqField c 24 4),
    authorization := newSetting (changes c 2) Config.authMin Config.authMax old.authorization (reqField c 28 4),
    grace := newSetting (changes c 3) Config.graceMin Config.graceMax old.grace (reqField c 32 4) }

/-- R178. -/
def setTimersWork (n : SlotId) (s : State) : State :=
  let c := s.slot n
  let t := settingsAfter s.timers c
  complete n .ok .none
    (.timers t (wasClamped (changes c 0) Config.idleMin Config.idleMax (reqField c 20 4))
      (wasClamped (changes c 1) Config.holdMin Config.holdMax (reqField c 24 4))
      (wasClamped (changes c 2) Config.authMin Config.authMax (reqField c 28 4))
      (wasClamped (changes c 3) Config.graceMin Config.graceMax (reqField c 32 4))) { s with timers := t }

/-- SET_TIMERS (R178). -/
def execSetTimers (s : State) : Result := event (taking .setTimers setTimersWork) s

/-! ## SHIFT_CLOSE (R146) -/

/-- R146: the till is copied into the result and zeroed. -/
def shiftCloseWork (n : SlotId) (s : State) : State :=
  complete n .ok .none (.shift s.clock s.terminal.till) (s.onTill fun _ => Till.zero s.clock)

/-- SHIFT_CLOSE (R146). -/
def execShiftClose (s : State) : Result := event (taking .shiftClose shiftCloseWork) s

/-! ## RESET_UNIT (R100, R123, R147, R179) -/

/-- R123: the reads a bay's reset ends: those not already winding down. -/
def liveReads (y : Bay) : Nat :=
  y.waiting.length + (match y.active with | some r => if r.ended.isSome then 0 else 1 | none => 0)

/-- R123: a bay's card port restarts. A change of state into EMPTY sets the change bit (R103), though a closed contact leads out of it again.
A read that winds down already keeps its cause and its FULL halves, which are still written. DESIGN CHOICE, unsafe: log entry 38. -/
def resetBay (b : BayId) (s : State) : State :=
  let t := endAtOnce b .unitDown (endWaitingReads b .unitDown s)
  let t := t.onBay b fun y =>
    { y with state := .empty, card := none, run := .idle, settle := .stopped, identify := .stopped, identifySends := 0, block := .stopped,
             giveBackWait := false, waitLength := 0, waitLimit := false }
  let t := if (s.bay b).state = .empty then t else t.markUnit (bayUnit b)
  evalLamps b (if (t.bay b).contact then startSettling b t else t)

/-- R100, step 2: what the reset clears at the port. -/
def restartPort (clock : W32) (q : Printer) : Printer :=
  { q with watch := none, servicePending := false, statusInService := false, lastReport := none, overheatLock := false, linkHeard := false,
           linkChangedAt := if q.linkHeard then some clock else q.linkChangedAt, head := none, packFirst := true,
           live := { reported := Conditions.absent, linkSilent := false } }

/-- R100: a printer's link restarts. -/
def resetPrinter (p : PrinterId) (s : State) : State :=
  let t := s.onPrinter p fun q => { q with servicePending := false }
  let t := endCopyFull p .aborted (abortCopy p .aborted t)
  setPrinterState p .absent (t.onPrinter p (restartPort s.clock))

/-- R147: the reference of the authorization that a terminal reset ends TERMINAL_LOST, or 0. -/
def lostReference (s : State) : W16 :=
  match s.terminal.holder with
  | some h => if h.kind = .authorization ∧ h.slot.isSome = true then h.reference else 0
  | none => 0

/-- R147: the terminal port restarts. -/
def resetTerminal (s : State) : State := (linkLoss .absent s).onTerminal fun t => { t with linkSilentLive := false }

/-- R179. -/
def resetUnitWork (n : SlotId) (s : State) : State :=
  let c := s.slot n
  let number := reqByte c 17
  if reqByte c 16 = 1 then
    if h : number < 4 then
      let b : BayId := ⟨number, h⟩
      settle s (complete n .ok .none (.resetBay (s.bay b).generation (liveReads (s.bay b))) (resetBay b s))
    else refuseSlot n .noSuch s
  else if reqByte c 16 = 2 then
    if h : number < 2 then
      let p : PrinterId := ⟨number, h⟩
      let t := resetPrinter p s
      settle s (complete n .ok .none (.resetPrinter (t.printer p).state (((s.printer p).copy.map (·.id)).getD 0)) t)
    else refuseSlot n .noSuch s
  else if reqByte c 16 = 3 then
    settle s (complete n .ok .none (.resetTerminal s.terminal.state (lostReference s)) (resetTerminal s))
  else refuseSlot n .range s

/-- RESET_UNIT (R179). -/
def execResetUnit (s : State) : Result := event (taking .resetUnit resetUnitWork) s

/-! ## PRINTER_SERVICE (R99) -/

/-- R99: the link is healthy. -/
def linkHealthy (q : Printer) : Bool := !q.live.linkSilent && q.statusInService

/-- R79: the printer state a STATUS frame reports. -/
def reportState : Report → PrinterState
  | .ready => .ready | .printing => .printing | .paused => .paused | .faulted => .faulted

/-- R99: the state a printer takes when it leaves SERVICE. -/
def stateAfterService (q : Printer) : PrinterState :=
  if q.overheatLock then .faulted
  else match q.lastReport with
    | some r => reportState r
    | none => .faulted

/-- R99: the result of a PRINTER_SERVICE that completes OK; a refusal carries none (R184). -/
def serviceBody (p : PrinterId) (s : State) : Body := .service (s.printer p).state (s.printer p).servicePending

/-- R99: ENTER. -/
def enterWork (p : PrinterId) (n : SlotId) (s : State) : State :=
  let q := s.printer p
  if q.state = .service then complete n .state .already .zero s
  else
    let t := if q.servicePending = true then s
      else if q.copy.isSome = true then s.onPrinter p fun q => { q with servicePending := true }
      else enterService p s
    settle s (complete n .ok .none (serviceBody p t) t)

/-- R99: LEAVE. -/
def leaveWork (p : PrinterId) (n : SlotId) (s : State) : State :=
  let q := s.printer p
  if q.servicePending then
    let t := s.onPrinter p fun q => { q with servicePending := false }
    settle s (complete n .ok .none (serviceBody p t) t)
  else if q.state = .service then
    if linkHealthy q then
      let t := setPrinterState p (stateAfterService q) s
      settle s (complete n .ok .none (serviceBody p t) t)
    else complete n .state .notHealthy .zero s
  else complete n .state .notInService .zero s

/-- R99. -/
def printerServiceWork (n : SlotId) (s : State) : State :=
  let c := s.slot n
  if h : reqByte c 16 < 2 then
    if reqByte c 17 = 0 then enterWork ⟨reqByte c 16, h⟩ n s
    else if reqByte c 17 = 1 then leaveWork ⟨reqByte c 16, h⟩ n s
    else refuseSlot n .range s
  else refuseSlot n .noSuch s

/-- PRINTER_SERVICE (R99). -/
def execPrinterService (s : State) : Result := event (taking .printerService printerServiceWork) s

/-! ## Fault grace and transfers -/

/-- R64: the grace expires. -/
def graceExpires (p : PrinterId) (s : State) : State :=
  s.onEntry p fun e => { e with grace := none, reported := 0, pendingConsumption := 0 }

/-- FAULT_GRACE_EXPIRY (R64). -/
def execFaultGraceExpiry (p : PrinterId) (s : State) : Result :=
  event (fun t => if (t.entry p).grace.isSome then settle t (graceExpires p t) else t) s

/-- R155: the outcome a report of the link gives a transfer; a good report of a READ carries all its bytes. -/
def outcomeOf (t : Transfer) : TransferReport → Option TransferOutcome
  | .good data =>
    match t.direction with
    | .read => if data.length = t.length then some (.done data) else none
    | .write => some (.done [])
  | .unsuccessful => some (.error .unsuccessful)
  | .poisoned => some (.error .poisoned)

/-- R155: the link reports the end of a transfer in progress. -/
def transferReported (index : Nat) (report : TransferReport) (s : State) : State :=
  match s.port.granted[index]? with
  | none => s
  | some g =>
    match outcomeOf g.transfer report with
    | none => s
    | some o => if g.outcome.isSome then s else settle s (endTransfer index o s)

/-- TRANSFER_END (R155). -/
def execTransferEnd (index : Nat) (report : TransferReport) (s : State) : Result := event (transferReported index report) s

/-- R155: a transfer that has not ended within 50 ms of its grant ends in a link error. -/
def transferLate (index : Nat) (s : State) : State :=
  match s.port.granted[index]? with
  | none => s
  | some g => if g.outcome.isSome then s else settle s (endTransfer index (.error .noCompletion) s)

/-- TRANSFER_NO_COMPLETION (R155). -/
def execTransferNoCompletion (index : Nat) (s : State) : Result := event (transferLate index) s

end Sys2Proof.Machine
end

