-- ==== Sys2Proof/Machine/PrinterLink.lean ====
section
/-! DEFINITION. The events of the printer links: STATUS (R92 to R97), NEXT_STRIPE (R85), HOLD and RESUME (R88), COPY_DONE (R90), discarded
frames (R80), the limits and watches (R81, R84, R87, R89) and the end of a STRIPE frame (R86). -/

namespace Sys2Proof.Machine

/-! ## STATUS -/

/-- R92, step 1 of R93: the completion or drop of the copy in flight that a STATUS frame carries. A NEXT_STRIPE discarded as out of sequence
does not count as the printer's answer to the copy. DESIGN CHOICE, unsafe: log entry 17. -/
def statusCompletion (p : PrinterId) (f : StatusFrame) (s : State) : State :=
  match (s.printer p).copy with
  | none => s
  | some c =>
    if f.lastCopy = c.id then endCopy p (resultOfCode f.lastResult) f.consumed.toNat s
    else if f.report = .ready ∧ c.highest.isSome = true then endCopyFull p .aborted s
    else s

/-- R94: a latched copy sets when its live condition appears; at an overheat stop every live condition is latched (R95). -/
def latchConditions (stop : Bool) (old new latched : Conditions) : Conditions :=
  let on := fun (l o n : Bool) => l || (n && (stop || !o))
  { jam := on latched.jam old.jam new.jam, mediaOut := on latched.mediaOut old.mediaOut new.mediaOut,
    overheat := on latched.overheat old.overheat new.overheat, doorOpen := on latched.doorOpen old.doorOpen new.doorOpen,
    headCooling := on latched.headCooling old.headCooling new.headCooling }

/-- R95: the overheat lock after a frame: it sets at OVERHEAT and clears at a COOL head with no live condition. -/
def lockAfter (locked : Bool) (f : StatusFrame) : Bool :=
  f.conditions.overheat || (locked && !(f.head == .cool && f.conditions == Conditions.absent))

/-- R79, R93, step 2: conditions, head class and lock as the frame gives them. `inService` says that the printer was in SERVICE when the
frame arrived (R99). -/
def applyConditions (inService : Bool) (f : StatusFrame) (q : Printer) : Printer :=
  { q with
    head := some f.head, lastReport := some f.report, overheatLock := lockAfter q.overheatLock f,
    statusInService := q.statusInService || inService,
    live := { q.live with reported := f.conditions },
    latched := { q.latched with
      reported := latchConditions f.conditions.overheat q.live.reported f.conditions q.latched.reported,
      overheatStop := q.latched.overheatStop || f.conditions.overheat } }

/-- R79, R95: the state a frame puts the printer in. -/
def stateAfterStatus (q : Printer) (f : StatusFrame) : PrinterState :=
  if q.state = .service then .service else if q.overheatLock then .faulted else reportState f.report

/-- R97: the result of a copy ended by a fault; `locked` says that the overheat lock holds. -/
def faultResult (locked : Bool) (c : Conditions) : CopyResult :=
  if locked then .overheat else if c.jam then .jam else if c.mediaOut then .mediaOut else .aborted

/-- R97: a printer that is FAULTED by the frame ends its copy in flight, ABORT_COPY sent first. -/
def faultCopy (p : PrinterId) (f : StatusFrame) (s : State) : State :=
  if (s.printer p).state = .faulted then endCopyFull p (faultResult (s.printer p).overheatLock f.conditions) (abortCopy p .aborted s) else s

/-- R93, step 2. The copy ends before a pending service entry can follow it (R90, R99). -/
def statusState (inService : Bool) (p : PrinterId) (f : StatusFrame) (s : State) : State :=
  let t := s.onPrinter p (applyConditions inService f)
  faultCopy p f (setPrinterState p (stateAfterStatus (t.printer p) f) t)

/-- R96: the pack serial. -/
def applyPack (serial : W32) (q : Printer) : Printer :=
  if q.packFirst then { q with pack := some serial, packFirst := false }
  else if q.pack = some serial then q
  else { q with pack := some serial, packChanges := bump q.packChanges, latched := { q.latched with packChanged := true } }

/-- R75: the reported stock, at most 4,000; pending consumption becomes 0. -/
def applyStock (v : W16) (e : StockEntry) : StockEntry :=
  { e with reported := min v.toNat Config.maxStock, pendingConsumption := 0 }

/-- R93: a good STATUS frame. -/
def statusArrived (p : PrinterId) (f : StatusFrame) (s : State) : State :=
  let t := statusState ((s.printer p).state == .service) p f (statusCompletion p f (linkHeard p (heard p s)))
  (t.onPrinter p (applyPack f.pack)).onEntry p (applyStock f.stock)

/-- STATUS (R93). -/
def execStatus (p : PrinterId) (f : StatusFrame) (s : State) : Result := settlingEvent (statusArrived p f) s

/-! ## The other frames -/

/-- NEXT_STRIPE (R85). -/
def execNextStripe (p : PrinterId) (n : W16) (s : State) : Result := settlingEvent (goodFrame p (nextStripe p n.toNat)) s

/-- R88: HOLD: set for an unheld copy, else stray. -/
def holdCopy (p : PrinterId) (s : State) : State :=
  match (s.printer p).copy with
  | some c =>
    if c.held then countStray p s
    else s.onCopy p fun c => { c with held := true, requests := c.requests.map fun r => { r with timer := r.timer.pause } }
  | none => countStray p s

/-- HOLD (R88). -/
def execHold (p : PrinterId) (s : State) : Result := event (goodFrame p (holdCopy p)) s

/-- R88: RESUME: cleared for a held copy, else stray. -/
def resumeCopy (p : PrinterId) (s : State) : State :=
  match (s.printer p).copy with
  | some c =>
    if c.held then
      trySend p (s.onCopy p fun c => { c with held := false, requests := c.requests.map fun r => { r with timer := r.timer.resume } })
    else countStray p s
  | none => countStray p s

/-- RESUME (R88). -/
def execResume (p : PrinterId) (s : State) : Result := event (goodFrame p (resumeCopy p)) s

/-- R90: COPY_DONE ends the copy in flight it names, else it is stray. -/
def copyDone (p : PrinterId) (id : W16) (result consumed : Byte) (s : State) : State :=
  match (s.printer p).copy with
  | some c => if c.id = id then endCopy p (resultOfCode result) consumed.toNat s else countStray p s
  | none => countStray p s

/-- COPY_DONE (R90). -/
def execCopyDone (p : PrinterId) (id : W16) (result consumed : Byte) (s : State) : Result :=
  settlingEvent (goodFrame p (copyDone p id result consumed)) s

/-- PRINTER_FRAME_DISCARDED (R80): only the count of discarded frames changes. -/
def execPrinterFrameDiscarded (p : PrinterId) (_raw : List Byte) (s : State) : Result :=
  event (fun t => t.onPrinter p fun q => { q with counts := { q.counts with discarded := bump q.counts.discarded } }) s

/-! ## Watches, limits and timers -/

/-- R81: the link is silent. -/
def linkSilent (p : PrinterId) (s : State) : State :=
  s.onPrinter p fun q =>
    { q with watch := none, linkHeard := false, linkChangedAt := if q.linkHeard then some s.clock else q.linkChangedAt,
             live := { q.live with linkSilent := true }, latched := { q.latched with linkSilent := true } }

/-- R81, R97: the link watch expires: a printer in SERVICE stays there; another becomes OFFLINE and its copy in flight ends. -/
def linkLost (p : PrinterId) (s : State) : State :=
  let t := linkSilent p s
  if (t.printer p).state = .service then t else endCopyFull p .aborted (setPrinterState p .offline t)

/-- PRINTER_LINK_WATCH_EXPIRY (R81). -/
def execPrinterLinkWatchExpiry (p : PrinterId) (s : State) : Result :=
  event (fun t => if (t.printer p).watch.isSome then settle t (linkLost p t) else t) s

/-- R84: the begin-answer limit passes: BEGIN_COPY once more, then ABORT_COPY and an end with nothing consumed. -/
def beginUnanswered (p : PrinterId) (c : Copy) (w : BeginWait) (s : State) : State :=
  if w.sends < 2 then
    (s.onCopy p fun c => { c with beginWait := some { sends := w.sends + 1, deadline := s.after Config.beginAnswerSeconds } }).emit
      (.beginCopy p c.id c.size c.finish)
  else endCopy p .aborted 0 (abortCopy p .aborted s)

/-- BEGIN_ANSWER_LIMIT_EXPIRY (R84). -/
def execBeginAnswerLimitExpiry (p : PrinterId) (s : State) : Result :=
  event (fun t =>
    match (t.printer p).copy with
    | some c => match c.beginWait with
      | some w => settle t (beginUnanswered p c w t)
      | none => t
    | none => t) s

/-- ABORT_ANSWER_LIMIT_EXPIRY (R89): the copy ends with the abort cause and its full units. -/
def execAbortAnswerLimitExpiry (p : PrinterId) (s : State) : Result :=
  event (fun t =>
    match (t.printer p).copy with
    | some c => if c.abortDeadline.isSome then settle t (endCopyFull p .aborted t) else t
    | none => t) s

/-- R87: the underrun timer of a stripe is running. -/
def underrunRunning (s : State) (p : PrinterId) (n : Nat) : Bool :=
  match (s.printer p).copy with
  | some c => c.requests.any fun r => r.stripe == n && r.timer.isRunning
  | none => false

/-- R87: an underrun: counted, latched, and the copy is aborted. -/
def underrun (p : PrinterId) (n : Nat) (s : State) : State :=
  let t := s.onCopy p fun c =>
    { c with requests := onFirst (fun r => r.stripe == n && r.timer.isRunning) (fun r => { r with timer := .stopped }) c.requests }
  abortCopy p .underrun (t.onPrinter p fun q =>
    { q with counts := { q.counts with underruns := bump q.counts.underruns }, latched := { q.latched with underrun := true } })

/-- UNDERRUN_TIMER_EXPIRY (R87). -/
def execUnderrunTimerExpiry (p : PrinterId) (n : Nat) (s : State) : Result :=
  event (fun t => if underrunRunning t p n then settle t (underrun p n t) else t) s

/-- STRIPE_SENT (R86): the last byte of the STRIPE frame in transmission has gone out. -/
def execStripeSent (p : PrinterId) (s : State) : Result := event (frameSent p) s

end Sys2Proof.Machine
end

