-- ==== Sys2Proof/Machine/TerminalLink.lean ====
section
/-! DEFINITION. The events of the terminal link: READY and CARD_WAIT (R129, R134, R137 to R139), the outcomes of an authorization (R135 to
R138), the answers to a capture or a void (R136, R141, R144), discarded frames (R127) and the limits and the watch (R129, R134 to R144). -/

namespace Sys2Proof.Machine

/-! ## READY and CARD_WAIT -/

/-- R129: READY in ABSENT or OFFLINE: the link is heard, the terminal IDLE. -/
def terminalBack (s : State) : State :=
  s.onTerminal fun t =>
    { t with state := .idle, watch := some (s.after Config.terminalWatchSeconds), linkHeard := true,
             linkChangedAt := if t.linkHeard then t.linkChangedAt else some s.clock, linkSilentLive := false }

/-- R137, R138, R139: a READY while an authorization holds the terminal. -/
def readyMeetsHolder (h : Holder) (s : State) : State :=
  match h.kind, h.exchange, h.slot, h.order with
  | .authorization, .opened, some n, some o => if h.cardSeen then endHolding (loseAuthorization h n o s) else s
  | .authorization, .aborting, some n, some o => endHolding (abandonAuthorization h n o s)
  | .authorization, .aborting, _, _ => endHolding (joinVoid h.reference h.amount 0 s)
  | _, _, _, _ => s

/-- R129: READY by the terminal's state. In AUTHORIZING and SETTLING it answers no exchange and is counted stray (DEDUCED, unsafe: log entry
19). -/
def readyArrived (s : State) : State :=
  match s.terminal.state with
  | .absent | .offline => terminalBack s
  | .idle => terminalHeard s
  | .authorizing | .settling =>
    match s.terminal.holder with
    | some h => readyMeetsHolder h (terminalStray (terminalHeard s))
    | none => terminalStray (terminalHeard s)

/-- READY (R129). -/
def execReady (s : State) : Result := settlingEvent readyArrived s

/-- R129: a frame of an exchange: it restarts the watch, and is stray unless it answers the exchange in progress. -/
def exchangeFrame (ref : W16) (answer : Holder → State → Option State) (s : State) : State :=
  let t := terminalHeard s
  match holderOf t ref with
  | some h => (answer h t).getD (terminalStray t)
  | none => terminalStray t

/-- R134: the first CARD_WAIT stops the card-wait limit. -/
def cardWaited (h : Holder) (s : State) : Option State :=
  if h.kind = .authorization then
    some (s.onTerminal fun t => { t with holder := some { h with cardSeen := true, cardWaitLimit := none } })
  else none

/-- CARD_WAIT (R134). -/
def execCardWait (ref : W16) (s : State) : Result := event (exchangeFrame ref cardWaited) s

/-! ## Outcomes of an authorization -/

/-- R135 to R138: an approval, by its amount and by whether a PAY still stands behind the exchange. -/
def approvedAnswer (amount : Nat) (code : List Byte) (h : Holder) (s : State) : Option State :=
  match h.kind, h.slot, h.order with
  | .authorization, some n, some o =>
    if amount = h.amount then
      some (endHolding (countApproval amount (endPay n o .ok (some amount) (some code) none s)))
    else some (startFollowUp h.reference amount (endPay n o .short (some amount) (some code) none s))
  | .authorization, _, _ => some (startFollowUp h.reference amount s)
  | _, _, _ => none

/-- APPROVED (R135). -/
def execApproved (ref : W16) (amount : W32) (code : List Byte) (s : State) : Result :=
  settlingEvent (exchangeFrame ref (approvedAnswer amount.toNat code)) s

/-- R135, R137, R138: an outcome that holds nothing on the card ends the PAY, if one stands behind the exchange. -/
def outcomeAnswer (outcome : Holder → PayOutcome) (reason : Holder → Option Byte) (h : Holder) (s : State) : Option State :=
  match h.kind, h.slot, h.order with
  | .authorization, some n, some o => some (endHolding (endPay n o (outcome h) none none (reason h) s))
  | .authorization, _, _ => some (endHolding s)
  | _, _, _ => none

/-- DECLINED (R135). -/
def execDeclined (ref : W16) (reason : Byte) (s : State) : Result :=
  settlingEvent (exchangeFrame ref (outcomeAnswer (fun _ => .declined) (fun _ => some reason))) s

/-- TIMED_OUT (R135). -/
def execTimedOut (ref : W16) (s : State) : Result :=
  settlingEvent (exchangeFrame ref (outcomeAnswer (fun _ => .timedOut) (fun _ => none))) s

/-- R135, R138: ABORTED ends an open exchange ABORTED and answers an abort with CANCELLED. -/
def abortedOutcome (h : Holder) : PayOutcome := if h.exchange = .opened then .aborted else .cancelled

/-- ABORTED (R135). -/
def execAborted (ref : W16) (s : State) : Result :=
  settlingEvent (exchangeFrame ref (outcomeAnswer abortedOutcome (fun _ => none))) s

/-! ## Answers to a capture or a void -/

/-- R142: the order of this reference has closed UNCOLLECTED. -/
def lateCapture (s : State) (ref : W16) : Bool := s.terminal.uncollectedReferences.contains ref

def countLate (ref : W16) (s : State) : State :=
  if lateCapture s ref then s.onTerminal fun t => { t with counts := { t.counts with lateCaptures := bump t.counts.lateCaptures } } else s

/-- R141: CAPTURED with the amount sent. -/
def capturedAnswer (amount : Nat) (h : Holder) (s : State) : Option State :=
  match h.kind, h.order with
  | .settlement, some o =>
    if 0 < h.amount ∧ amount = h.amount then some (countCapture h.amount (endSettlement o .captured s)) else none
  | _, _ => none

/-- R129, R141, R142: CAPTURED; a stray one may be a late capture. -/
def capturedArrived (ref : W16) (amount : Nat) (s : State) : State :=
  let t := terminalHeard s
  match (holderOf t ref).bind fun h => capturedAnswer amount h t with
  | some u => u
  | none => countLate ref (terminalStray t)

/-- CAPTURED (R141). -/
def execCaptured (ref : W16) (amount : W32) (s : State) : Result := settlingEvent (capturedArrived ref amount.toNat) s

/-- The approved amount of an order. -/
def approvedAmount (s : State) (o : OrderId) : Nat := (s.order o).approved.getD 0

/-- R136, R141, R144: VOIDED answers a settlement void, a follow-up void or a void-list entry. -/
def voidedAnswer (h : Holder) (s : State) : Option State :=
  match h.kind, h.order with
  | .settlement, some o => if h.amount = 0 then some (countVoid (approvedAmount s o) (endSettlement o .voided s)) else none
  | .followUpVoid, _ => some (countVoid h.amount (endHolding s))
  | .listVoid, _ => some (countVoid h.amount (endHolding (leaveVoidList h.reference s)))
  | _, _ => none

/-- VOIDED (R141). -/
def execVoided (ref : W16) (s : State) : Result := settlingEvent (exchangeFrame ref voidedAnswer) s

/-- R185: a REFUSED whose reason is not 1 to 3 is taken as UNKNOWN_REF. -/
def refusedReason (reason : Byte) : Byte := if reason = 1 ∨ reason = 2 ∨ reason = 3 then reason else 2

/-- R135, R136, R138, R141, R144: REFUSED. -/
def refusedAnswer (reason : Byte) (h : Holder) (s : State) : Option State :=
  match h.kind, h.order with
  | .authorization, _ =>
    outcomeAnswer (fun h => if h.exchange = .opened then .declined else .cancelled)
      (fun h => some (if h.exchange = .opened then 0 else reason)) h s
  | .settlement, some o =>
    some (if 0 < h.amount then countUncollected h (endSettlement o .uncollected s) else endSettlement o .voided s)
  | .settlement, none => none
  | .followUpVoid, _ => some (endHolding s)
  | .listVoid, _ => some (if reason = 3 then voidAttemptFailed h s else endHolding (leaveVoidList h.reference s))

/-- REFUSED (R141). -/
def execRefused (ref : W16) (reason : Byte) (s : State) : Result :=
  settlingEvent (exchangeFrame ref (refusedAnswer (refusedReason reason))) s

/-- TERMINAL_FRAME_DISCARDED (R127): only the count of discarded frames changes. -/
def execTerminalFrameDiscarded (_raw : List Byte) (_gap : Bool) (s : State) : Result :=
  event (fun t => t.onTerminal fun u => { u with counts := { u.counts with discarded := bump u.counts.discarded } }) s

/-! ## The watch and the limits -/

/-- R129, R140: the link watch expires. -/
def terminalSilent (s : State) : State :=
  (linkLoss .offline s).onTerminal fun t => { t with linkSilentLive := true, latched := { t.latched with linkSilent := true } }

/-- TERMINAL_LINK_WATCH_EXPIRY (R129). -/
def execTerminalLinkWatchExpiry (s : State) : Result :=
  event (fun t => if t.terminal.watch.isSome then settle t (terminalSilent t) else t) s

/-- R134: the card-wait limit expires. -/
def cardWaitExpires (h : Holder) (s : State) : State :=
  match h.slot, h.order with
  | some n, some o => endHolding (loseAuthorization h n o s)
  | _, _ => s

/-- CARD_WAIT_LIMIT_EXPIRY (R134, R139). -/
def execCardWaitLimitExpiry (s : State) : Result :=
  event (fun t =>
    match t.terminal.holder with
    | some h => if h.cardWaitLimit.isSome then settle t (cardWaitExpires h t) else t
    | none => t) s

/-- R137: the authorization limit expires on an open exchange: ABORT is sent, the PAY ends TIMED_OUT and the exchange belongs to no order. -/
def authorizationTimesOut (h : Holder) (n : SlotId) (o : OrderId) (s : State) : State :=
  let t := endPay n o .timedOut none none none (s.emit (.abort h.reference))
  let passed : Holder :=
    { h with exchange := .aborting, order := none, slot := none, cardWaitLimit := none, authorizationLimit := none,
             abortLimit := some (s.after Config.terminalAbortSeconds) }
  t.onTerminal fun u => { u with holder := some passed }

/-- R137, R138: the authorization limit expires. -/
def authorizationExpires (h : Holder) (s : State) : State :=
  match h.exchange, h.slot, h.order with
  | .opened, some n, some o => authorizationTimesOut h n o s
  | .aborting, some n, some o => endHolding (abandonAuthorization h n o s)
  | _, _, _ => s

/-- AUTHORIZATION_LIMIT_EXPIRY (R137). -/
def execAuthorizationLimitExpiry (s : State) : Result :=
  event (fun t =>
    match t.terminal.holder with
    | some h => if h.authorizationLimit.isSome then settle t (authorizationExpires h t) else t
    | none => t) s

/-- R137, R138: the abort-answer limit expires. -/
def abortUnanswered (h : Holder) (s : State) : State :=
  match h.slot, h.order with
  | some n, some o => endHolding (abandonAuthorization h n o s)
  | _, _ => endHolding (joinVoid h.reference h.amount 0 s)

/-- TERMINAL_ABORT_ANSWER_EXPIRY (R137, R138). -/
def execTerminalAbortAnswerExpiry (s : State) : Result :=
  event (fun t =>
    match t.terminal.holder with
    | some h => if h.abortLimit.isSome then settle t (abortUnanswered h t) else t
    | none => t) s

/-- R142: the answer limit of a settlement expires. -/
def settlementUnanswered (h : Holder) (o : OrderId) (s : State) : State :=
  if h.attempts < 2 then addSettlement o (h.attempts + 1) (endHolding s)
  else if 0 < h.amount then countUncollected h (endSettlement o .uncollected s)
  else
    let amount := approvedAmount s o
    joinVoid h.reference amount 0 (endSettlement o .voided s)

/-- R136, R142, R144: the answer limit expires, by holder. -/
def answerLate (h : Holder) (s : State) : State :=
  match h.kind, h.order with
  | .settlement, some o => settlementUnanswered h o s
  | .followUpVoid, _ => endHolding (joinVoid h.reference h.amount 1 s)
  | .listVoid, _ => voidAttemptFailed h s
  | _, _ => s

/-- ANSWER_LIMIT_EXPIRY (R136, R142, R144). -/
def execAnswerLimitExpiry (s : State) : Result :=
  event (fun t =>
    match t.terminal.holder with
    | some h => if h.answerLimit.isSome then settle t (answerLate h t) else t
    | none => t) s

end Sys2Proof.Machine
end

