-- ==== Sys2Proof/Machine/Resets.lean ====
section
/-! DEFINITION. Power-on and part reset (R149, R180 to R183), the entry to RUN (R182), CLOCK (R162), the PCIe link and its interrupt enable
(R175, R181), and the passing of a millisecond. -/

namespace Sys2Proof.Machine

/-! ## Power-on -/

/-- R180: every block at its power-on values; the contacts and the waiting commands are not the part's. -/
def powerOnState (part : PartState) (s : State) : State :=
  { State.reset with part := part, contactPins := s.contactPins, pending := s.pending }

/-- POWER_ON (R180): RESET_N is low: the part holds its power-on values and drives no link. -/
def execPowerOn (s : State) : Result := .next (powerOnState .held s)

/-- RESET_N_HIGH (R180): the part enters STARTING as a power-on. -/
def execResetNHigh (s : State) : Result := .next (powerOnState .starting s)

/-! ## Part reset -/

/-- R149: the reference of a follow-up void or of an ABORTING exchange, with its amount. -/
def handOverHolder (s : State) : State :=
  match s.terminal.holder with
  | some h => if h.kind = .followUpVoid ∨ h.exchange = .aborting then joinVoid h.reference h.amount 0 (clearHolder s) else clearHolder s
  | none => s

/-- R149: an order that holds a current reference: a PAYING one with its total, another with its approved amount. -/
def handOverOrder (o : OrderId) (s : State) : State :=
  let r := s.order o
  match r.reference with
  | some ref => joinVoid ref (if r.state = .paying then orderTotal r else r.approved.getD 0) 0 s
  | none => s

/-- R149, R183: every authorization that might still hold money on a card joins the void list, in the order of R149. DEDUCED, unsafe: log
entry 16. -/
def handOver (s : State) : State := forEach (List.finRange 32) handOverOrder (handOverHolder s)

/-- R149: the terminal after part reset. That its link reads SILENT, without a CLOCK of the last change, is the model's: log entry 21,
unsafe. -/
def keepTerminal (t : Terminal) : Terminal :=
  { Terminal.reset with nextReference := t.nextReference, voidList := t.voidList, till := t.till, latched := t.latched, counts := t.counts,
                         uncollectedReferences := t.uncollectedReferences }

/-- R51: the price unit after part reset. -/
def keepPrice (u : PriceUnit) : PriceUnit :=
  { table := u.table, load := none, last := none, emptyLatched := !anyOffered u.table, loadFailedLatched := false }

/-- R181: the values every block takes at a part reset, and what is kept. -/
def partResetState (s : State) : State :=
  let t := handOver s.quiet
  { powerOnState .starting s with
    pcieUp := s.pcieUp, msiEnable := s.msiEnable, clock := s.clock, timers := s.timers, orderSerial := s.orderSerial,
    price := keepPrice s.price, terminal := keepTerminal t.terminal, apertures := s.apertures,
    printers := s.printers.map fun q => Printer.resetWith q.nextCopyId, bays := s.bays.map fun y => Bay.resetWith y.generation }

/-- PART_RESET (R181): a PART write with the reset field set, in RUN; the PCIe configuration is kept. -/
def execPartReset (s : State) : Result := .next (if s.part = .run ∧ s.pcieUp = true then partResetState s else s.quiet)

/-- R181: a part reset caused by the link clears the interrupt enable. In STARTING the start begins again. DEDUCED, unsafe: log entry 10. -/
def linkReset (up : Bool) (s : State) : State := { partResetState s with pcieUp := up, msiEnable := false }

/-- LINK_DOWN (R181): a drop of a link that is up. A part held in power-on has no link. -/
def execLinkDown (s : State) : Result := .next (if s.pcieUp = true ∧ s.part ≠ .held then linkReset false s else s.quiet)

/-- HOT_RESET (R181): received on a link that is up. -/
def execHotReset (s : State) : Result := .next (if s.pcieUp = true ∧ s.part ≠ .held then linkReset true s else s.quiet)

/-! ## The entry to RUN -/

/-- R126, R182: each bay reads its contact; a closed one is a contact closing in EMPTY. DEDUCED, unsafe: log entry 9. -/
def readContact (b : BayId) (s : State) : State := if s.pin b then closeContact b s else s

/-- ENTER_RUN (R182): STARTING ends; the bays read their contacts and every lamp is evaluated. -/
def execEnterRun (s : State) : Result :=
  .next (if s.part = .starting then
      let t := { s.quiet with part := .run }
      closeEvent t (evalAllLamps (forEach (List.finRange 4) readContact t))
    else s.quiet)

/-! ## CLOCK and the PCIe link -/

/-- CLOCK_TICK (R162): CLOCK advances by one each second, in STARTING too (R182). -/
def execClockTick (s : State) : Result := .next (if s.part = .held then s.quiet else { s.quiet with clock := s.clock + 1 })

/-- MSI_ENABLE (R175): the host sets the enable in the PCIe configuration. -/
def execMsiEnable (on : Bool) (s : State) : Result :=
  .next (if s.pcieUp = true ∧ s.part ≠ .held then { s.quiet with msiEnable := on } else s.quiet)

/-- PCIE_LINK_UP (R181): the link coming up causes no reset. -/
def execPcieLinkUp (s : State) : Result := .next (if s.part = .held then s.quiet else { s.quiet with pcieUp := true })

/-! ## A millisecond -/

def tickCopy (c : Copy) : Copy := { c with requests := c.requests.map fun r => { r with timer := r.timer.tick } }

def tickPrinter (q : Printer) : Printer := { q with copy := q.copy.map tickCopy }

/-- R117: the waited time of a read that waits. -/
def tickWait (y : Bay) : Bay :=
  if y.giveBackWait then
    { y with waitLength := y.waitLength + 1, active := y.active.map fun r => { r with waited := min Config.stallMs (r.waited + 1) } }
  else y

def tickBay (y : Bay) : Bay := tickWait { y with settle := y.settle.tick, identify := y.identify.tick, block := y.block.tick }

def tickGranted (g : Granted) : Granted := { g with timer := g.timer.tick }

/-- One millisecond in RUN: the timers of milliseconds run. No timer runs in STARTING (R182). DESIGN CHOICE, unsafe: log entry 2. -/
def millisecond (s : State) : State :=
  if s.part = .run then
    { s.quiet with printers := s.printers.map tickPrinter, bays := s.bays.map tickBay,
                   port := { s.port with granted := s.port.granted.map tickGranted } }
  else s.quiet

end Sys2Proof.Machine
end

