-- ==== Sys2Proof/Machine/Dispatch.lean ====
section
/-! DEFINITION. exec: the meaning of each command, one direct call per constructor. -/

namespace Sys2Proof.Machine

def exec (i : Instr) (s : State) : Host.Outcome State Fault Refusal :=
  match i with
  | .powerOn => Sys2Proof.Machine.execPowerOn s
  | .resetNHigh => Sys2Proof.Machine.execResetNHigh s
  | .partReset => Sys2Proof.Machine.execPartReset s
  | .linkDown => Sys2Proof.Machine.execLinkDown s
  | .hotReset => Sys2Proof.Machine.execHotReset s
  | .enterRun => Sys2Proof.Machine.execEnterRun s
  | .clockTick => Sys2Proof.Machine.execClockTick s
  | .slotRequestWrite slot offset data => Sys2Proof.Machine.execSlotRequestWrite slot offset data s
  | .windowWriteDiscarded offset data => Sys2Proof.Machine.execWindowWriteDiscarded offset data s
  | .attn value => Sys2Proof.Machine.execAttn value s
  | .attnEnable value => Sys2Proof.Machine.execAttnEnable value s
  | .unitChanged value => Sys2Proof.Machine.execUnitChanged value s
  | .orderChanged value => Sys2Proof.Machine.execOrderChanged value s
  | .post slot => Sys2Proof.Machine.execPost slot s
  | .cancel slot => Sys2Proof.Machine.execCancel slot s
  | .release slot => Sys2Proof.Machine.execRelease slot s
  | .giveBack slot => Sys2Proof.Machine.execGiveBack slot s
  | .stripWriteRefused slot misuse => Sys2Proof.Machine.execStripWriteRefused slot misuse s
  | .unknownKind => Sys2Proof.Machine.execUnknownKind s
  | .openSession => Sys2Proof.Machine.execOpenSession s
  | .closeSession => Sys2Proof.Machine.execCloseSession s
  | .openOrder => Sys2Proof.Machine.execOpenOrder s
  | .addItem => Sys2Proof.Machine.execAddItem s
  | .changeItem => Sys2Proof.Machine.execChangeItem s
  | .removeItem => Sys2Proof.Machine.execRemoveItem s
  | .setPromo => Sys2Proof.Machine.execSetPromo s
  | .quote => Sys2Proof.Machine.execQuote s
  | .pay => Sys2Proof.Machine.execPay s
  | .cancelOrder => Sys2Proof.Machine.execCancelOrder s
  | .retireOrder => Sys2Proof.Machine.execRetireOrder s
  | .readCard => Sys2Proof.Machine.execReadCard s
  | .loadPrices => Sys2Proof.Machine.execLoadPrices s
  | .setAperture => Sys2Proof.Machine.execSetAperture s
  | .setTimers => Sys2Proof.Machine.execSetTimers s
  | .shiftClose => Sys2Proof.Machine.execShiftClose s
  | .resetUnit => Sys2Proof.Machine.execResetUnit s
  | .printerService => Sys2Proof.Machine.execPrinterService s
  | .idleExpiry session => Sys2Proof.Machine.execIdleExpiry session s
  | .paymentNoticeExpiry station => Sys2Proof.Machine.execPaymentNoticeExpiry station s
  | .minimumOnTimeExpiry station => Sys2Proof.Machine.execMinimumOnTimeExpiry station s
  | .blinkToggle station => Sys2Proof.Machine.execBlinkToggle station s
  | .quoteHoldExpiry order => Sys2Proof.Machine.execQuoteHoldExpiry order s
  | .faultGraceExpiry printer => Sys2Proof.Machine.execFaultGraceExpiry printer s
  | .status printer frame => Sys2Proof.Machine.execStatus printer frame s
  | .nextStripe printer stripe => Sys2Proof.Machine.execNextStripe printer stripe s
  | .hold printer => Sys2Proof.Machine.execHold printer s
  | .resume printer => Sys2Proof.Machine.execResume printer s
  | .copyDone printer copyId result consumed => Sys2Proof.Machine.execCopyDone printer copyId result consumed s
  | .printerFrameDiscarded printer raw => Sys2Proof.Machine.execPrinterFrameDiscarded printer raw s
  | .printerLinkWatchExpiry printer => Sys2Proof.Machine.execPrinterLinkWatchExpiry printer s
  | .beginAnswerLimitExpiry printer => Sys2Proof.Machine.execBeginAnswerLimitExpiry printer s
  | .abortAnswerLimitExpiry printer => Sys2Proof.Machine.execAbortAnswerLimitExpiry printer s
  | .underrunTimerExpiry printer stripe => Sys2Proof.Machine.execUnderrunTimerExpiry printer stripe s
  | .stripeSent printer => Sys2Proof.Machine.execStripeSent printer s
  | .transferEnd index report => Sys2Proof.Machine.execTransferEnd index report s
  | .transferNoCompletion index => Sys2Proof.Machine.execTransferNoCompletion index s
  | .contactClose bay => Sys2Proof.Machine.execContactClose bay s
  | .settleTimerExpiry bay => Sys2Proof.Machine.execSettleTimerExpiry bay s
  | .contactOpen bay => Sys2Proof.Machine.execContactOpen bay s
  | .identifyAnswer bay capacity serial check => Sys2Proof.Machine.execIdentifyAnswer bay capacity serial check s
  | .identifyLimitExpiry bay => Sys2Proof.Machine.execIdentifyLimitExpiry bay s
  | .blockArrival bay data check => Sys2Proof.Machine.execBlockArrival bay data check s
  | .blockLimitExpiry bay => Sys2Proof.Machine.execBlockLimitExpiry bay s
  | .giveBackWaitExpiry bay => Sys2Proof.Machine.execGiveBackWaitExpiry bay s
  | .stallLimitExpiry bay => Sys2Proof.Machine.execStallLimitExpiry bay s
  | .ready => Sys2Proof.Machine.execReady s
  | .cardWait reference => Sys2Proof.Machine.execCardWait reference s
  | .approved reference amount code => Sys2Proof.Machine.execApproved reference amount code s
  | .declined reference reason => Sys2Proof.Machine.execDeclined reference reason s
  | .timedOut reference => Sys2Proof.Machine.execTimedOut reference s
  | .aborted reference => Sys2Proof.Machine.execAborted reference s
  | .captured reference amount => Sys2Proof.Machine.execCaptured reference amount s
  | .voided reference => Sys2Proof.Machine.execVoided reference s
  | .refused reference reason => Sys2Proof.Machine.execRefused reference reason s
  | .terminalFrameDiscarded raw gap => Sys2Proof.Machine.execTerminalFrameDiscarded raw gap s
  | .terminalLinkWatchExpiry => Sys2Proof.Machine.execTerminalLinkWatchExpiry s
  | .cardWaitLimitExpiry => Sys2Proof.Machine.execCardWaitLimitExpiry s
  | .authorizationLimitExpiry => Sys2Proof.Machine.execAuthorizationLimitExpiry s
  | .terminalAbortAnswerExpiry => Sys2Proof.Machine.execTerminalAbortAnswerExpiry s
  | .answerLimitExpiry => Sys2Proof.Machine.execAnswerLimitExpiry s
  | .msiEnable on => Sys2Proof.Machine.execMsiEnable on s
  | .pcieLinkUp => Sys2Proof.Machine.execPcieLinkUp s

end Sys2Proof.Machine
end

