-- ==== Sys2Proof/WellFormed.lean ====
section
/-! DEFINITION. The commands that can reach the part: the operands that its windows, links and pins can carry. -/

namespace Sys2Proof

/-- The operands of a command are ones that can occur. -/
def wellFormed : Instr → Bool
  | .powerOn | .resetNHigh | .partReset | .linkDown | .hotReset | .enterRun | .clockTick => true
  | .slotRequestWrite _ offset data => decide (0 < data.length) && decide (offset + data.length ≤ 512)
  | .windowWriteDiscarded offset data => decide (0 < data.length) && decodeHostWrite offset data == .windowWriteDiscarded offset data
  | .attn _ | .attnEnable _ | .unitChanged _ | .orderChanged _ => true
  | .post _ | .cancel _ | .release _ | .giveBack _ => true
  | .stripWriteRefused _ misuse =>
    match misuse with
    | .narrow | .unaligned => true
    | .unknownCode code => code != 1 && code != 2 && code != 3 && code != 4
  | .unknownKind | .openSession | .closeSession | .openOrder | .addItem | .changeItem | .removeItem | .setPromo | .quote | .pay
  | .cancelOrder | .retireOrder | .readCard | .loadPrices | .setAperture | .setTimers | .shiftClose | .resetUnit | .printerService => true
  | .idleExpiry _ | .paymentNoticeExpiry _ | .minimumOnTimeExpiry _ | .blinkToggle _ | .quoteHoldExpiry _ | .faultGraceExpiry _ => true
  | .status _ _ | .nextStripe _ _ | .hold _ | .resume _ | .copyDone _ _ _ _ => true
  | .printerFrameDiscarded _ raw => (Machine.parsePrinter raw).isNone
  | .printerLinkWatchExpiry _ | .beginAnswerLimitExpiry _ | .abortAnswerLimitExpiry _ => true
  | .underrunTimerExpiry _ stripe => decide (stripe < 300)
  | .stripeSent _ => true
  | .transferEnd _ report =>
    match report with
    | .good data => decide (data.length ≤ 4096)
    | .unsuccessful | .poisoned => true
  | .transferNoCompletion _ => true
  | .contactClose _ | .settleTimerExpiry _ | .contactOpen _ | .identifyAnswer _ _ _ _ | .identifyLimitExpiry _ => true
  | .blockArrival _ data _ => decide (data.length = 512)
  | .blockLimitExpiry _ | .giveBackWaitExpiry _ | .stallLimitExpiry _ => true
  | .ready | .cardWait _ => true
  | .approved _ _ code => decide (code.length = 6)
  | .declined _ _ | .timedOut _ | .aborted _ | .captured _ _ | .voided _ | .refused _ _ => true
  | .terminalFrameDiscarded raw gap => gap || (Machine.parseTerminal raw).isNone
  | .terminalLinkWatchExpiry | .cardWaitLimitExpiry | .authorizationLimitExpiry | .terminalAbortAnswerExpiry | .answerLimitExpiry => true
  | .msiEnable _ | .pcieLinkUp => true

end Sys2Proof
end

