-- ==== Sys2Proof/Safety.lean ====
section
/-! DEFINITION. What counts as a right answer and a safe run, in the terms that claims use: the parts of State that an event leaves alone,
how a command's answer relates to the state its rule gives, the request at the head of the intake list, and the invariants. -/

namespace Sys2Proof.Machine

/-! ## The shell: what only the window, the takings, the service kinds and the resets change -/

/-- A slot without what the owner of a TAKEN slot writes; an owner can only make a TAKEN slot DONE (R171). -/
def Slot.shell (c : Slot) : Slot :=
  { c with state := if c.state = .done then .taken else c.state, progress := 0, status := .ok, reason := .none, completedAt := 0, body := .zero }

/-- An entry without its fault: only SET_APERTURE rewrites range and access (R153). -/
def Aperture.shell (e : Aperture) : Aperture := { e with state := if e.state = .faulted then .active else e.state, fault := none }

/-- State with everything the blocks' own work changes set to its power-on value. -/
def State.shell (s : State) : State :=
  { State.reset with
    part := s.part, pcieUp := s.pcieUp, msiEnable := s.msiEnable, clock := s.clock, timers := s.timers, slots := s.slots.map Slot.shell,
    intake := s.intake, attnMisuse := s.attnMisuse, attnEnable := s.attnEnable, orderSerial := s.orderSerial, contactPins := s.contactPins,
    apertures := s.apertures.map Aperture.shell, pending := s.pending }

/-! ## The steady part: what the settling at the end of an event leaves alone -/

/-- Only the body of a TAKEN slot is written (R135). -/
def Slot.steady (c : Slot) : Slot := if c.state = .taken then { c with body := .zero } else c

/-- A station without its lamps (R17). -/
def Station.steady (t : Station) : Station := { t with ready := .off, blinkOn := false, call := false, minimumOn := none }

/-- An item without what the beginning of a copy changes (R34). -/
def Item.steady (i : Item) : Item := { i with state := .pending, inFlight := 0 }

/-- An order without what placement, printing and the grant of the terminal change (R32, R33, R34, R69, R134). -/
def Order.steady (r : Order) : Order :=
  { r with state := .free, items := r.items.map Item.steady, prices := none, placement := none, hold := .none, draftReason := none,
           reference := none, holdReason := none }

/-- The states in which settling leaves an order alone. -/
def restful (r : Order) : Bool :=
  r.state == .free || r.state == .draft || r.state == .settling || r.state == .closed || r.state == .cancelled

/-- A printer port without queue, copy in flight and stripe buffers (R82, R83). -/
def Printer.steady (q : Printer) : Printer :=
  { q with queue := [], copy := none, bufferA := StripeBuffer.reset, bufferB := StripeBuffer.reset, target := .a, nextCopyId := 0 }

/-- A half whose write is granted is WRITING (R110). -/
def Half.steady (h : Half) : Half := { h with state := .empty }

def Bay.steady (y : Bay) : Bay := { y with half0 := y.half0.steady, half1 := y.half1.steady }

/-- A load whose transfer is granted is FETCHING (R46). -/
def PriceUnit.steady (u : PriceUnit) : PriceUnit := { u with load := u.load.map fun l => { l with fetching := false } }

/-- The terminal without what a grant changes (R130, R131). -/
def Terminal.steady (t : Terminal) : Terminal :=
  { t with state := .absent, holder := none, waitList := [], pendingSettlements := [], nextReference := 0,
           uncollectedReferences := [] }

/-- State with everything that settling may change blanked. -/
def State.steady (s : State) : State :=
  { s with slots := s.slots.map Slot.steady, stations := s.stations.map Station.steady, orders := s.orders.map Order.steady, heldList := [],
           printers := s.printers.map Printer.steady, retryNotes := Vector.replicate 32 none, bays := s.bays.map Bay.steady,
           price := s.price.steady, port := Port.reset, terminal := s.terminal.steady, unitChanged := 0, orderChanged := 0, out := [] }

/-! ## Answers -/

/-- `t` is `u` with change bits added (R173) and perhaps an interrupt message sent at the end (R175). -/
def Marked (u t : State) : Prop :=
  { t with unitChanged := u.unitChanged, orderChanged := u.orderChanged, out := u.out } = u
    ∧ u.unitChanged &&& t.unitChanged = u.unitChanged ∧ u.orderChanged &&& t.orderChanged = u.orderChanged
    ∧ (t.out = u.out ∨ t.out = u.out ++ [.interruptMessage])

/-- The command completes, and the next state is `u` but for change bits and the interrupt message. -/
def EndsAs (r : Result) (u : State) : Prop := ∃ t, r = .next t ∧ Marked u t

/-- `t` is what `u` becomes once the blocks have settled: stock, copies, the terminal, the master port and the lamps may have moved on;
every other part of State, and every order that is FREE, DRAFT, SETTLING or final, is as in `u`. -/
def Settled (u t : State) : Prop :=
  t.steady = u.steady
    ∧ (∀ o, restful (u.order o) = true → t.order o = u.order o)
    ∧ u.unitChanged &&& t.unitChanged = u.unitChanged ∧ u.orderChanged &&& t.orderChanged = u.orderChanged
    ∧ ∃ more, t.out = u.out ++ more

/-- The command completes, and the next state is `u` once the blocks have settled. -/
def SettlesAs (r : Result) (u : State) : Prop := ∃ t, r = .next t ∧ Settled u t

/-! ## The request at the head of the intake list -/

/-- In RUN, slot n heads the intake list with a request of kind k that passes the format and privilege checks (R170). -/
def Heads (s : State) (k : Kind) (n : SlotId) (rest : List SlotId) : Prop :=
  s.part = .run ∧ s.intake = n :: rest ∧ kindCode (s.slot n) = k.code ∧ formatGood k (s.slot n) = true
    ∧ (k.service = true → stationSlot n = false)

/-- The request of slot n names the current order o (R19). -/
def Names (s : State) (n : SlotId) (o : OrderId) : Prop :=
  ∃ h, handleField (s.slot n) = some h ∧ s.isCurrent h = true ∧ h.index = o

/-- R170, R171: what a taking that ends at once leaves besides `s`: the slot out of the intake list and DONE with its result. `s` is the
state after the request's own effect. -/
def answered (n : SlotId) (rest : List SlotId) (st : Status) (why : Reason) (body : Body) (s : State) : State :=
  { (s.onSlot n fun c =>
      { c with state := .done, tagEcho := hostTag c, status := st, reason := why, completedAt := s.clock, body := body }) with
    intake := rest, attnDone := true }

/-- R164, R170: what a taking whose operation goes on leaves besides `s`. -/
def begun (n : SlotId) (rest : List SlotId) (body : Body → Body) (s : State) : State :=
  { (s.onSlot n fun c => { c with state := .taken, tagEcho := hostTag c, body := body c.body }) with intake := rest }

/-- The command completes as `u` followed by what ends every such event: the blocks settle (stock, copies, terminal, master port, lamps), the
records that changed are marked, and the interrupt check runs. What settling may move is said by the statement on Settled. -/
def ThenSettles (r : Result) (before u : State) : Prop := r = .next (closeEvent before (settle before u))

/-- R23: what an edit that has passed its checks does to a PRICED order before it is applied; a DRAFT order stays as it is. -/
def backToDraft (r : Order) : Order :=
  if r.state = .priced then { r with state := .draft, hold := .none, placement := none, prices := none, draftReason := some .edited } else r

/-- R23: an applied edit: the order changed as given and its ORDER_CHANGED bit set. -/
def edited (o : OrderId) (f : Order → Order) (s : State) : State :=
  { (s.onOrder o fun r => f (backToDraft r)) with orderChanged := s.orderChanged ||| BitVec.twoPow 32 o.val }

/-- R175, second case: after a host write to ATTN, ATTN_ENABLE, UNIT_CHANGED or ORDER_CHANGED a message is sent if an enabled flag is set. -/
def messaged (u : State) : State :=
  { u with out := if (attnFlags u &&& u.attnEnable) ≠ 0 ∧ u.msiEnable = true then u.out ++ [.interruptMessage] else u.out }

/-- The command that takes a request of a kind. -/
def Kind.command : Kind → Instr
  | .openSession => .openSession | .closeSession => .closeSession | .openOrder => .openOrder | .addItem => .addItem
  | .changeItem => .changeItem | .removeItem => .removeItem | .setPromo => .setPromo | .quote => .quote | .pay => .pay
  | .cancelOrder => .cancelOrder | .retireOrder => .retireOrder | .readCard => .readCard | .loadPrices => .loadPrices
  | .setAperture => .setAperture | .setTimers => .setTimers | .shiftClose => .shiftClose | .resetUnit => .resetUnit
  | .printerService => .printerService

/-- The kinds that name an order by its handle (R19). -/
def Kind.namesOrder : Kind → Bool
  | .addItem | .changeItem | .removeItem | .setPromo | .quote | .pay | .cancelOrder | .retireOrder => true
  | _ => false

/-- R161, R162, R166: the commands that are host writes to the window and reach a block there. -/
def hostWrite : Instr → Bool
  | .slotRequestWrite _ _ _ | .attn _ | .attnEnable _ | .unitChanged _ | .orderChanged _ | .post _ | .cancel _ | .release _ | .giveBack _
  | .stripWriteRefused _ _ => true
  | _ => false

/-- R182: the commands of the blocks, which act in RUN only: takings, timers and frames. -/
def blockEvent : Instr → Bool
  | .powerOn | .resetNHigh | .partReset | .linkDown | .hotReset | .enterRun | .clockTick | .windowWriteDiscarded _ _ | .contactClose _
  | .contactOpen _ | .msiEnable _ | .pcieLinkUp => false
  | c => !hostWrite c

/-- R129: a good frame restarts the terminal's link watch. -/
def terminalWatched (s : State) : State :=
  s.onTerminal fun t => { t with watch := some (s.clock + BitVec.ofNat 32 Config.terminalWatchSeconds) }

/-- R129: a good frame that answers nothing: it restarts the watch where that runs, and is counted stray. -/
def strayFrame (s : State) : State :=
  (match s.terminal.state with
    | .absent | .offline => s
    | _ => terminalWatched s).onTerminal fun t => { t with counts := { t.counts with stray := bump t.counts.stray } }

/-- R81: a good frame restarts a printer's link watch. -/
def printerWatched (p : PrinterId) (s : State) : State :=
  s.onPrinter p fun q => { q with watch := some (s.clock + BitVec.ofNat 32 Config.printerWatchSeconds) }

/-- R81: what a good frame that is no STATUS frame does on a live link before its own effect: the link watch restarts, and from a printer in
SERVICE the live LINK_SILENT clears. That the link then reads HEARD is log entry 18's. -/
def frameHeard (p : PrinterId) (s : State) : State :=
  if (s.printer p).state = .service then
    (printerWatched p s).onPrinter p fun q =>
      { q with linkHeard := true, linkChangedAt := if q.linkHeard = true then q.linkChangedAt else some s.clock,
               live := { q.live with linkSilent := false } }
  else printerWatched p s

/-- No bay has a read of the slot. -/
def noRead (s : State) (n : SlotId) : Prop := ∀ b, (∀ r ∈ (s.bay b).waiting, r.slot ≠ n) ∧ ∀ r, (s.bay b).active = some r → r.slot ≠ n

/-- The payment controller has no PAY of the slot. -/
def noPay (s : State) (n : SlotId) : Prop :=
  (∀ e ∈ s.terminal.waitList, e.slot ≠ n) ∧ ∀ h, s.terminal.holder = some h → h.slot ≠ some n

/-- The price unit has no load of the slot. -/
def noLoad (s : State) (n : SlotId) : Prop := ∀ l, s.price.load = some l → l.slot ≠ n

/-- R161, R184: the number the host reads in `n` bytes of the window from an offset on, the first byte the least significant. -/
def windowField (s : State) (offset n : Nat) : Nat := ofLeBytes ((List.range n).map fun k => windowByte s (offset + k))

/-- R184: the number in `n` bytes of a price table image, the first byte the least significant. -/
def imageField (image : List Byte) (offset n : Nat) : Nat := ofLeBytes ((image.drop offset).take n)

/-! ## Values after a reset -/

/-- R18, R43, R62, R102, R126, R150, R156, R160, R176: what both resets leave in every block. Lamps are off, tables are empty, no work and no
timer is left. -/
def BlocksAtReset (t : State) : Prop :=
  (∀ n, (t.slot n).state = .free ∧ (t.slot n).progress = 0 ∧ (t.slot n).request = [] ∧ (t.slot n).status = .ok ∧ (t.slot n).reason = .none
      ∧ (t.slot n).tagEcho = 0 ∧ (t.slot n).completedAt = 0 ∧ (t.slot n).body = .zero)
    ∧ t.intake = [] ∧ t.attnDone = false ∧ t.attnProgress = false ∧ t.attnMisuse = false ∧ t.attnEnable = 0
    ∧ t.unitChanged = 0 ∧ t.orderChanged = 0
    ∧ (∀ i, (t.station i).session = none ∧ (t.station i).noRoomLive = false ∧ (t.station i).noRoomLatched = false
        ∧ (t.station i).idleClosed = false ∧ (t.station i).notice = none ∧ readyOutput (t.station i) = false ∧ (t.station i).ready = .off
        ∧ (t.station i).call = false ∧ (t.station i).minimumOn = none ∧ (t.station i).last = none ∧ (t.station i).draining = 0)
    ∧ (∀ k, (t.session k).state = .free ∧ (t.session k).station = 0 ∧ (t.session k).orders = [] ∧ (t.session k).openedAt = 0
        ∧ (t.session k).deadline = none)
    ∧ (∀ o, (t.order o).state = .free ∧ (t.order o).items = [] ∧ (t.order o).hold = .none ∧ (t.order o).reference = none ∧ t.note o = none)
    ∧ (∀ p, (t.entry p).reported = 0 ∧ (t.entry p).pendingConsumption = 0 ∧ (t.entry p).grace = none)
    ∧ t.heldList = [] ∧ t.quoteSequence = 0
    ∧ (∀ p, (t.printer p).state = .absent ∧ (t.printer p).watch = none ∧ (t.printer p).linkHeard = false ∧ (t.printer p).queue = []
        ∧ (t.printer p).copy = none ∧ (t.printer p).bufferA.state = .empty ∧ (t.printer p).bufferB.state = .empty ∧ (t.printer p).target = .a
        ∧ (t.printer p).servicePending = false ∧ (t.printer p).overheatLock = false ∧ (t.printer p).head = none ∧ (t.printer p).pack = none
        ∧ (t.printer p).packChanges = 0 ∧ (t.printer p).last = none
        ∧ (t.printer p).live = { reported := Conditions.absent, linkSilent := false }
        ∧ (t.printer p).latched =
            { reported := Conditions.absent, linkSilent := false, underrun := false, packChanged := false, overheatStop := false }
        ∧ (t.printer p).counts = { copiesOk := 0, copiesFailed := 0, underruns := 0, discarded := 0, stray := 0, sequence := 0 })
    ∧ (∀ b, (t.bay b).state = .empty ∧ (t.bay b).card = none ∧ (t.bay b).run = .idle ∧ (t.bay b).active = none ∧ (t.bay b).waiting = []
        ∧ (t.bay b).half0.state = .empty ∧ (t.bay b).half1.state = .empty ∧ (t.bay b).giveBackWait = false ∧ (t.bay b).last = none
        ∧ (t.bay b).latched =
            { identFault := false, giveBackWait := false, readFault := false, removedDuringRead := false, stalled := false }
        ∧ (t.bay b).counts = { cardsAccepted := 0, blockRetries := 0, readsOk := 0, readsOther := 0 })
    ∧ t.price.load = none ∧ t.price.last = none ∧ t.price.loadFailedLatched = false
    ∧ (∀ i, look t.port.lines i = []) ∧ t.port.granted = [] ∧ t.port.lastHigh = none ∧ t.port.lastNormal = none
    ∧ t.terminal.state = .absent ∧ t.terminal.watch = none ∧ t.terminal.holder = none ∧ t.terminal.waitList = []
    ∧ t.terminal.pendingSettlements = [] ∧ t.out = []

/-- R45, R51, R102, R126, R149, R150, R178, R180: what power-on sets besides. -/
def KeptStateAtPowerOn (t : State) : Prop :=
  t.clock = 0 ∧ t.timers = { idle := 180, quoteHold := 300, authorization := 90, grace := 120 } ∧ t.orderSerial = 1
    ∧ (∀ z, (sizeEntry t.price.table z).offered = false) ∧ t.price.table.tag = 0 ∧ t.price.table.installedAt = none
    ∧ t.price.emptyLatched = true
    ∧ (∀ p, (t.printer p).nextCopyId = 1) ∧ (∀ b, (t.bay b).generation = 0)
    ∧ (∀ a, t.aperture a = { base := 0, limit := 0, access := .none, state := .disabled, fault := none })
    ∧ t.terminal.nextReference = 1 ∧ t.terminal.voidList = [] ∧ t.terminal.till = Till.zero 0
    ∧ t.terminal.latched = { linkSilent := false, authLost := false, voidAbandoned := false, uncollected := false }
    ∧ t.terminal.counts = { discarded := 0, stray := 0, lateCaptures := 0 } ∧ t.msiEnable = false

/-- R19, R51, R102, R126, R131, R149, R150, R178, R181: what a part reset keeps of `s`. -/
def KeptAtPartReset (s t : State) : Prop :=
  t.clock = s.clock ∧ t.timers = s.timers ∧ t.orderSerial = s.orderSerial ∧ t.price.table = s.price.table
    ∧ t.price.emptyLatched = !anyOffered s.price.table
    ∧ (∀ p, (t.printer p).nextCopyId = (s.printer p).nextCopyId) ∧ (∀ b, (t.bay b).generation = (s.bay b).generation)
    ∧ (∀ a, t.aperture a = s.aperture a) ∧ t.terminal.nextReference = s.terminal.nextReference
    ∧ t.terminal.till.openedAt = s.terminal.till.openedAt ∧ t.terminal.till.approvals = s.terminal.till.approvals
    ∧ t.terminal.till.captures = s.terminal.till.captures ∧ t.terminal.till.voids = s.terminal.till.voids
    ∧ t.terminal.till.uncollected = s.terminal.till.uncollected ∧ t.terminal.counts = s.terminal.counts
    ∧ t.terminal.latched.linkSilent = s.terminal.latched.linkSilent ∧ t.terminal.latched.authLost = s.terminal.latched.authLost
    ∧ t.terminal.latched.uncollected = s.terminal.latched.uncollected

/-! ## Invariants -/

/-- R169: the intake list holds exactly the POSTED slots, none twice. -/
def IntakeLaw (s : State) : Prop := s.intake.Nodup ∧ ∀ n, n ∈ s.intake ↔ (s.slot n).state = .posted

/-- R163: every request part is in canonical form and lies in bytes 0 to 383. -/
def RequestsCanonical (s : State) : Prop :=
  ∀ n, Mem.wf (s.slot n).request = true ∧ ∀ c ∈ (s.slot n).request, c.1 < requestBytes

/-- R156: at most four transfers are in progress. -/
def PortWithinLimit (s : State) : Prop := busyTransfers s ≤ Config.maxInProgress

/-- R157: a transfer whose outcome is held stands behind an earlier granted one of its requester that is still in progress. -/
def OutcomesInOrder (s : State) : Prop :=
  ∀ (i : Nat) (g : Granted), s.port.granted[i]? = some g → g.outcome.isSome = true →
    ∃ (j : Nat) (f : Granted), j < i ∧ s.port.granted[j]? = some f ∧ f.transfer.requester = g.transfer.requester ∧ f.outcome = none

/-- R130: the terminal is AUTHORIZING or SETTLING exactly while a party holds it. -/
def HoldingLaw (s : State) : Prop :=
  s.terminal.holder.isSome = true ↔ s.terminal.state = .authorizing ∨ s.terminal.state = .settling

/-- The copies in flight of an item of an order, on both printers (R70, R83). -/
def copiesInFlight (s : State) (o : OrderId) (k : Nat) : Nat :=
  ((List.finRange 2).filter fun p => match (s.printer p).copy with | some c => c.order == o && c.item == k | none => false).length

/-- The orders whose payment the terminal has or will take up (R130): the waiting PAYs and an authorization with its PAY. -/
def payParties (s : State) : List OrderId :=
  s.terminal.waitList.map (·.order) ++ (match s.terminal.holder with
    | some h => if h.kind = .authorization then h.order.toList else []
    | none => [])

/-- The orders whose settlement the terminal has or will take up (R130). -/
def settleParties (s : State) : List OrderId :=
  s.terminal.pendingSettlements.map (·.order) ++ (match s.terminal.holder with
    | some h => if h.kind = .settlement then h.order.toList else []
    | none => [])

/-- R34, R36, R57, R59: the law of the amounts of an order record: the counts of each item lie within its quantity, and are 0 before payment;
the prices are fixed from the order's own items with a rate of at most 10,000, and a DRAFT order has none; a settlement amount stands in
SETTLING and CLOSED only and is at most the quoted total; the captured amount is 0 or the settlement amount, and 0 before CLOSED. -/
def AmountsRight (r : Order) : Prop :=
  (∀ i ∈ r.items, i.printed + i.failed + i.inFlight ≤ i.quantity)
    ∧ (r.state = .draft ∨ r.state = .priced ∨ r.state = .paying → ∀ i ∈ r.items, i.printed = 0 ∧ i.failed = 0 ∧ i.inFlight = 0)
    ∧ (r.state = .draft → r.prices = none)
    ∧ (∀ f, r.prices = some f → f.rate ≤ 10000 ∧ ∃ (t : PriceTable) (promotion : Option Nat), f = fixedPrices t r.items promotion)
    ∧ (r.state ≠ .settling → r.state ≠ .closed → r.settlement = none)
    ∧ (∀ amount, r.settlement = some amount → amount ≤ orderTotal r)
    ∧ (r.state ≠ .closed → r.captured = 0) ∧ (r.captured = 0 ∨ r.settlement = some r.captured)

/-- R36, R59: the law of the amounts of every order, with what it rests on: the rates of the table in force (R45), each copy in flight counted
in its item of an order that prints (R34), and the terminal's parties in PAYING or SETTLING, none twice (R130). -/
def MoneyLaw (s : State) : Prop :=
  (∀ o, AmountsRight (s.order o)) ∧ (∀ k : Fin 16, (look s.price.table.promotions k).rate ≤ 10000)
    ∧ (∀ p c, (s.printer p).copy = some c → c.item < (s.order c.order).items.length
        ∧ ((s.order c.order).state = .paid ∨ (s.order c.order).state = .printing ∨ (s.order c.order).state = .held))
    ∧ (∀ o k i, (s.order o).items[k]? = some i → copiesInFlight s o k ≤ i.inFlight)
    ∧ (∀ o ∈ payParties s, (s.order o).state = .paying) ∧ (payParties s).Nodup
    ∧ (∀ o ∈ settleParties s, (s.order o).state = .settling) ∧ (settleParties s).Nodup

/-- R178: every timer setting lies in its range. -/
def SettingsInRange (s : State) : Prop :=
  (Config.idleMin ≤ s.timers.idle ∧ s.timers.idle ≤ Config.idleMax)
    ∧ (Config.holdMin ≤ s.timers.quoteHold ∧ s.timers.quoteHold ≤ Config.holdMax)
    ∧ (Config.authMin ≤ s.timers.authorization ∧ s.timers.authorization ≤ Config.authMax)
    ∧ (Config.graceMin ≤ s.timers.grace ∧ s.timers.grace ≤ Config.graceMax)

end Sys2Proof.Machine
end

