-- ==== Sys2Proof/Certificates/Slice0/Obligations.lean ====
section
/-! DEFINITION. The statements for the provers. Each docstring names the rules of the manual the statement formalises. -/

open Sys2Proof Sys2Proof.Machine

/-! ## The step, the queue and reset -/

/-- A step runs the command at the front of the queue on the state with the rest of the queue. -/
def Obligations.StepRunsFrontCommand : Prop :=
  ∀ (c : Instr) (rest : List Instr) (s : State), s.pending = c :: rest → step s = exec c { s with pending := rest }

/-- R36, R59, R163, R169, R156, R157, R178, R130: the state after reset meets every invariant. -/
def Obligations.ResetMeetsTheInvariants : Prop :=
  IntakeLaw State.reset ∧ RequestsCanonical State.reset ∧ PortWithinLimit State.reset ∧ SettingsInRange State.reset ∧ HoldingLaw State.reset
    ∧ OutcomesInOrder State.reset ∧ MoneyLaw State.reset

/-- The manual names no condition in which the part stops: every command ends in a next state, and takes nothing else from the queue. -/
def Obligations.EveryCommandEndsInANextState : Prop :=
  ∀ (c : Instr) (s : State), ∃ t, exec c s = .next t ∧ t.pending = s.pending

/-- R163, R169: a step keeps the law of the intake list, and the request parts in canonical form, within bytes 0 to 383. -/
def Obligations.IntakeAndRequestPartsAreKept : Prop :=
  (∀ s t : State, IntakeLaw s → step s = .next t → IntakeLaw t)
    ∧ ∀ s t : State, RequestsCanonical s → step s = .next t → RequestsCanonical t

/-- R156, R157, R178: a step keeps the transfers in progress within four, every outcome that is not yet told behind an earlier transfer of the
same requester still in progress, and the timer settings within their ranges. -/
def Obligations.PortAndTimerSettingsStayInBounds : Prop :=
  (∀ s t : State, PortWithinLimit s → step s = .next t → PortWithinLimit t)
    ∧ (∀ s t : State, SettingsInRange s → step s = .next t → SettingsInRange t)
    ∧ ∀ s t : State, OutcomesInOrder s → step s = .next t → OutcomesInOrder t

/-- R130: a step keeps the terminal AUTHORIZING or SETTLING exactly while a party holds it. -/
def Obligations.TerminalHoldingLawIsKept : Prop := ∀ s t : State, HoldingLaw s → step s = .next t → HoldingLaw t

/-- R152, R153: while an aperture has a live area, no command but a power-on changes its range or its access, or makes it DISABLED. -/
def Obligations.ApertureInUseKeepsItsRange : Prop :=
  ∀ (c : Instr) (s t : State) (a : ApertureId), c ≠ .powerOn → c ≠ .resetNHigh → 0 < s.useCount a → exec c s = .next t →
    (t.aperture a).base = (s.aperture a).base ∧ (t.aperture a).limit = (s.aperture a).limit ∧ (t.aperture a).access = (s.aperture a).access
      ∧ ((t.aperture a).state = (s.aperture a).state ∨ (t.aperture a).state = .faulted)

/-! ## Resets, RUN, CLOCK and the PCIe link -/

/-- R18, R43, R45, R51, R62, R102, R126, R149, R150, R156, R176, R178, R180: the two power-on commands. The contacts are pins, not the
part's state, and the waiting commands are not the part's. -/
def Obligations.PowerOnSetsEveryBlock : Prop :=
  ∀ s : State,
    (∃ t, exec .powerOn s = .next t ∧ t.part = .held ∧ BlocksAtReset t ∧ KeptStateAtPowerOn t ∧ t.contactPins = s.contactPins)
      ∧ ∃ t, exec .resetNHigh s = .next t ∧ t.part = .starting ∧ BlocksAtReset t ∧ KeptStateAtPowerOn t ∧ t.contactPins = s.contactPins

/-- R143, R145, R149, R181, R183: each cause of a part reset resets the blocks and keeps what the table of R181 lists; the interrupt enable
is kept by a PART write and cleared by the link. What might still hold money on a card joins the tail of the void list with no attempt
counted: first the reference of a follow-up void or of an ABORTING exchange with its amount, then each order's current reference, a PAYING
one with its total, another with its approved amount. With room for all, entries kept from before keep their places and the till is kept
whole. In any case list, till and latched conditions are what the joinings make of them one after another; with no reference twice, the list
keeps the youngest 16, and each older entry is counted abandoned, with VOID_ABANDONED latched. Which reference goes first follows R149's
steps, where R183 names that of a PAY in progress, and the entry that held the terminal may be dropped like any other: log entry 16. That
HOT_RESET leaves the link up is log entry 10's. All are the model's reading. -/
def Obligations.PartResetKeepsAndHandsOver : Prop :=
  ∀ (c : Instr) (s : State), s.pcieUp = true → s.part ≠ .held → (c = .partReset ∧ s.part = .run) ∨ c = .linkDown ∨ c = .hotReset →
    ∃ t, exec c s = .next t ∧ t.part = .starting ∧ BlocksAtReset t ∧ KeptAtPartReset s t ∧ t.contactPins = s.contactPins
      ∧ (c = .linkDown → t.pcieUp = false) ∧ (c ≠ .linkDown → t.pcieUp = true)
      ∧ (c = .partReset → t.msiEnable = s.msiEnable) ∧ (c ≠ .partReset → t.msiEnable = false)
      ∧ ∀ handed queue : List (W16 × Nat),
        handed = (match s.terminal.holder with
          | some h => if h.kind = .followUpVoid ∨ h.exchange = .aborting then [(h.reference, h.amount)] else []
          | none => []) →
        queue = handed ++ (List.finRange 32).filterMap (fun o => (s.order o).reference.map fun ref =>
          (ref, if (s.order o).state = .paying then orderTotal (s.order o) else (s.order o).approved.getD 0)) →
        (∀ v, v = queue.foldl (fun u x => joinVoid x.1 x.2 0 u) (s.onTerminal fun u => { u with holder := none }) →
          t.terminal.voidList = v.terminal.voidList ∧ t.terminal.till = v.terminal.till ∧ t.terminal.latched = v.terminal.latched)
        ∧ (∀ (all : List VoidEntry) (excess : Nat),
          all = s.terminal.voidList ++ queue.map (fun x => { reference := x.1, amount := x.2, attempts := 0 }) →
          excess = all.length - 16 → s.terminal.voidList.length ≤ 16 → (all.map (·.reference)).Nodup →
          t.terminal.voidList = all.drop excess
            ∧ t.terminal.till = { s.terminal.till with
                abandoned := (all.take excess).foldl (fun u e => u.add e.amount) s.terminal.till.abandoned }
            ∧ t.terminal.latched = { s.terminal.latched with voidAbandoned := s.terminal.latched.voidAbandoned || decide (0 < excess) })
        ∧ (s.terminal.voidList.length + handed.length + ((List.finRange 32).filter fun o => (s.order o).reference.isSome).length ≤ 16 →
        t.terminal.till = s.terminal.till ∧ t.terminal.latched = s.terminal.latched
          ∧ ∃ more, t.terminal.voidList = s.terminal.voidList ++ more
            ∧ (∀ e ∈ more, e.attempts = 0
                ∧ ((∃ x ∈ handed, x = (e.reference, e.amount))
                    ∨ ∃ o, (s.order o).reference = some e.reference
                        ∧ e.amount = (if (s.order o).state = .paying then orderTotal (s.order o) else (s.order o).approved.getD 0)))
            ∧ (∀ x ∈ handed, (∃ e ∈ s.terminal.voidList, e.reference = x.1)
                ∨ more.head? = some { reference := x.1, amount := x.2, attempts := 0 })
            ∧ (∀ o ref, (s.order o).reference = some ref → ∃ e ∈ s.terminal.voidList ++ more, e.reference = ref)
            ∧ ∀ (o p : OrderId) (i j : Nat) (a b : VoidEntry), o < p → (s.order o).reference = some a.reference →
                (s.order p).reference = some b.reference → more[i]? = some a → more[j]? = some b → (∀ x ∈ handed, x.1 ≠ b.reference) →
                (∀ q, (s.order q).reference = some b.reference → q = p) → i < j)

/-- R126, R182: at the entry to RUN each closed contact is a card arriving in EMPTY, the others leave their bay EMPTY; the lamps of a reset
part stay off. -/
def Obligations.EnterRunReadsTheContacts : Prop :=
  ∀ s : State, s.part = .starting → BlocksAtReset s → ∃ t, exec .enterRun s = .next t ∧ t.part = .run
    ∧ (∀ b, s.pin b = true → (t.bay b).state = .settling ∧ (t.bay b).settle = .running 250 ∧ (t.bay b).contact = true)
    ∧ (∀ b, s.pin b = false → t.bay b = s.bay b)
    ∧ (∀ i, (t.station i).ready = .off ∧ (t.station i).call = false)
    ∧ { t with part := .starting, bays := s.bays, unitChanged := 0, orderChanged := 0, stations := s.stations, out := [] } = s

/-- R162, R175, R180, R181, R182: CLOCK is moved only by its tick and by power-on; it advances by one, from its largest value to 0, in RUN and
in STARTING. The host's interrupt enable takes the written value, and the link coming up resets nothing. R87, R104, R107, R108, R117, R155: their timers count milliseconds, and the table has no
command for one: the last two clauses are the model's choice (log entry 2) that in RUN a step on an empty queue lets one pass, which runs
down the timers of the bays, the copies and the granted transfers, lengthens a wait for a GIVE_BACK, and changes nothing else. -/
def Obligations.ClockAndLinkCommands : Prop :=
  (∀ (c : Instr) (s t : State), c ≠ .clockTick → c ≠ .powerOn → c ≠ .resetNHigh → exec c s = .next t → t.clock = s.clock)
    ∧ (∀ s : State, s.part ≠ .held → exec .clockTick s = .next { s.quiet with clock := s.clock + 1 })
    ∧ (∀ (s : State) (on : Bool), s.part ≠ .held →
    (s.pcieUp = true → exec (.msiEnable on) s = .next { s.quiet with msiEnable := on })
      ∧ exec .pcieLinkUp s = .next { s.quiet with pcieUp := true })
    ∧ (∀ n : Nat, (Timer.running n).tick = .running (n - 1) ∧ (Timer.paused n).tick = .paused n ∧ Timer.stopped.tick = .stopped)
    ∧ ∀ s : State, s.pending = [] →
    (s.part = .run → ∃ t, step s = .next t
        ∧ (∀ b, (s.bay b).giveBackWait = false → t.bay b =
            { s.bay b with settle := (s.bay b).settle.tick, identify := (s.bay b).identify.tick, block := (s.bay b).block.tick })
        ∧ (∀ b, (s.bay b).giveBackWait = true → t.bay b =
            { s.bay b with settle := (s.bay b).settle.tick, identify := (s.bay b).identify.tick, block := (s.bay b).block.tick,
                           waitLength := (s.bay b).waitLength + 1,
                           active := (s.bay b).active.map fun r => { r with waited := min 30000 (r.waited + 1) } })
        ∧ (∀ p, t.printer p =
            { s.printer p with copy := (s.printer p).copy.map fun c =>
                { c with requests := c.requests.map fun r => { r with timer := r.timer.tick } } })
        ∧ t.port = { s.port with granted := s.port.granted.map fun g => { g with timer := g.timer.tick } }
        ∧ { t with printers := s.printers, bays := s.bays, port := s.port, out := s.out } = s ∧ t.out = [])
      ∧ (s.part ≠ .run → step s = .next s.quiet)

/-! ## The exchange window -/

/-- R161, R162, R163, R176, R181, R182: a FREE slot's request part takes the bytes written to it, and no other byte changes; in any other
state the write is discarded. A write to any other place of the window changes nothing; nor does any host write while the link is down or
outside RUN, the PART word's reset among them, nor any event of a block outside RUN. That PART_RESET needs a link that is up is the model's
reading (log entry 10). -/
def Obligations.RequestWritesAndDiscards : Prop :=
  (∀ (n : SlotId) (offset : Nat) (data : List Byte) (s : State), s.part = .run → s.pcieUp = true →
    ((s.slot n).state ≠ .free → exec (.slotRequestWrite n offset data) s = .next s.quiet)
      ∧ ((s.slot n).state = .free → ∃ request,
          EndsAs (exec (.slotRequestWrite n offset data) s) (s.quiet.onSlot n fun c => { c with request := request })
            ∧ (Mem.wf (s.slot n).request = true → ∀ a, a < 384 →
                Mem.read request a = if offset ≤ a ∧ a < offset + data.length then data.getD (a - offset) 0 else Mem.read (s.slot n).request a)))
    ∧ (∀ (offset : Nat) (data : List Byte) (s : State), exec (.windowWriteDiscarded offset data) s = .next s.quiet)
    ∧ (∀ (c : Instr) (s : State), hostWrite c = true → s.part ≠ .run ∨ s.pcieUp = false → exec c s = .next s.quiet)
    ∧ (∀ s : State, s.part ≠ .run ∨ s.pcieUp = false → exec .partReset s = .next s.quiet)
    ∧ ∀ (c : Instr) (s : State), blockEvent c = true → s.part ≠ .run → exec c s = .next s.quiet

/-- R14, R51, R94, R124, R148, R162, R172, R174, R175: the four control words that take host writes. ATTN clears the flags written 1,
ATTN_ENABLE takes the written bits, ORDER_CHANGED and UNIT_CHANGED clear the bits written 1, and each unit record so acknowledged loses the
latched conditions whose live condition is absent. Each write is followed by the interrupt check, and nothing else changes. -/
def Obligations.ControlWordsTakeTheirWrites : Prop :=
  (∀ (v : W32) (s : State), s.part = .run → s.pcieUp = true →
    exec (.attn v) s = .next (messaged { s.quiet with attnDone := s.attnDone && !v.getLsbD 0, attnProgress := s.attnProgress && !v.getLsbD 1,
                                                      attnMisuse := s.attnMisuse && !v.getLsbD 4 })
      ∧ exec (.attnEnable v) s = .next (messaged { s.quiet with attnEnable := v.setWidth 5 })
      ∧ exec (.orderChanged v) s = .next (messaged { s.quiet with orderChanged := s.orderChanged &&& ~~~v }))
    ∧ ∀ (v : W32) (s : State), s.part = .run → s.pcieUp = true → ∃ u, exec (.unitChanged v) s = .next (messaged u)
    ∧ u.unitChanged = s.unitChanged &&& ~~~(v.setWidth 12)
    ∧ (∀ i, u.station i = if v.getLsbD i.val then
        { s.station i with noRoomLatched := (s.station i).noRoomLatched && (s.station i).noRoomLive, idleClosed := false } else s.station i)
    ∧ (∀ b, u.bay b = if v.getLsbD (4 + b.val) then
        { s.bay b with latched :=
          { identFault := (s.bay b).latched.identFault && (s.bay b).state == .faulted,
            giveBackWait := (s.bay b).latched.giveBackWait && (s.bay b).giveBackWait, readFault := false, removedDuringRead := false,
            stalled := false } } else s.bay b)
    ∧ (∀ p, u.printer p = if v.getLsbD (8 + p.val) then
        { s.printer p with latched :=
          { reported := ackConditions (s.printer p).latched.reported (s.printer p).live.reported,
            linkSilent := (s.printer p).latched.linkSilent && (s.printer p).live.linkSilent, underrun := false, packChanged := false,
            overheatStop := false } } else s.printer p)
    ∧ u.terminal = (if v.getLsbD 10 then
        { s.terminal with latched :=
          { linkSilent := s.terminal.latched.linkSilent && s.terminal.linkSilentLive, authLost := false, voidAbandoned := false,
            uncollected := false } } else s.terminal)
    ∧ u.price = (if v.getLsbD 11 then
        { s.price with emptyLatched := s.price.emptyLatched && !anyOffered s.price.table, loadFailedLatched := false } else s.price)
    ∧ { u with unitChanged := s.unitChanged, stations := s.stations, bays := s.bays, printers := s.printers, terminal := s.terminal,
               price := s.price } = s.quiet

/-- R164 to R169: the strip by the slot's state. POST puts a FREE slot at the tail of the intake list with a zero result part; RELEASE makes
a DONE slot FREE; CANCEL completes a POSTED slot CANCELLED and changes nothing on a FREE or DONE one; every other strip write, a refused
GIVE_BACK among them, sets ATTN.MISUSE alone. -/
def Obligations.StripWritesActByTheSlotState : Prop :=
  ∀ (n : SlotId) (s : State), s.part = .run → s.pcieUp = true →
    ((s.slot n).state = .free → EndsAs (exec (.post n) s)
        { (s.quiet.onSlot n fun c => { c with state := .posted, progress := 0, status := .ok, reason := .none, tagEcho := 0, completedAt := 0,
                                              body := .zero }) with intake := s.intake ++ [n] })
      ∧ ((s.slot n).state ≠ .free → EndsAs (exec (.post n) s) { s.quiet with attnMisuse := true })
      ∧ ((s.slot n).state = .done → EndsAs (exec (.release n) s) (s.quiet.onSlot n fun c => { c with state := .free, progress := 0 }))
      ∧ ((s.slot n).state ≠ .done → EndsAs (exec (.release n) s) { s.quiet with attnMisuse := true })
      ∧ ((s.slot n).state = .posted →
          EndsAs (exec (.cancel n) s) (answered n (s.intake.filter (· != n)) .cancelled .none .zero s.quiet))
      ∧ ((s.slot n).state = .free ∨ (s.slot n).state = .done → exec (.cancel n) s = .next s.quiet)
      ∧ ((s.slot n).state ≠ .taken ∨ (∀ b r, (s.bay b).active = some r → r.slot = n → r.mode = .alternate → r.filled ≤ r.givenBack) →
          EndsAs (exec (.giveBack n) s) { s.quiet with attnMisuse := true })
      ∧ ∀ why, EndsAs (exec (.stripWriteRefused n why) s) { s.quiet with attnMisuse := true }

/-- R170, R177: the first two checks of every taking. A request of no kind, or with a nonzero reserved byte, completes FORMAT; a service
kind in a station slot completes PRIVILEGE. Nothing else changes. R163, R178, R179, R184: which bytes of a request are reserved: those of
no field of the header and of the kind, the upper mask bits of SET_TIMERS, and the number of a RESET_UNIT of the terminal. That a READ_CARD
of unknown mode, 2 and above, has the fields of both modes not reserved is the model's choice (log entry 24): R184 reserves the fields of
the mode not named. -/
def Obligations.FormatAndPrivilegeComeFirst : Prop :=
  (∀ (s : State) (n : SlotId) (rest : List SlotId), s.part = .run → s.intake = n :: rest →
    ((∀ k : Kind, kindCode (s.slot n) ≠ k.code) → EndsAs (exec .unknownKind s) (answered n rest .format .none .zero s.quiet))
      ∧ ∀ k : Kind, kindCode (s.slot n) = k.code →
          (formatGood k (s.slot n) = false → EndsAs (exec k.command s) (answered n rest .format .none .zero s.quiet))
            ∧ (formatGood k (s.slot n) = true → k.service = true → n.val < 56 →
                EndsAs (exec k.command s) (answered n rest .privilege .none .zero s.quiet)))
    ∧ ∀ (k : Kind) (c : Slot) (fields : List (Nat × Nat)), Mem.wf c.request = true → (∀ x ∈ c.request, x.1 < 384) →
    fields = [(0, 2), (4, 4)] ++ (match k with
      | .openSession | .closeSession | .openOrder => [(2, 1)]
      | .addItem => [(16, 1), (20, 4), (24, 1), (25, 1), (26, 1), (32, 8), (40, 4)]
      | .changeItem => [(16, 1), (20, 4), (24, 1), (25, 1), (26, 1)]
      | .removeItem | .setPromo => [(16, 1), (20, 4), (24, 1)]
      | .quote | .pay | .cancelOrder | .retireOrder => [(16, 1), (20, 4)]
      | .readCard => [(2, 1), (16, 1), (17, 1), (18, 2), (20, 4), (24, 2), (32, 8)]
          ++ (if reqByte c 17 ≠ 1 then [(40, 4)] else []) ++ (if reqByte c 17 ≠ 0 then [(28, 4), (48, 8)] else [])
      | .loadPrices => [(16, 4), (24, 8), (32, 4)]
      | .setAperture => [(16, 1), (17, 1), (24, 8), (32, 8)]
      | .setTimers => [(16, 1), (20, 4), (24, 4), (28, 4), (32, 4)]
      | .shiftClose => []
      | .resetUnit | .printerService => [(16, 1), (17, 1)]) →
    (formatGood k c = true ↔
      (∀ a, a < 384 → (∀ f ∈ fields, a < f.1 ∨ f.1 + f.2 ≤ a) → reqByte c a = 0)
        ∧ (k = .setTimers → reqByte c 16 < 16) ∧ (k = .resetUnit → reqByte c 16 = 3 → reqByte c 17 = 0))

/-- R1, R19, R100, R103, R123, R150, R170: the third check: a station, a bay, a printer, an aperture or an order that does not exist
completes NO_SUCH, and nothing else changes. R11: what a taking does to the idle watch: the deadline of the ACTIVE session of the station
named, or of the session whose list holds the order named, restarts if it runs; a stopped watch stays stopped. -/
def Obligations.ThirdCheckAndIdleWatch : Prop :=
  (∀ (k : Kind) (s : State) (n : SlotId) (rest : List SlotId), Heads s k n rest →
    (k.carriesStation = true → 3 < stationField (s.slot n) → EndsAs (exec k.command s) (answered n rest .noSuch .none .zero s.quiet))
      ∧ (k.namesOrder = true → (∀ h, handleField (s.slot n) = some h → s.isCurrent h = false) →
          EndsAs (exec k.command s) (answered n rest .noSuch .none .zero s.quiet))
      ∧ (k = .readCard → 3 < reqByte (s.slot n) 16 → EndsAs (exec k.command s) (answered n rest .noSuch .none .zero s.quiet))
      ∧ (k = .setAperture → 7 < reqByte (s.slot n) 16 → EndsAs (exec k.command s) (answered n rest .noSuch .none .zero s.quiet))
      ∧ (k = .printerService → 1 < reqByte (s.slot n) 16 → EndsAs (exec k.command s) (answered n rest .noSuch .none .zero s.quiet))
      ∧ (k = .resetUnit → reqByte (s.slot n) 16 = 1 ∧ 3 < reqByte (s.slot n) 17 ∨ reqByte (s.slot n) 16 = 2 ∧ 1 < reqByte (s.slot n) 17 →
          EndsAs (exec k.command s) (answered n rest .noSuch .none .zero s.quiet)))
    ∧ ∀ s : State,
    (∀ i k, (s.station i).session = some k → (s.session k).state = .active → (s.session k).deadline.isSome = true →
        restartForStation i s = s.onSession k fun e => { e with deadline := some (s.clock + BitVec.ofNat 32 s.timers.idle) })
      ∧ (∀ i k, (s.station i).session = some k → (s.session k).state ≠ .active ∨ (s.session k).deadline = none → restartForStation i s = s)
      ∧ (∀ i, (s.station i).session = none → restartForStation i s = s)
      ∧ (∀ o, (s.session (s.order o).session).orders.contains o = true → (s.session (s.order o).session).state = .active →
          (s.session (s.order o).session).deadline.isSome = true →
          restartForOrder o s
            = s.onSession (s.order o).session fun e => { e with deadline := some (s.clock + BitVec.ofNat 32 s.timers.idle) })
      ∧ (∀ o, (s.session (s.order o).session).orders.contains o = false ∨ (s.session (s.order o).session).state ≠ .active
          ∨ (s.session (s.order o).session).deadline = none → restartForOrder o s = s)

/-- R42, R45, R50, R101, R125, R161 to R165, R172, R173, R184: what the host reads: in STARTING the PART word and zeros; in RUN the eight
control words, the strip, each slot's request part and the result fields of every kind, the unit records with their headers, states and
figures, a bay's card and active read and a printer's copy in flight among them, the order board with its items, a FREE record all zero,
and in the price view the image last installed, with its tag and time, or the empty table, all zero. The gaps read zero. That the two fault
records of a SET_APERTURE result have bits 0 and 1 of its presence mask is the model's choice (log entry 34), and bits 3 and 4 for a
printer's copy in flight and its abort cause the model's reading (log entry 29). -/
def Obligations.TheWindowShowsTheRecords : Prop :=
  (∀ s : State, s.part = .starting → windowField s 0 4 = 0x3A716410 ∧ ∀ a, 4 ≤ a → windowByte s a = 0)
    ∧ ∀ s : State, s.part = .run →
    (windowField s 0 4 = 0x3A716411
        ∧ windowField s 4 4 = (if s.attnDone then 1 else 0) + (if s.attnProgress then 2 else 0) + (if s.unitChanged = 0 then 0 else 4)
            + (if s.orderChanged = 0 then 0 else 8) + (if s.attnMisuse then 16 else 0)
        ∧ windowField s 8 4 = s.attnEnable.toNat ∧ (∀ n : SlotId, (windowField s 0x0C 8).testBit n.val = decide ((s.slot n).state = .done))
        ∧ windowField s 0x14 4 = s.unitChanged.toNat ∧ windowField s 0x18 4 = s.orderChanged.toNat ∧ windowField s 0x1C 4 = s.clock.toNat)
      ∧ (∀ (n : SlotId) (c : Slot) (base : Nat), c = s.slot n → base = 0x8000 + 512 * n.val →
        windowField s (0x100 + 4 * n.val) 4 =
            (match c.state with | .free => 0 | .posted => 1 | .taken => 2 | .done => 3) + 256 * c.progress.toNat
              + (if c.state = .done then 65536 * statusCode c.status else 0)
          ∧ (∀ a, a < 384 → windowByte s (base + a) = Mem.read c.request a)
          ∧ windowField s (base + 384) 2 = statusCode c.status ∧ windowField s (base + 386) 1 = reasonCode c.reason
          ∧ windowField s (base + 388) 4 = c.tagEcho.toNat ∧ windowField s (base + 392) 4 = c.completedAt.toNat
          ∧ (c.body = .zero → ∀ a, 396 ≤ a → a < 512 → windowByte s (base + a) = 0)
          ∧ (∀ r, c.body = .pay r → windowField s (base + 396) 4 = (if r.approved.isSome then 1 else 0) + (if r.code.isSome then 2 else 0)
                + (if r.reason.isSome then 4 else 0) + (if r.granted.isSome then 8 else 0)
              ∧ windowField s (base + 400) 2 = r.reference.toNat ∧ windowField s (base + 404) 4 = r.asked % 2 ^ 32
              ∧ windowField s (base + 408) 4 = r.approved.getD 0 % 2 ^ 32
              ∧ windowField s (base + 412) 6 = (r.code.map ofLeBytes).getD 0 % 2 ^ 48
              ∧ windowField s (base + 418) 1 = (r.reason.map (·.toNat)).getD 0 ∧ windowField s (base + 420) 4 = (r.granted.map (·.toNat)).getD 0)
          ∧ (∀ r, c.body = .read r → windowField s (base + 396) 4 = (if r.target.isSome then 1 else 0) + (if r.lastBytes.isSome then 2 else 0)
                + (if r.failing.isSome then 4 else 0) + (if r.waited.isSome then 8 else 0) + (if r.aperture.isSome then 16 else 0)
              ∧ windowField s (base + 400) 2 = r.generation.toNat ∧ windowField s (base + 404) 4 = r.serial.toNat
              ∧ windowField s (base + 408) 2 = r.delivered % 2 ^ 16 ∧ windowField s (base + 410) 2 = r.filled % 2 ^ 16
              ∧ windowField s (base + 412) 2 = r.givenBack % 2 ^ 16 ∧ (r.target ≠ some .b → windowField s (base + 414) 1 = 0)
              ∧ (r.target = some .b → windowField s (base + 414) 1 = 1) ∧ windowField s (base + 416) 4 = r.lastBytes.getD 0 % 2 ^ 32
              ∧ windowField s (base + 420) 4 = r.failing.getD 0 % 2 ^ 32 ∧ windowField s (base + 424) 2 = r.waited.getD 0 % 2 ^ 16
              ∧ windowField s (base + 426) 1 = (r.aperture.map (·.val)).getD 0)
          ∧ ∀ W : Nat → Nat → Nat, (∀ k m, W k m = windowField s (base + k) m) →
            (∀ i opened idle, c.body = .openSession i opened idle →
                W 396 4 = 0 ∧ W 400 1 = i.val ∧ W 404 4 = opened.toNat ∧ W 408 2 = idle % 2 ^ 16)
              ∧ (∀ i st cancelled ended, c.body = .closeSession i st cancelled ended → W 396 4 = 0 ∧ W 400 1 = i.val
                  ∧ W 401 1 = (match st with | .free => 0 | .active => 1 | .draining => 2) ∧ W 402 1 = cancelled % 256 ∧ W 403 1 = ended % 256)
              ∧ (∀ h, c.body = .paymentOpen h → W 396 4 = 1 ∧ W 404 1 = h.index.val ∧ W 408 4 = h.serial.toNat)
              ∧ (∀ h i left, c.body = .openOrder h i left →
                  W 396 4 = 0 ∧ W 400 1 = h.index.val ∧ W 404 4 = h.serial.toNat ∧ W 408 1 = i.val ∧ W 409 1 = left % 256)
              ∧ (∀ position count, c.body = .addItem position count → W 396 4 = 0 ∧ W 400 1 = position % 256 ∧ W 401 1 = count % 256)
              ∧ (∀ field, c.body = .badField field → W 396 4 = 1 ∧ W 402 1 = field % 256)
              ∧ (∀ count, c.body = .itemCount count → W 396 4 = 0 ∧ W 400 1 = count % 256)
              ∧ (∀ f p need, c.body = .quoted f p need → W 396 4 = 0 ∧ W 400 4 = f.subtotal % 2 ^ 32 ∧ W 404 4 = f.discount % 2 ^ 32
                  ∧ W 408 4 = f.tax % 2 ^ 32 ∧ W 412 4 = f.total % 2 ^ 32 ∧ W 416 2 = f.rate % 2 ^ 16 ∧ W 418 1 = p.val
                  ∧ W 420 2 = need % 2 ^ 16)
              ∧ (∀ position, c.body = .quoteItem position → W 396 4 = 1 ∧ W 422 1 = position % 256)
              ∧ (∀ total, c.body = .quoteTooLarge total → W 396 4 = 2 ∧ W 423 4 = total % 2 ^ 32)
              ∧ (∀ units, c.body = .quoteNoMedia units → W 396 4 = 4 ∧ W 427 2 = units % 2 ^ 16)
              ∧ (∀ st, c.body = .orderState st → W 396 4 = 0 ∧ W 400 1 = orderStateCode st)
              ∧ (∀ st how settled captured, c.body = .retired st how settled captured → W 396 4 = 0 ∧ W 400 1 = orderStateCode st
                  ∧ W 401 1 = settleStatusCode how ∧ W 404 4 = settled % 2 ^ 32 ∧ W 408 4 = captured % 2 ^ 32)
              ∧ (∀ tag installed sizes promotions, c.body = .loaded tag installed sizes promotions → W 396 4 = 1 ∧ W 400 4 = tag.toNat
                  ∧ W 404 4 = installed.toNat ∧ W 408 1 = sizes % 256 ∧ W 409 1 = promotions % 256)
              ∧ (∀ entry v, c.body = .loadBad entry v → W 396 4 = 2 ∧ W 410 1 = entry % 256 ∧ W 411 1 = violationCode v)
              ∧ (∀ a, c.body = .loadFault a → W 396 4 = 4 ∧ W 412 1 = a.val)
              ∧ (∀ was now table, c.body = .apertures was now table →
                  W 396 4 = (if was.entry.fault.isSome then 1 else 0) + (if now.entry.fault.isSome then 2 else 0)
                    ∧ (∀ x ∈ [(was, 400), (now, 440)], W x.2 8 = x.1.entry.base % 2 ^ 64 ∧ W (x.2 + 8) 8 = x.1.entry.limit % 2 ^ 64
                        ∧ W (x.2 + 16) 1 = accessCode x.1.entry.access ∧ W (x.2 + 17) 1 = apertureStateCode x.1.entry.state
                        ∧ W (x.2 + 18) 2 = x.1.useCount % 2 ^ 16
                        ∧ (x.1.entry.fault = none → W (x.2 + 20) 8 = 0 ∧ W (x.2 + 28) 8 = 0 ∧ W (x.2 + 36) 4 = 0)
                        ∧ ∀ f, x.1.entry.fault = some f → W (x.2 + 20) 4 = f.clock.toNat ∧ W (x.2 + 24) 1 = directionCode f.direction
                            ∧ W (x.2 + 25) 1 = requesterCode f.requester ∧ W (x.2 + 26) 1 = faultCauseCode f.cause
                            ∧ W (x.2 + 28) 8 = f.address % 2 ^ 64 ∧ W (x.2 + 36) 2 = f.areasDied % 2 ^ 16)
                    ∧ ∀ k : Fin 8, W (480 + 4 * k.val) 1 = apertureStateCode (look table k).entry.state
                        ∧ W (482 + 4 * k.val) 2 = (look table k).useCount % 2 ^ 16)
              ∧ (∀ t c0 c1 c2 c3, c.body = .timers t c0 c1 c2 c3 → W 396 4 = 0 ∧ W 400 2 = t.idle % 2 ^ 16 ∧ W 402 2 = t.quoteHold % 2 ^ 16
                  ∧ W 404 2 = t.authorization % 2 ^ 16 ∧ W 406 2 = t.grace % 2 ^ 16
                  ∧ W 408 1 = (if c0 then 1 else 0) + (if c1 then 2 else 0) + (if c2 then 4 else 0) + (if c3 then 8 else 0))
              ∧ (∀ closed t, c.body = .shift closed t → W 396 4 = 0 ∧ W 400 4 = closed.toNat ∧ W 404 4 = t.openedAt.toNat
                  ∧ ∀ (k : Nat) x, [t.approvals, t.captures, t.voids, t.uncollected, t.abandoned][k]? = some x →
                      W (408 + 8 * k) 4 = x.count % 2 ^ 32 ∧ W (412 + 8 * k) 4 = x.sum % 2 ^ 32
                        ∧ (W 448 2).testBit (2 * k) = x.countSat ∧ (W 448 2).testBit (2 * k + 1) = x.sumSat)
              ∧ (∀ generation ended, c.body = .resetBay generation ended → W 396 4 = 0 ∧ W 400 2 = generation.toNat ∧ W 402 2 = ended % 2 ^ 16)
              ∧ (∀ st id, c.body = .resetPrinter st id → W 396 4 = 0 ∧ W 400 2 = printerStateCode st ∧ W 402 2 = id.toNat)
              ∧ (∀ st ref, c.body = .resetTerminal st ref → W 396 4 = 0 ∧ W 400 2 = terminalStateCode st ∧ W 402 2 = ref.toNat)
              ∧ ∀ st waits, c.body = .service st waits → W 396 4 = 0 ∧ W 400 1 = printerStateCode st ∧ W 401 1 = if waits then 1 else 0)
      ∧ (∀ (i : StationId) (t : Station) (base : Nat), t = s.station i → base = 0x1000 + 256 * i.val →
        windowField s base 1 = 0 ∧ windowField s (base + 1) 1 = i.val ∧ (windowField s (base + 4) 4).testBit 0 = t.session.isSome
          ∧ windowField s (base + 8) 2 = (if t.noRoomLive then 1 else 0)
          ∧ windowField s (base + 10) 2 = (if t.noRoomLatched then 1 else 0) + (if t.idleClosed then 2 else 0)
          ∧ (∀ k, t.session = some k → windowField s (base + 16) 1 = k.val ∧ windowField s (base + 20) 4 = (s.session k).openedAt.toNat)
          ∧ windowField s (base + 26) 1 = (match t.ready with | .off => 0 | .steady => 1 | .blink => 2)
          ∧ windowField s (base + 27) 1 = (if t.call then 1 else 0))
      ∧ (∀ (b : BayId) (y : Bay) (base : Nat), y = s.bay b → base = 0x1400 + 256 * b.val →
        windowField s base 1 = 1 ∧ windowField s (base + 1) 1 = b.val
          ∧ windowField s (base + 8) 2 = (if y.state = .faulted then 1 else 0) + (if y.giveBackWait then 2 else 0)
          ∧ windowField s (base + 16) 1 = (match y.state with
              | .empty => 0 | .settling => 1 | .identifying => 2 | .ready => 3 | .reading => 4 | .faulted => 5)
          ∧ windowField s (base + 17) 1 = (if y.contact then 1 else 0) ∧ windowField s (base + 18) 2 = y.generation.toNat
          ∧ windowField s (base + 54) 1 = y.waiting.length % 256
          ∧ (windowField s (base + 4) 4).testBit 0 = y.card.isSome ∧ (windowField s (base + 4) 4).testBit 1 = y.active.isSome
          ∧ windowField s (base + 20) 4 = (y.card.map (·.capacity)).getD 0 % 2 ^ 32
          ∧ windowField s (base + 24) 4 = (y.card.map (·.serial.toNat)).getD 0
          ∧ windowField s (base + 28) 4 = (y.card.map (·.identifiedAt.toNat)).getD 0
          ∧ windowField s (base + 32) 1 = (match y.run with | .idle => 0 | .running => 1 | .clockStopped => 2 | .halted => 3)
          ∧ (y.active = none → ∀ a, 33 ≤ a → a < 54 → windowByte s (base + a) = 0)
          ∧ ∀ r, y.active = some r → windowField s (base + 33) 1 = r.slot.val
            ∧ windowField s (base + 34) 1 = (match r.mode with | .single => 0 | .alternate => 1)
            ∧ windowField s (base + 35) 1 = r.filled % 2 ∧ windowField s (base + 36) 4 = r.first % 2 ^ 32
            ∧ windowField s (base + 40) 2 = r.count % 2 ^ 16 ∧ windowField s (base + 42) 2 = r.delivered % 2 ^ 16
            ∧ windowField s (base + 44) 4 = r.chunk % 2 ^ 32 ∧ windowField s (base + 48) 2 = r.filled % 2 ^ 16
            ∧ windowField s (base + 50) 2 = r.givenBack % 2 ^ 16 ∧ windowField s (base + 52) 2 = r.waited % 2 ^ 16)
      ∧ (∀ (p : PrinterId) (q : Printer) (base : Nat), q = s.printer p → base = 0x1800 + 256 * p.val →
        windowField s base 1 = 2 ∧ windowField s (base + 1) 1 = p.val
          ∧ windowField s (base + 16) 1 = (match q.state with
              | .absent => 0 | .ready => 1 | .printing => 2 | .paused => 3 | .faulted => 4 | .offline => 5 | .service => 6)
          ∧ windowField s (base + 32) 1 = q.queue.length % 256 ∧ windowField s (base + 33) 1 = s.heldList.length % 256
          ∧ windowField s (base + 120) 2 = q.nextCopyId.toNat ∧ windowField s (base + 136) 2 = (s.entry p).reported % 2 ^ 16
          ∧ windowField s (base + 138) 2 = s.usable p % 2 ^ 16 ∧ windowField s (base + 140) 2 = s.reserved p % 2 ^ 16
          ∧ windowField s (base + 142) 1 = s.trailing p % 256 ∧ windowField s (base + 143) 1 = (s.entry p).pendingConsumption % 256
          ∧ windowField s (base + 144) 2 = s.committed p % 2 ^ 16 ∧ windowField s (base + 146) 2 = s.freeRoom p % 2 ^ 16
          ∧ (windowField s (base + 4) 4).testBit 3 = q.copy.isSome
          ∧ (q.copy = none → ∀ a, 100 ≤ a → a < 116 → windowByte s (base + a) = 0)
          ∧ ∀ c, q.copy = some c → windowField s (base + 100) 2 = c.id.toNat ∧ windowField s (base + 102) 1 = c.order.val
            ∧ windowField s (base + 103) 1 = c.item % 256 ∧ windowField s (base + 104) 1 = sizeCode c.size
            ∧ windowField s (base + 105) 1 = finishCode c.finish ∧ windowField s (base + 106) 1 = c.attempt % 256
            ∧ windowField s (base + 107) 1 = (if c.held then 1 else 0)
            ∧ windowField s (base + 108) 2 = (match c.highest with | some h => h % 2 ^ 16 | none => 0xFFFF)
            ∧ (windowField s (base + 4) 4).testBit 4 = c.abortCause.isSome
            ∧ (∀ why, c.abortCause = some why → windowField s (base + 110) 1 = copyResultCode why)
            ∧ windowField s (base + 112) 2 = (sizeStripes c.size - c.sent) % 2 ^ 16)
      ∧ (windowField s 0x1A00 1 = 3
        ∧ windowField s 0x1A10 1 = (match s.terminal.state with
            | .absent => 0 | .offline => 1 | .idle => 2 | .authorizing => 3 | .settling => 4)
        ∧ windowField s (0x1A00 + 30) 2 = s.terminal.nextReference.toNat ∧ windowField s (0x1A00 + 68) 1 = s.terminal.voidList.length % 256
        ∧ (∀ k e, k < 16 → s.terminal.voidList[k]? = some e → windowField s (0x1A00 + 72 + 8 * k) 2 = e.reference.toNat
            ∧ windowField s (0x1A00 + 74 + 8 * k) 1 = e.attempts % 256 ∧ windowField s (0x1A00 + 76 + 8 * k) 4 = e.amount % 2 ^ 32)
        ∧ windowField s (0x1A00 + 204) 4 = s.terminal.till.approvals.count % 2 ^ 32
        ∧ windowField s (0x1A00 + 208) 4 = s.terminal.till.approvals.sum % 2 ^ 32
        ∧ windowField s 0x1B00 1 = 4 ∧ windowField s 0x1B14 4 = s.price.table.tag.toNat)
      ∧ (∀ (o : OrderId) (r : Order) (base : Nat), r = s.order o → base = 0x2000 + 512 * o.val →
        (r.state = .free → ∀ a, a < 512 → windowByte s (base + a) = 0)
          ∧ (r.state ≠ .free → windowField s base 1 = o.val ∧ windowField s (base + 1) 1 = orderStateCode r.state
            ∧ windowField s (base + 2) 1 = r.station.val ∧ windowField s (base + 3) 1 = r.session.val
            ∧ windowField s (base + 4) 4 = r.serial.toNat ∧ windowField s (base + 12) 1 = r.items.length % 256
            ∧ (windowField s (base + 8) 4).testBit 1 = r.placement.isSome ∧ (∀ p, r.placement = some p → windowField s (base + 14) 1 = p.val)
            ∧ windowField s (base + 18) 2 = s.reservation o % 2 ^ 16
            ∧ (windowField s (base + 8) 4).testBit 8 = r.prices.isSome
            ∧ (∀ f, r.prices = some f → windowField s (base + 40) 4 = f.subtotal % 2 ^ 32 ∧ windowField s (base + 44) 4 = f.discount % 2 ^ 32
                ∧ windowField s (base + 48) 4 = f.tax % 2 ^ 32 ∧ windowField s (base + 52) 4 = f.total % 2 ^ 32)
            ∧ (windowField s (base + 8) 4).testBit 9 = r.reference.isSome
            ∧ (∀ ref, r.reference = some ref → windowField s (base + 56) 2 = ref.toNat)
            ∧ windowField s (base + 72) 4 = r.settlement.getD 0 % 2 ^ 32 ∧ windowField s (base + 76) 4 = r.captured % 2 ^ 32
            ∧ ∀ k i, k < 24 → r.items[k]? = some i →
                windowField s (base + 128 + 16 * k) 1 = sizeCode i.size ∧ windowField s (base + 129 + 16 * k) 1 = finishCode i.finish
                  ∧ windowField s (base + 130 + 16 * k) 1 = i.quantity % 256
                  ∧ windowField s (base + 131 + 16 * k) 1 = (match i.state with
                      | .pending => 0 | .active => 1 | .done => 2 | .unprintable => 3)
                  ∧ windowField s (base + 132 + 16 * k) 1 = i.printed % 256 ∧ windowField s (base + 133 + 16 * k) 1 = i.failed % 256
                  ∧ windowField s (base + 134 + 16 * k) 1 = i.inFlight % 256 ∧ windowField s (base + 136 + 16 * k) 8 = i.address % 2 ^ 64))
      ∧ (∀ (image : List Byte) (tag clock : W32), image.length = 256 → imageFailure image = none →
        s.price.table = tableOfImage image tag clock →
        (∀ a, a < 256 → windowByte s (0x6000 + a) = image.getD a 0) ∧ windowField s 0x6100 4 = tag.toNat
          ∧ windowField s 0x6104 4 = clock.toNat ∧ windowField s 0x6108 1 = 1)
      ∧ (s.price.table = PriceTable.empty → ∀ a, 0x6000 ≤ a → a < 0x7000 → windowByte s a = 0)
      ∧ (∀ a, 0x6109 ≤ a → a < 0x7000 → windowByte s a = 0)
      ∧ ∀ a, (0x20 ≤ a ∧ a < 0x100) ∨ (0x200 ≤ a ∧ a < 0x1000) ∨ (0x1C00 ≤ a ∧ a < 0x2000) ∨ (0x7000 ≤ a ∧ a < 0x8000) →
          windowByte s a = 0

/-! ## What follows an event -/

/-- R17, R31 to R33, R69, R72, R83, R110, R130, R156: the settling at the end of an event moves only stock placement, copies, the terminal's
grant, the master port and the lamps: every other part of State stays, and so does every order that is FREE, DRAFT, SETTLING or final.
R42, R173: a comparison of two moments sets the change bit of every record in which a field other than a countdown or progress field differs
(a station's idle watch and payment notice remaining, a bay's blocks delivered and waited time, a printer's stripes and grace remaining, the
terminal's limit remaining, an order's hold remaining), keeps the bits set before, and changes nothing else. The end of an event compares its
start with its end, and then, R175, a message goes out if the set of flags set and enabled was empty and is not: in RUN, with the link up and
messages enabled. Which moments of an event are compared is the model's reading (log entry 29): its start and the end of its own effect, that
and the end of the releases, its start and its end. The order in which the parts of the settling follow one another (the last clause) is the
reading of log entry 15: no rule gives it. -/
def Obligations.SettlingLeavesTheRestAlone : Prop :=
  (∀ before at0 u : State, Settled u (closeEvent at0 (settle before u)))
    ∧ (∀ before t u : State, u = markChanges before t →
        (∀ n : UnitId, u.unitChanged.getLsbD n.val = (t.unitChanged.getLsbD n.val || decide (unitRecord before false n ≠ unitRecord t false n)))
          ∧ (∀ o : OrderId, u.orderChanged.getLsbD o.val
              = (t.orderChanged.getLsbD o.val || decide (orderRecord before false o ≠ orderRecord t false o)))
          ∧ { u with unitChanged := t.unitChanged, orderChanged := t.orderChanged } = t)
    ∧ (∀ (s : State) (n : UnitId) (counting : List Nat),
        counting = (if n.val < 4 then [18, 29] else if n.val < 8 then [42, 52] else if n.val < 10 then [112, 150]
          else if n.val = 10 then [28] else []) →
        unitRecord s false n = (unitRecord s true n).map (fun f => if f.offset ∈ counting then { f with value := 0 } else f)
          ∧ (s.part = .run → ∀ k, k < 256 → windowByte s (0x1000 + 256 * n.val + k) = fieldByte (unitRecord s true n) k))
    ∧ (∀ (s : State) (o : OrderId),
        orderRecord s false o = (orderRecord s true o).map (fun f => if f.offset = 16 then { f with value := 0 } else f)
          ∧ (s.part = .run → ∀ k, k < 512 → windowByte s (0x2000 + 512 * o.val + k) = fieldByte (orderRecord s true o) k))
    ∧ (∀ before t u : State, u = markChanges before t →
        (t.part = .run → t.pcieUp = true → t.msiEnable = true → attnFlags before &&& before.attnEnable = 0 →
            attnFlags u &&& u.attnEnable ≠ 0 → closeEvent before t = { u with out := u.out ++ [.interruptMessage] })
          ∧ (t.part ≠ .run ∨ t.pcieUp = false ∨ t.msiEnable = false ∨ attnFlags before &&& before.attnEnable ≠ 0
              ∨ attnFlags u &&& u.attnEnable = 0 → closeEvent before t = u))
    ∧ ∀ before u : State, ∃ released scanned : State, released = release 1 (release 0 (markChanges before (evalAllLamps u)))
        ∧ (scanned = markChanges (markChanges before (evalAllLamps u)) released
            ∨ scanned = scanHeld (markChanges (markChanges before (evalAllLamps u)) released))
        ∧ settle before u = evalAllLamps (grantLoop (arbiter (beginCheck 1 (beginCheck 0 scanned))))

/-- R21, R62, R63, R65, R67: the stock figures of each printer and the choice rule with its tie. R32, R69, R70: the release: which orders it
takes and in what order, that it stops when the printer is no longer short, what becomes of an order taken, and step 5 on the copy in
flight. R33, R72: a scan of the held list takes every member from the head, places it where the choice rule finds room, and passes over the
others. That an UNPRINTABLE item's copy in flight is not reserved is the reading of log entry 13; that it counts as trailing in full once its
order has left the printer is the model's choice (log entry 44). The order in which the parts of the settling follow one another is the
reading of log entry 15. By log entry 14, the model's reading too, a release passes over every order with no units
to begin, one whose copy in flight keeps its reservation above 0 among them, and a scan places a HELD order that needs no units. -/
def Obligations.StockFiguresPlaceAndRelease : Prop :=
  (∀ (s : State) (p : PrinterId),
    (s.usable p = match (s.printer p).state with
        | .ready | .printing | .paused => (s.entry p).reported
        | .faulted | .offline => if (s.entry p).grace = none then 0 else (s.entry p).reported
        | .service | .absent => 0)
      ∧ (∀ o, (s.order o).placement = none → s.reservation o = 0)
      ∧ (∀ o, (s.order o).placement = some p →
          (∀ c, (s.printer p).copy = some c → c.order = o → c.releasedEarly = true) → s.reservation o = remainingUnits (s.order o))
      ∧ (∀ o c i, (s.order o).placement = some p → (s.printer p).copy = some c → c.order = o → c.releasedEarly = false →
          (s.order o).items[c.item]? = some i → s.reservation o =
            remainingUnits (s.order o) + if i.state = .unprintable then 0 else sizeUnits c.size)
      ∧ (∀ r : Order, remainingUnits r = (r.items.map fun i => (if i.dropped = true ∨ i.state = .done ∨ i.state = .unprintable then 0
            else i.quantity - i.printed - i.failed - i.inFlight) * sizeUnits i.size).sum)
      ∧ ((s.printer p).copy = none → s.trailing p = 0)
      ∧ (∀ c, (s.printer p).copy = some c → s.trailing p =
          if c.releasedEarly = false ∧ (s.order c.order).placement ≠ some p then sizeUnits c.size else 0)
      ∧ s.committed p = (((List.finRange 32).filter fun o => (s.order o).placement == some p).map s.reservation).sum + s.trailing p
          + (s.entry p).pendingConsumption
      ∧ s.freeRoom p = s.usable p - s.committed p
      ∧ (∀ need, s.choosePrinter need = some p ↔ need ≤ s.freeRoom p
          ∧ (need ≤ s.freeRoom (otherPrinter p) →
            s.freeRoom (otherPrinter p) < s.freeRoom p ∨ (s.freeRoom (otherPrinter p) = s.freeRoom p ∧ p = 0)))
      ∧ ∀ need, s.choosePrinter need = none ↔ s.freeRoom 0 < need ∧ s.freeRoom 1 < need)
    ∧ (∀ (s : State) (p : PrinterId),
    (s.committed p ≤ s.usable p → release p s = s)
      ∧ release p s = releaseCopy p ((releaseOrderList s p).foldl (fun t o =>
          if t.usable p < t.committed p ∧ remainingUnits (t.order o) ≠ 0 then releaseOrder p o t else t) s)
      ∧ (∃ priced paying, releaseOrderList s p = priced ++ paying ++ ((s.printer p).queue.filter fun o => (s.order o).state == .paid).reverse
            ++ ((s.printer p).queue.filter fun o => (s.order o).state == .printing).reverse
          ∧ (∀ o, o ∈ priced ↔ (s.order o).state = .priced ∧ (s.order o).placement = some p)
          ∧ (∀ o, o ∈ paying ↔ (s.order o).state = .paying ∧ (s.order o).placement = some p)
          ∧ priced.Pairwise (fun a b => (s.order b).stamp ≤ (s.order a).stamp) ∧ priced.Nodup
          ∧ paying.Pairwise (fun a b => (s.order b).stamp ≤ (s.order a).stamp) ∧ paying.Nodup)
      ∧ (∀ (o : OrderId) (fits : Bool) (t : State), fits = decide (remainingUnits (s.order o) ≤ s.freeRoom (otherPrinter p)) →
          t = releaseOrder p o s →
          ((s.order o).state = .priced → fits = true → t = s.onOrder o fun r => { r with placement := some (otherPrinter p) })
            ∧ ((s.order o).state = .priced → fits = false → t = s.onOrder o fun r =>
                { r with state := .draft, hold := .none, placement := none, prices := none, draftReason := some .noMedia })
            ∧ ((s.order o).state = .paying → t = s.onOrder o fun r =>
                { r with placement := if fits = true then some (otherPrinter p) else none })
            ∧ ((s.order o).state = .paid ∨ (s.order o).state = .printing → fits = true →
                t.order o = { s.order o with state := .paid, hold := .none, placement := some (otherPrinter p), holdReason := none }
                  ∧ (t.printer p).queue = (s.printer p).queue.filter (· != o)
                  ∧ (t.printer (otherPrinter p)).queue = (s.printer (otherPrinter p)).queue.filter (· != o) ++ [o]
                  ∧ t.heldList = s.heldList)
            ∧ ((s.order o).state = .paid ∨ (s.order o).state = .printing → fits = false →
                t.order o = { s.order o with state := .held, hold := .none, placement := none, holdReason := some .noMedia }
                  ∧ (∀ q, (t.printer q).queue = (s.printer q).queue.filter (· != o))
                  ∧ t.heldList = s.heldList.filter (· != o) ++ [o])
            ∧ (∀ x, x ≠ o → t.order x = s.order x) ∧ (∀ q, (t.printer q).copy = (s.printer q).copy) ∧ t.stock = s.stock)
      ∧ (s.usable p < s.committed p → ∀ c, (s.printer p).copy = some c → c.abortCause = none →
          releaseCopy p s = { (s.onPrinter p fun q =>
              { q with copy := some { c with releasedEarly := true, abortCause := some .aborted, abortDeadline := some (s.clock + 2#32),
                                             beginWait := none } }) with
            out := s.out ++ [.abortCopy p c.id],
            port := { s.port with lines := upd s.port.lines (requesterIndex (.printer p)) fun _ => [] } })
      ∧ (s.usable p < s.committed p → ∀ c cause, (s.printer p).copy = some c → c.abortCause = some cause →
          releaseCopy p s = s.onPrinter p fun q => { q with copy := some { c with releasedEarly := true } })
      ∧ (s.committed p ≤ s.usable p ∨ (s.printer p).copy = none → releaseCopy p s = s))
    ∧ (∀ (s : State) (o : OrderId),
    scanHeld s = s.heldList.foldl (fun t x => scanStep x t) s
      ∧ ((s.order o).state = .held → s.freeRoom 0 < remainingUnits (s.order o) → s.freeRoom 1 < remainingUnits (s.order o) → scanStep o s = s)
      ∧ ∀ p t, (s.order o).state = .held → s.choosePrinter (remainingUnits (s.order o)) = some p → t = scanStep o s →
        t.order o = { s.order o with state := .paid, hold := .none, placement := some p, holdReason := none }
          ∧ (t.printer p).queue = (s.printer p).queue.filter (· != o) ++ [o] ∧ t.heldList = s.heldList.filter (· != o)
          ∧ (∀ x, x ≠ o → t.order x = s.order x) ∧ (∀ q, (t.printer q).copy = (s.printer q).copy) ∧ t.stock = s.stock)
    ∧ ∀ before u v w : State, v = markChanges (markChanges before (evalAllLamps u)) (release 1 (release 0 (markChanges before (evalAllLamps u)))) →
        w = (if before.freeRoom 0 < v.freeRoom 0 ∨ before.freeRoom 1 < v.freeRoom 1 then scanHeld v else v) →
        settle before u = evalAllLamps (grantLoop (arbiter (beginCheck 1 (beginCheck 0 w))))

/-! ## Stations and sessions -/

/-- R4, R7: OPEN_SESSION: STATE with the session there, TABLE_FULL without a FREE entry, else the lowest FREE entry opens. -/
def Obligations.OpenSessionOpensOrRefuses : Prop :=
  ∀ (s : State) (n : SlotId) (rest : List SlotId) (i : StationId), Heads s .openSession n rest → stationField (s.slot n) = i.val →
    (∀ k, (s.station i).session = some k →
        EndsAs (exec .openSession s)
          (answered n rest .state .none (.openSession k (s.session k).openedAt 0) (restartForStation i s.quiet)))
      ∧ ((s.station i).session = none → (∀ k, (s.session k).state ≠ .free) →
          EndsAs (exec .openSession s) (answered n rest .tableFull .none .zero s.quiet))
      ∧ ∀ k, (s.station i).session = none → (s.session k).state = .free → (∀ j, j < k → (s.session j).state ≠ .free) →
          EndsAs (exec .openSession s)
            (answered n rest .ok .none (.openSession k s.clock s.timers.idle)
              (evalLamps i
                (((s.quiet.onSession k fun _ =>
                  { state := .active, station := i, orders := [], openedAt := s.clock,
                    deadline := some (s.clock + BitVec.ofNat 32 s.timers.idle) }).onStation i fun t =>
                  { t with session := some k, noRoomLive := false }).markUnit (stationUnit i))))

/-- R8, R119: what the close of the ACTIVE session k of station i does: its DRAFT and PRICED orders are cancelled, its waiting reads complete
SESSION_ENDED, the entry drains or becomes FREE, and the station's fields take the close. The active read is marked for its next block boundary
while its run is RUNNING; with the run CLOCK_STOPPED, HALTED or IDLE it ends at once, and completes SESSION_ENDED unless a half of it is
WRITING. A read that ends already, or that has passed its last boundary with no half waiting, is left alone. -/
def Obligations.ClosingASessionTakesItsSteps : Prop :=
  ∀ (i : StationId) (k : SessionId) (cause : CloseCause) (s : State),
    (s.session k).state = .active → (∀ o ∈ (s.session k).orders, (s.order o).session = k) →
    (∀ r ∈ (s.bay i).waiting, (s.slot r.slot).state = .taken) →
      ((closeSession i k cause s).station i).session = none
        ∧ ((closeSession i k cause s).station i).last = some { index := k, cause := cause, clock := s.clock }
        ∧ ((closeSession i k cause s).session k).deadline = none
        ∧ (∀ o ∈ (s.session k).orders, (s.order o).state = .draft ∨ (s.order o).state = .priced →
            (closeSession i k cause s).order o =
              { s.order o with state := .cancelled, hold := .none, placement := none, settleStatus := .none, closedAt := some s.clock })
        ∧ (∀ o, o ∉ (s.session k).orders ∨ ((s.order o).state ≠ .draft ∧ (s.order o).state ≠ .priced) →
            (closeSession i k cause s).order o = s.order o)
        ∧ ((∃ o ∈ (s.session k).orders, (s.order o).state = .paid ∨ (s.order o).state = .printing ∨ (s.order o).state = .held
              ∨ (s.order o).state = .settling) →
            ((closeSession i k cause s).session k).state = .draining
              ∧ ((closeSession i k cause s).session k).orders = (s.session k).orders
              ∧ ((closeSession i k cause s).station i).draining = (s.station i).draining + 1)
        ∧ ((∀ o ∈ (s.session k).orders, (s.order o).state = .draft ∨ (s.order o).state = .priced ∨ (s.order o).state = .closed
              ∨ (s.order o).state = .cancelled) →
            ((closeSession i k cause s).session k).state = .free ∧ ((closeSession i k cause s).session k).orders = []
              ∧ ((closeSession i k cause s).station i).draining = (s.station i).draining
              ∧ ∀ j, ((closeSession i k cause s).station j).noRoomLive = false)
        ∧ ((closeSession i k cause s).bay i).waiting = []
        ∧ (∀ r ∈ (s.bay i).waiting, ((closeSession i k cause s).slot r.slot).state = .done
            ∧ ((closeSession i k cause s).slot r.slot).status = .sessionEnded)
        ∧ (∀ r, (s.bay i).active = some r → r.ended = none → r.mark = none → r.accepted ≠ r.count ∨ (s.bay i).giveBackWait = true →
            ((s.bay i).run = .running →
                ((closeSession i k cause s).bay i).active = some { r with mark := some .sessionEnded }
                  ∧ ((closeSession i k cause s).bay i).half0 = (s.bay i).half0 ∧ ((closeSession i k cause s).bay i).half1 = (s.bay i).half1
                  ∧ ((closeSession i k cause s).bay i).run = .running ∧ (closeSession i k cause s).out = s.out)
              ∧ ((s.bay i).run ≠ .running → ∀ final,
                final = (if r.mode = .alternate ∧ r.filled * r.chunk < r.delivered * 512 then { r with filled := r.filled + 1 } else r) →
                (s.slot r.slot).state = .taken → (∀ x ∈ (s.bay i).waiting, x.slot ≠ r.slot) →
                ((closeSession i k cause s).bay i).run = .idle ∧ ((closeSession i k cause s).bay i).giveBackWait = false
                  ∧ (closeSession i k cause s).out =
                      s.out ++ (if (s.bay i).run = .clockStopped ∧ (s.bay i).card.isSome = true then [.halt i] else [])
                  ∧ ((closeSession i k cause s).bay i).half0 =
                      (if (s.bay i).half0.state = .writing then (s.bay i).half0 else { state := .empty, blocks := 0, data := [] })
                  ∧ ((closeSession i k cause s).bay i).half1 =
                      (if (s.bay i).half1.state = .writing then (s.bay i).half1 else { state := .empty, blocks := 0, data := [] })
                  ∧ ((s.bay i).half0.state ≠ .writing → (s.bay i).half1.state ≠ .writing →
                      ((closeSession i k cause s).bay i).active = none ∧ ((closeSession i k cause s).slot r.slot).state = .done
                        ∧ ((closeSession i k cause s).slot r.slot).status = .sessionEnded
                        ∧ ((closeSession i k cause s).slot r.slot).body = .read (finalReadResult final))
                  ∧ ((s.bay i).half0.state = .writing ∨ (s.bay i).half1.state = .writing →
                      ((closeSession i k cause s).bay i).active = some { r with ended := some .sessionEnded, mark := none }
                        ∧ (closeSession i k cause s).slot r.slot = s.slot r.slot)))
        ∧ (∀ r, (s.bay i).active = some r →
            r.ended.isSome = true ∨ r.mark.isSome = true ∨ (r.accepted = r.count ∧ (s.bay i).giveBackWait = false) →
            ((closeSession i k cause s).bay i).active = some r ∧ ((closeSession i k cause s).bay i).half0 = (s.bay i).half0
              ∧ ((closeSession i k cause s).bay i).half1 = (s.bay i).half1 ∧ (closeSession i k cause s).out = s.out)
        ∧ (∀ b, b ≠ i → (closeSession i k cause s).bay b = s.bay b) ∧ (closeSession i k cause s).price = s.price
        ∧ (closeSession i k cause s).stock = s.stock ∧ (closeSession i k cause s).printers = s.printers
        ∧ (closeSession i k cause s).terminal = s.terminal ∧ (closeSession i k cause s).apertures = s.apertures
        ∧ (closeSession i k cause s).clock = s.clock ∧ (closeSession i k cause s).timers = s.timers

/-- R9, R13: CLOSE_SESSION refuses a station without a session or with an order in PAYING and else closes with cause HOST; the idle expiry of
an ACTIVE session closes it with cause IDLE and latches IDLE_CLOSED. -/
def Obligations.SessionsCloseByHostOrIdle : Prop :=
  (∀ (s : State) (n : SlotId) (rest : List SlotId) (i : StationId), Heads s .closeSession n rest → stationField (s.slot n) = i.val →
    ((s.station i).session = none → EndsAs (exec .closeSession s) (answered n rest .state .noSession .zero s.quiet))
      ∧ (∀ k before o after, (s.station i).session = some k → (s.session k).orders = before ++ o :: after →
          (∀ x ∈ before, (s.order x).state ≠ .paying) → (s.order o).state = .paying →
          EndsAs (exec .closeSession s)
            (answered n rest .state .paymentOpen (.paymentOpen { index := o, serial := (s.order o).serial }) (restartForStation i s.quiet)))
      ∧ ∀ k, (s.station i).session = some k → (∀ o ∈ (s.session k).orders, (s.order o).state ≠ .paying) →
          ∃ t, t = closeSession i k .host (restartForStation i (takeSlot n rest s.quiet))
            ∧ ThenSettles (exec .closeSession s) s.quiet
                (complete n .ok .none
                  (.closeSession k (t.session k).state
                    ((s.session k).orders.filter fun o => (s.order o).state == .draft || (s.order o).state == .priced).length
                    (closableReads (s.bay i))) t))
    ∧ ∀ (k : SessionId) (s : State), s.part = .run → (s.session k).state = .active → (s.session k).deadline.isSome = true →
        ThenSettles (exec (.idleExpiry k) s) s.quiet
          ((closeSession (s.session k).station k .idle s.quiet).onStation (s.session k).station fun t => { t with idleClosed := true })

/-- R15, R16, R17: what one evaluation of a station's lamps sets, and the lamp timers: the payment notice and the CALL minimum on-time end
and the lamps are evaluated; a blink changes its half. That the command of a timer that does not run changes nothing, the last three
clauses, is the model's choice (log entry 6). -/
def Obligations.LampsFollowTheirCauses : Prop :=
  (∀ (i : StationId) (s : State), ∃ t : Station, evalLamps i s = (s.onStation i fun _ => t)
    ∧ ((s.station i).session.isSome = true → t.ready = .blink ∧ ((s.station i).ready ≠ .blink → t.blinkOn = true)
        ∧ ((s.station i).ready = .blink → t.blinkOn = (s.station i).blinkOn))
    ∧ ((s.station i).session = none → (0 < s.usable 0 ∨ 0 < s.usable 1) → s.terminal.state = .idle → t.ready = .steady)
    ∧ ((s.station i).session = none → (s.usable 0 = 0 ∧ s.usable 1 = 0) ∨ s.terminal.state ≠ .idle → t.ready = .off)
    ∧ (s.callCause i = true → (s.station i).call = false →
        t.call = true ∧ t.minimumOn = some (s.clock + 2#32))
    ∧ (s.callCause i = true → (s.station i).call = true → t.call = true ∧ t.minimumOn = (s.station i).minimumOn)
    ∧ (s.callCause i = false → (s.station i).minimumOn.isSome = true → t.call = (s.station i).call ∧ t.minimumOn = (s.station i).minimumOn)
    ∧ (s.callCause i = false → (s.station i).minimumOn = none → t.call = false ∧ t.minimumOn = none)
    ∧ (s.callCause i = true ↔ (s.bay i).state = .faulted ∨ (s.station i).notice.isSome = true
        ∨ ∃ k, (s.station i).session = some k ∧ ∃ o ∈ (s.session k).orders, (s.order o).state = .held)
    ∧ { t with ready := .off, blinkOn := false, call := false, minimumOn := none }
        = { s.station i with ready := .off, blinkOn := false, call := false, minimumOn := none })
    ∧ ∀ (i : StationId) (s : State), s.part = .run →
    ((s.station i).notice.isSome = true →
        EndsAs (exec (.paymentNoticeExpiry i) s) (evalLamps i (s.quiet.onStation i fun t => { t with notice := none })))
      ∧ ((s.station i).minimumOn.isSome = true →
          EndsAs (exec (.minimumOnTimeExpiry i) s) (evalLamps i (s.quiet.onStation i fun t => { t with minimumOn := none })))
      ∧ ((s.station i).ready = .blink →
          EndsAs (exec (.blinkToggle i) s) (s.quiet.onStation i fun t => { t with blinkOn := !t.blinkOn }))
      ∧ ((s.station i).notice = none → exec (.paymentNoticeExpiry i) s = .next s.quiet)
      ∧ ((s.station i).minimumOn = none → exec (.minimumOnTimeExpiry i) s = .next s.quiet)
      ∧ ((s.station i).ready ≠ .blink → exec (.blinkToggle i) s = .next s.quiet)

/-! ## Orders -/

/-- R3, R19, R22: OPEN_ORDER: refused without a session, with two orders in work, or with a full table; else the lowest FREE record takes a
DRAFT order with the next serial, which is never 0, and joins the session's list. -/
def Obligations.OpenOrderCreatesOrRefuses : Prop :=
  ∀ (s : State) (n : SlotId) (rest : List SlotId) (i : StationId), Heads s .openOrder n rest → stationField (s.slot n) = i.val →
    ((s.station i).session = none → EndsAs (exec .openOrder s) (answered n rest .state .noSession .zero s.quiet))
      ∧ ∀ k, (s.station i).session = some k →
        (2 ≤ s.nonFinalCount k →
            EndsAs (exec .openOrder s) (answered n rest .state .orderLimit .zero (restartForStation i s.quiet)))
          ∧ (s.nonFinalCount k < 2 → (∀ o, (s.order o).state ≠ .free) →
              EndsAs (exec .openOrder s) (answered n rest .tableFull .none .zero (restartForStation i s.quiet)))
          ∧ ∀ o, s.nonFinalCount k < 2 → (s.order o).state = .free → (∀ x, x < o → (s.order x).state ≠ .free) →
              ∃ free, EndsAs (exec .openOrder s)
                (answered n rest .ok .none (.openOrder { index := o, serial := s.orderSerial } k free)
                  { (((restartForStation i s.quiet).onOrder o fun _ =>
                      { Order.reset with state := .draft, serial := s.orderSerial, station := i, session := k, openedAt := s.clock }).onSession k
                        fun e => { e with orders := e.orders ++ [o] }) with
                    orderSerial := if s.orderSerial = 0xFFFFFFFF#32 then 1#32 else s.orderSerial + 1 })
                ∧ free + 1 = ((List.finRange 32).filter fun x => (s.order x).state == .free).length

/-- R23, R24: ADD_ITEM: the first field found bad is named; a full list completes TABLE_FULL; else the item joins the tail as PENDING with
counts 0, in the lowest aperture that takes its raster, after a PRICED order has gone back to DRAFT. -/
def Obligations.AddItemAppendsAPendingItem : Prop :=
  ∀ (s : State) (n : SlotId) (rest : List SlotId) (o : OrderId), Heads s .addItem n rest → Names s n o →
    (3 < reqByte (s.slot n) 24 → EndsAs (exec .addItem s) (answered n rest .range .none (.badField 0) (restartForOrder o s.quiet)))
      ∧ ∀ size : Size, reqByte (s.slot n) 24 = sizeCode size →
        (1 < reqByte (s.slot n) 25 → EndsAs (exec .addItem s) (answered n rest .range .none (.badField 1) (restartForOrder o s.quiet)))
          ∧ ∀ finish : Finish, reqByte (s.slot n) 25 = finishCode finish →
            (reqByte (s.slot n) 26 = 0 ∨ 99 < reqByte (s.slot n) 26 →
                EndsAs (exec .addItem s) (answered n rest .range .none (.badField 2) (restartForOrder o s.quiet)))
              ∧ (1 ≤ reqByte (s.slot n) 26 → reqByte (s.slot n) 26 ≤ 99 →
                (reqField (s.slot n) 40 4 ≠ rasterBytes size →
                    EndsAs (exec .addItem s) (answered n rest .range .none (.badField 3) (restartForOrder o s.quiet)))
                  ∧ (reqField (s.slot n) 40 4 = rasterBytes size →
                    (s.findAperture .read (reqField (s.slot n) 32 8) (rasterBytes size) = none →
                        EndsAs (exec .addItem s) (answered n rest .range .none (.badField 4) (restartForOrder o s.quiet)))
                      ∧ ∀ a, s.findAperture .read (reqField (s.slot n) 32 8) (rasterBytes size) = some a →
                        ((s.order o).state ≠ .draft ∧ (s.order o).state ≠ .priced →
                            EndsAs (exec .addItem s)
                              (answered n rest .state .none (.orderState (s.order o).state) (restartForOrder o s.quiet)))
                          ∧ ((s.order o).state = .draft ∨ (s.order o).state = .priced →
                            (24 ≤ (s.order o).items.length →
                                EndsAs (exec .addItem s) (answered n rest .tableFull .none .zero (restartForOrder o s.quiet)))
                              ∧ ((s.order o).items.length < 24 →
                                  ThenSettles (exec .addItem s) s.quiet
                                    (answered n rest .ok .none
                                      (.addItem (s.order o).items.length ((s.order o).items.length + 1))
                                      (edited o (fun r => { r with items := r.items ++
                                        [{ size := size, finish := finish, quantity := reqByte (s.slot n) 26,
                                           address := reqField (s.slot n) 32 8, aperture := a, printed := 0, failed := 0, inFlight := 0,
                                           state := .pending, dropped := false }] }) (restartForOrder o s.quiet)))))))

/-- R23, R25, R26, R27: CHANGE_ITEM, REMOVE_ITEM and SET_PROMO that pass their checks: the order, back in DRAFT, takes the edit. -/
def Obligations.EditsReturnToDraftAndApply : Prop :=
  ∀ (s : State) (n : SlotId) (rest : List SlotId) (o : OrderId), Names s n o → (s.order o).state = .draft ∨ (s.order o).state = .priced →
    (∀ (i : Item) (finish : Finish), Heads s .changeItem n rest → (s.order o).items[reqByte (s.slot n) 24]? = some i →
        i.state ≠ .unprintable → reqByte (s.slot n) 25 = finishCode finish → 1 ≤ reqByte (s.slot n) 26 → reqByte (s.slot n) 26 ≤ 99 →
        ThenSettles (exec .changeItem s) s.quiet
          (answered n rest .ok .none .zero
            (edited o (fun r =>
              { r with items := r.items.set (reqByte (s.slot n) 24) { i with quantity := reqByte (s.slot n) 26, finish := finish } })
              (restartForOrder o s.quiet))))
      ∧ (Heads s .removeItem n rest → reqByte (s.slot n) 24 < (s.order o).items.length →
          ThenSettles (exec .removeItem s) s.quiet
            (answered n rest .ok .none (.itemCount ((s.order o).items.length - 1))
              (edited o (fun r => { r with items := r.items.eraseIdx (reqByte (s.slot n) 24) }) (restartForOrder o s.quiet))))
      ∧ (Heads s .setPromo n rest → reqByte (s.slot n) 24 < 16 →
          ThenSettles (exec .setPromo s) s.quiet
            (answered n rest .ok .none .zero
              (edited o (fun r => { r with promotion := some (reqByte (s.slot n) 24) }) (restartForOrder o s.quiet))))
      ∧ (Heads s .setPromo n rest → reqByte (s.slot n) 24 = 0xFF →
          ThenSettles (exec .setPromo s) s.quiet
            (answered n rest .ok .none .zero (edited o (fun r => { r with promotion := none }) (restartForOrder o s.quiet))))

/-- R23, R25, R26, R27, R28, R30, R37: an order request met in the wrong state completes STATE with the order's state, and one whose
position, quantity, finish or promotion is bad completes RANGE; the order stays as it was. -/
def Obligations.OrderRequestsRefuseStateAndRange : Prop :=
  ∀ (k : Kind) (s : State) (n : SlotId) (rest : List SlotId) (o : OrderId), Heads s k n rest → Names s n o →
    (k = .changeItem → ((s.order o).items.length ≤ reqByte (s.slot n) 24 ∨ 1 < reqByte (s.slot n) 25 ∨ reqByte (s.slot n) 26 = 0
          ∨ 99 < reqByte (s.slot n) 26) → EndsAs (exec k.command s) (answered n rest .range .none .zero (restartForOrder o s.quiet)))
      ∧ (k = .removeItem → (s.order o).items.length ≤ reqByte (s.slot n) 24 →
          EndsAs (exec k.command s) (answered n rest .range .none .zero (restartForOrder o s.quiet)))
      ∧ (k = .setPromo → 16 ≤ reqByte (s.slot n) 24 → reqByte (s.slot n) 24 ≠ 0xFF →
          EndsAs (exec k.command s) (answered n rest .range .none .zero (restartForOrder o s.quiet)))
      ∧ ((s.order o).state ≠ .draft → (s.order o).state ≠ .priced →
          (k = .removeItem ∧ reqByte (s.slot n) 24 < (s.order o).items.length)
            ∨ (k = .setPromo ∧ (reqByte (s.slot n) 24 < 16 ∨ reqByte (s.slot n) 24 = 0xFF))
            ∨ (k = .changeItem ∧ reqByte (s.slot n) 24 < (s.order o).items.length ∧ reqByte (s.slot n) 25 ≤ 1
                ∧ 1 ≤ reqByte (s.slot n) 26 ∧ reqByte (s.slot n) 26 ≤ 99) →
          EndsAs (exec k.command s) (answered n rest .state .none (.orderState (s.order o).state) (restartForOrder o s.quiet)))
      ∧ (∀ i, k = .changeItem → (s.order o).items[reqByte (s.slot n) 24]? = some i → i.state = .unprintable → reqByte (s.slot n) 25 ≤ 1 →
          1 ≤ reqByte (s.slot n) 26 → reqByte (s.slot n) 26 ≤ 99 →
          EndsAs (exec k.command s) (answered n rest .state .none (.orderState (s.order o).state) (restartForOrder o s.quiet)))
      ∧ ((k = .quote ∧ (s.order o).state ≠ .draft) ∨ (k = .pay ∧ (s.order o).state ≠ .priced)
            ∨ (k = .cancelOrder ∧ ((s.order o).state = .paying ∨ (s.order o).state = .settling ∨ (s.order o).state = .closed
                ∨ (s.order o).state = .cancelled)) →
          EndsAs (exec k.command s) (answered n rest .state .none (.orderState (s.order o).state) (restartForOrder o s.quiet)))

/-- R28, R29, R52, R56, R65, R67, R68: QUOTE on a DRAFT order: each refusal leaves the record as it was; else the order is PRICED with the
computed prices, placed on the printer the choice rule gives, stamped, with its hold running. -/
def Obligations.QuotePricesAndPlaces : Prop :=
  ∀ (s : State) (n : SlotId) (rest : List SlotId) (o : OrderId), Heads s .quote n rest → Names s n o → (s.order o).state = .draft →
    ((s.order o).items = [] → EndsAs (exec .quote s) (answered n rest .range .none .zero (restartForOrder o s.quiet)))
      ∧ (∀ before i after, (s.order o).items = before ++ i :: after → i.state = .unprintable → (∀ x ∈ before, x.state ≠ .unprintable) →
          EndsAs (exec .quote s) (answered n rest .range .none (.quoteItem before.length) (restartForOrder o s.quiet)))
      ∧ (∀ before i after, (s.order o).items = before ++ i :: after → (∀ x ∈ (s.order o).items, x.state ≠ .unprintable) →
          (sizeEntry s.price.table i.size).offered = false → (∀ x ∈ before, (sizeEntry s.price.table x.size).offered = true) →
          EndsAs (exec .quote s) (answered n rest .noPrice .none (.quoteItem before.length) (restartForOrder o s.quiet)))
      ∧ ((s.order o).items ≠ [] → (∀ x ∈ (s.order o).items, x.state ≠ .unprintable ∧ (sizeEntry s.price.table x.size).offered = true) →
        (9999999 < (fixedPrices s.price.table (s.order o).items (s.order o).promotion).total →
            EndsAs (exec .quote s)
              (answered n rest .tooLarge .none
                (.quoteTooLarge (fixedPrices s.price.table (s.order o).items (s.order o).promotion).total) (restartForOrder o s.quiet)))
          ∧ ((fixedPrices s.price.table (s.order o).items (s.order o).promotion).total ≤ 9999999 →
            (s.freeRoom 0 < quoteUnits (s.order o).items → s.freeRoom 1 < quoteUnits (s.order o).items →
                EndsAs (exec .quote s)
                  (answered n rest .noMedia .none (.quoteNoMedia (quoteUnits (s.order o).items)) (restartForOrder o s.quiet)))
              ∧ ∀ p, quoteUnits (s.order o).items ≤ s.freeRoom p →
                  (quoteUnits (s.order o).items ≤ s.freeRoom (otherPrinter p) →
                    s.freeRoom (otherPrinter p) < s.freeRoom p ∨ (s.freeRoom (otherPrinter p) = s.freeRoom p ∧ p = 0)) →
                  EndsAs (exec .quote s)
                    (answered n rest .ok .none
                      (.quoted (fixedPrices s.price.table (s.order o).items (s.order o).promotion) p (quoteUnits (s.order o).items))
                      { ((restartForOrder o s.quiet).onOrder o fun r =>
                          { r with state := .priced, prices := some (fixedPrices s.price.table (s.order o).items (s.order o).promotion),
                                   placement := some p, draftReason := none, quotedAt := some s.clock, stamp := s.quoteSequence,
                                   hold := .running (s.clock + BitVec.ofNat 32 s.timers.quoteHold) }) with
                        quoteSequence := s.quoteSequence + 1 })))

/-- R12, R30, R132: PAY on a PRICED order: BUSY while another order of the station is paying, NO_TERMINAL without a terminal; else the
order is PAYING with its hold and its session's idle watch stopped, its slot TAKEN, an entry at the tail of the wait list. A placed order
of total 0 becomes PAID at once, at the tail of its printer's queue, without the terminal; that the result of such a PAY then shows
reference 0 and amount 0 is the model's reading (log entry 23). An order without a placement is left out of that clause. -/
def Obligations.PayJoinsTheWaitListOrIsPaid : Prop :=
  (∀ (s : State) (n : SlotId) (rest : List SlotId) (o : OrderId), Heads s .pay n rest → Names s n o → (s.order o).state = .priced →
    ((∃ x, x ≠ o ∧ (s.order x).state = .paying ∧ (s.order x).station = (s.order o).station) →
        EndsAs (exec .pay s) (answered n rest .busy .none .zero (restartForOrder o s.quiet)))
      ∧ ((∀ x, x ≠ o → (s.order x).state = .paying → (s.order x).station ≠ (s.order o).station) → 0 < orderTotal (s.order o) →
        (s.terminal.state = .absent ∨ s.terminal.state = .offline →
            EndsAs (exec .pay s) (answered n rest .noTerminal .none .zero (restartForOrder o s.quiet)))
          ∧ (s.terminal.state ≠ .absent → s.terminal.state ≠ .offline → (s.session (s.order o).session).state = .active →
              (s.session (s.order o).session).orders.contains o = true →
              ThenSettles (exec .pay s) s.quiet
                (begun n rest id
                  (((s.quiet.onOrder o fun r => { r with state := .paying, hold := .stopped }).onSession (s.order o).session fun e =>
                    { e with deadline := none }).onTerminal fun t =>
                    { t with waitList := t.waitList ++ [{ slot := n, order := o, station := (s.order o).station }] })))))
    ∧ ∀ (s : State) (n : SlotId) (rest : List SlotId) (o : OrderId) (p : PrinterId), Heads s .pay n rest → Names s n o →
    (s.order o).state = .priced → (∀ x, x ≠ o → (s.order x).state = .paying → (s.order x).station ≠ (s.order o).station) →
    orderTotal (s.order o) = 0 → (s.order o).placement = some p → (∀ q, o ∉ (s.printer q).queue) →
    ThenSettles (exec .pay s) s.quiet
      (answered n rest .ok .none .zero
        (((restartForOrder o s.quiet).onOrder o fun r =>
          { r with state := .paid, hold := .none, paidAt := some s.clock, lastOutcome := some .ok, uncertain := false,
                   holdReason := none }).onPrinter p fun q => { q with queue := q.queue ++ [o] }))

/-- R34, R37, R38: CANCEL_ORDER: a DRAFT or PRICED order is CANCELLED; a PAID or PRINTING one loses the copies that remain to be begun and
notes the request, a HELD one loses them, and each meets the settlement trigger if it has finished printing. The result shows the state
reached. What the loss does to an item: nothing remains to be begun of it; with no copy in flight it is DONE, else it stays as it was;
an item DONE or UNPRINTABLE is left alone. -/
def Obligations.CancelOrderByTheOrderState : Prop :=
  (∀ (s : State) (n : SlotId) (rest : List SlotId) (o : OrderId), Heads s .cancelOrder n rest → Names s n o →
    ((s.order o).state = .draft ∨ (s.order o).state = .priced → ∃ t, exec .cancelOrder s = .next t
        ∧ t.order o = { s.order o with state := .cancelled, hold := .none, placement := none, settleStatus := .none, closedAt := some s.clock }
        ∧ t.slot n = { s.slot n with state := .done, tagEcho := hostTag (s.slot n), status := .ok, reason := .none, completedAt := s.clock,
                                     body := .orderState .cancelled }
        ∧ t.intake = rest ∧ t.price.table = s.price.table ∧ t.stock = s.stock ∧ t.apertures = s.apertures
        ∧ ∀ x, x ≠ o → restful (s.order x) = true → t.order x = s.order x)
      ∧ ((s.order o).state = .paid ∨ (s.order o).state = .printing → ∃ u,
          u = settle s.quiet (settlementCheck o
            ((((restartForOrder o (takeSlot n rest s.quiet)).onOrder o fun r =>
              { r with cancelRequested := true, items := r.items.map dropItem })).onNote o fun _ => none))
            ∧ exec .cancelOrder s = .next (closeEvent s.quiet (complete n .ok .none (.orderState (u.order o).state) u)))
      ∧ ((s.order o).state = .held → ∃ u,
          u = settle s.quiet (settlementCheck o
            ((((restartForOrder o (takeSlot n rest s.quiet)).onOrder o fun r => { r with items := r.items.map dropItem })).onNote o
              fun _ => none))
            ∧ exec .cancelOrder s = .next (closeEvent s.quiet (complete n .ok .none (.orderState (u.order o).state) u))))
    ∧ ∀ i : Item,
    (i.state = .done ∨ i.state = .unprintable → dropItem i = i)
      ∧ (i.state = .pending ∨ i.state = .active →
          dropItem i = { i with dropped := true, state := if i.inFlight = 0 then .done else i.state } ∧ remaining (dropItem i) = 0)

/-- R35: the settlement trigger on an order that has finished printing: it leaves its queue and the held list, records its settlement and
goes to SETTLING with a pending settlement, or closes NOTHING_DUE when its total is 0. -/
def Obligations.SettlementTriggerRuns : Prop :=
  ∀ (o : OrderId) (s : State), ((s.order o).state = .paid ∨ (s.order o).state = .printing ∨ (s.order o).state = .held) →
    (∀ i ∈ (s.order o).items, (i.state = .done ∨ i.state = .unprintable) ∧ i.inFlight = 0) →
      (∀ p, o ∉ ((settlementCheck o s).printer p).queue) ∧ o ∉ (settlementCheck o s).heldList
        ∧ (orderTotal (s.order o) ≠ 0 →
            (settlementCheck o s).order o =
              { s.order o with state := .settling, placement := none, holdReason := none, settlement := some (orderSettlement (s.order o)) }
            ∧ { order := o, attempts := 0 } ∈ (settlementCheck o s).terminal.pendingSettlements)
        ∧ (orderTotal (s.order o) = 0 →
            (settlementCheck o s).order o =
              { s.order o with state := .closed, placement := none, holdReason := none, settlement := some (orderSettlement (s.order o)),
                               settleStatus := .nothingDue, closedAt := some s.clock }
            ∧ (settlementCheck o s).terminal = s.terminal)
        ∧ (∀ x, x ≠ o → (settlementCheck o s).order x = s.order x) ∧ (settlementCheck o s).slots = s.slots
        ∧ (settlementCheck o s).price = s.price ∧ (settlementCheck o s).stock = s.stock

/-- R39: RETIRE_ORDER frees the record of a final order, which then reads zero on the order board and whose handle is no longer current,
and takes it from the session list that holds it; the result keeps its last figures. In any other state it completes STATE. -/
def Obligations.RetireFreesAFinalOrder : Prop :=
  ∀ (s : State) (n : SlotId) (rest : List SlotId) (o : OrderId), Heads s .retireOrder n rest → Names s n o →
    ((s.order o).state = .closed ∨ (s.order o).state = .cancelled →
        EndsAs (exec .retireOrder s)
          (answered n rest .ok .none
            (.retired (s.order o).state (s.order o).settleStatus ((s.order o).settlement.getD 0) (s.order o).captured)
            (((restartForOrder o s.quiet).onSession (s.order o).session fun e => { e with orders := e.orders.filter (· != o) }).onOrder o
              fun _ => Order.reset))
        ∧ ∀ t, exec .retireOrder s = .next t →
            (t.order o).state = .free ∧ (∀ a, fieldByte (orderRecord t true o) a = 0) ∧ ∀ h : Handle, h.index = o → t.isCurrent h = false)
      ∧ ((s.order o).state ≠ .closed → (s.order o).state ≠ .cancelled →
          EndsAs (exec .retireOrder s) (answered n rest .state .none (.orderState (s.order o).state) (restartForOrder o s.quiet)))

/-- R29, R64: two expiries: a PRICED order's hold ends and it goes back to DRAFT as EXPIRED; a printer's fault grace ends and its stock and
pending consumption become 0. That the command of a timer that does not run changes nothing, the last two clauses, is the model's choice
(log entry 6). -/
def Obligations.HoldAndGraceExpire : Prop :=
  (∀ (o : OrderId) (s : State) (d : W32), s.part = .run → (s.order o).state = .priced → (s.order o).hold = .running d →
      ThenSettles (exec (.quoteHoldExpiry o) s) s.quiet
        (s.quiet.onOrder o fun r =>
          { r with state := .draft, hold := .none, placement := none, prices := none, draftReason := some .expired }))
    ∧ (∀ (p : PrinterId) (s : State), s.part = .run → (s.entry p).grace.isSome = true →
        ThenSettles (exec (.faultGraceExpiry p) s) s.quiet
          (s.quiet.onEntry p fun _ => { reported := 0, pendingConsumption := 0, grace := none }))
    ∧ (∀ (o : OrderId) (s : State), s.part = .run → (s.order o).state ≠ .priced → exec (.quoteHoldExpiry o) s = .next s.quiet)
    ∧ ∀ (p : PrinterId) (s : State), s.part = .run → (s.entry p).grace = none → exec (.faultGraceExpiry p) s = .next s.quiet

/-! ## The terminal -/

/-- R12, R16, R31, R32, R71, R73: the end of an authorization by its outcome: the order leaves PAYING for PAID, HELD, PRICED or DRAFT, its slot
completes with the outcome, its session's watch restarts, and a failed card starts the payment notice. An approved order without a
placement is tried alone by the choice rule: it is PAID on the printer found, having left the held list, or waits HELD. -/
def Obligations.PaymentOutcomesMoveTheOrder : Prop :=
  ∀ (n : SlotId) (o : OrderId) (outcome : PayOutcome) (approved : Option Nat) (code : Option (List Byte)) (reason : Option Byte) (s : State),
    (outcome = .ok → ∀ p, (s.order o).placement = some p → (∀ q, o ∉ (s.printer q).queue) →
        (endPay n o outcome approved code reason s).order o =
            { s.order o with state := .paid, hold := .none, approved := some (orderTotal (s.order o)), code := some (code.getD []),
                             paidAt := some s.clock, lastOutcome := some .ok, uncertain := false, holdReason := none }
          ∧ ((endPay n o outcome approved code reason s).printer p).queue = (s.printer p).queue ++ [o])
      ∧ (outcome = .ok → (s.order o).placement = none → (∀ p, s.freeRoom p < remainingUnits (s.order o)) →
          (endPay n o outcome approved code reason s).order o =
              { s.order o with state := .held, hold := .none, approved := some (orderTotal (s.order o)), code := some (code.getD []),
                               paidAt := some s.clock, lastOutcome := some .ok, uncertain := false, holdReason := some .noMedia }
            ∧ (endPay n o outcome approved code reason s).heldList = s.heldList.filter (· != o) ++ [o])
      ∧ (∀ p, outcome = .ok → (s.order o).placement = none → remainingUnits (s.order o) ≤ s.freeRoom p →
          (remainingUnits (s.order o) ≤ s.freeRoom (otherPrinter p) →
            s.freeRoom (otherPrinter p) < s.freeRoom p ∨ (s.freeRoom (otherPrinter p) = s.freeRoom p ∧ p = 0)) →
          (endPay n o outcome approved code reason s).order o =
              { s.order o with state := .paid, hold := .none, placement := some p, approved := some (orderTotal (s.order o)),
                               code := some (code.getD []), paidAt := some s.clock, lastOutcome := some .ok, uncertain := false,
                               holdReason := none }
            ∧ ((endPay n o outcome approved code reason s).printer p).queue = (s.printer p).queue.filter (· != o) ++ [o]
            ∧ (endPay n o outcome approved code reason s).heldList = s.heldList.filter (· != o))
      ∧ (outcome ≠ .ok → (s.order o).placement.isSome = true → (∀ i ∈ (s.order o).items, i.state ≠ .unprintable) →
          (endPay n o outcome approved code reason s).order o =
            { s.order o with state := .priced, hold := .running (s.clock + BitVec.ofNat 32 s.timers.quoteHold), reference := none,
                             lastOutcome := some outcome, uncertain := (s.order o).uncertain || outcome == .terminalLost })
      ∧ (outcome ≠ .ok → (s.order o).placement = none ∨ (∃ i ∈ (s.order o).items, i.state = .unprintable) →
          (endPay n o outcome approved code reason s).order o =
            { s.order o with state := .draft, hold := .none, placement := none, prices := none, reference := none,
                             draftReason := some (if (s.order o).placement = none then .noMedia else .unprintable),
                             lastOutcome := some outcome, uncertain := (s.order o).uncertain || outcome == .terminalLost })
      ∧ ((s.slot n).state = .taken →
          ((endPay n o outcome approved code reason s).slot n).state = .done
            ∧ ((endPay n o outcome approved code reason s).slot n).status = outcomeStatus outcome
            ∧ ((endPay n o outcome approved code reason s).slot n).completedAt = s.clock
            ∧ ∀ r, (s.slot n).body = .pay r → ((endPay n o outcome approved code reason s).slot n).body =
                .pay { r with approved := approved, code := code, reason := reason })
      ∧ (∀ k, k = (s.order o).session → (s.session k).state = .active → (s.session k).orders.contains o = true →
          (∀ x ∈ (s.session k).orders, x = o ∨ (s.order x).state ≠ .paying) →
          ((endPay n o outcome approved code reason s).session k).deadline = some (s.clock + BitVec.ofNat 32 s.timers.idle))
      ∧ ((endPay n o outcome approved code reason s).station (s.order o).station).notice =
          (if outcome = .declined ∨ outcome = .short ∨ outcome = .timedOut ∨ outcome = .terminalLost then some (s.clock + 10#32)
           else (s.station (s.order o).station).notice)
      ∧ (∀ x, x ≠ o → (endPay n o outcome approved code reason s).order x = s.order x)
      ∧ (∀ m, m ≠ n → (endPay n o outcome approved code reason s).slot m = s.slot m)
      ∧ (endPay n o outcome approved code reason s).terminal = s.terminal ∧ (endPay n o outcome approved code reason s).price = s.price
      ∧ (endPay n o outcome approved code reason s).stock = s.stock ∧ (endPay n o outcome approved code reason s).bays = s.bays

/-- R129, R134 to R139, R141, R142: the frames that meet an authorization. While a PAY stands behind it, an answer ends the PAY with its
outcome, an approval of another amount as SHORT with a void of what was approved; otherwise only an approval does anything, and is voided.
The first CARD_WAIT stops the card-wait limit. A READY loses an exchange whose card was seen, and abandons an aborting one to the void list.
A frame of another kind or reference is stray, and so is READY here (log entry 19); a stray CAPTURED may be a late capture, by a list of
references that is the model's own. That list and the reason kept for a REFUSED that answers an ABORT are log entry 20's. -/
def Obligations.AuthorizationEndsByItsAnswer : Prop :=
  ∀ (s : State) (h : Holder), s.part = .run → s.terminal.state = .authorizing → s.terminal.holder = some h → h.kind = .authorization →
    (∀ (n : SlotId) (o : OrderId), h.slot = some n → h.order = some o →
      (∀ (amount : W32) (code : List Byte), amount.toNat = h.amount →
          ThenSettles (exec (.approved h.reference amount code) s) s.quiet
            ((endPay n o .ok (some h.amount) (some code) none (terminalWatched s.quiet)).onTerminal fun t =>
              { t with state := .idle, holder := none, till := { t.till with approvals := t.till.approvals.add h.amount } }))
        ∧ (∀ (amount : W32) (code : List Byte), amount.toNat ≠ h.amount →
            ThenSettles (exec (.approved h.reference amount code) s) s.quiet
              (startFollowUp h.reference amount.toNat
                (endPay n o .short (some amount.toNat) (some code) none (terminalWatched s.quiet))))
        ∧ (∀ reason : Byte, ThenSettles (exec (.declined h.reference reason) s) s.quiet
            ((endPay n o .declined none none (some reason) (terminalWatched s.quiet)).onTerminal fun t =>
              { t with state := .idle, holder := none }))
        ∧ ThenSettles (exec (.timedOut h.reference) s) s.quiet
            ((endPay n o .timedOut none none none (terminalWatched s.quiet)).onTerminal fun t => { t with state := .idle, holder := none })
        ∧ ThenSettles (exec (.aborted h.reference) s) s.quiet
            ((endPay n o (if h.exchange = .opened then .aborted else .cancelled) none none none (terminalWatched s.quiet)).onTerminal fun t =>
              { t with state := .idle, holder := none })
        ∧ (∀ reason : Byte, h.exchange = .opened → ThenSettles (exec (.refused h.reference reason) s) s.quiet
            ((endPay n o .declined none none (some 0) (terminalWatched s.quiet)).onTerminal fun t =>
              { t with state := .idle, holder := none }))
        ∧ (∀ reason : Byte, h.exchange = .aborting → reason = 1 ∨ reason = 2 ∨ reason = 3 →
            ThenSettles (exec (.refused h.reference reason) s) s.quiet
              ((endPay n o .cancelled none none (some reason) (terminalWatched s.quiet)).onTerminal fun t =>
                { t with state := .idle, holder := none }))
        ∧ (h.exchange = .opened → h.cardSeen = true → ThenSettles (exec .ready s) s.quiet
            ((joinVoid h.reference h.amount 0 (endPay n o .terminalLost none none none (strayFrame s.quiet))).onTerminal fun t =>
              { t with state := .idle, holder := none, latched := { t.latched with authLost := true } }))
        ∧ (h.exchange = .opened → h.cardSeen = false → ThenSettles (exec .ready s) s.quiet (strayFrame s.quiet))
        ∧ (h.exchange = .aborting → ThenSettles (exec .ready s) s.quiet
            ((joinVoid h.reference h.amount 0 (endPay n o .cancelled none none none (strayFrame s.quiet))).onTerminal fun t =>
              { t with state := .idle, holder := none })))
      ∧ (h.slot = none →
          (∀ (amount : W32) (code : List Byte),
              ThenSettles (exec (.approved h.reference amount code) s) s.quiet
                (startFollowUp h.reference amount.toNat (terminalWatched s.quiet)))
            ∧ (∀ reason : Byte, ThenSettles (exec (.declined h.reference reason) s) s.quiet
                ((terminalWatched s.quiet).onTerminal fun t => { t with state := .idle, holder := none }))
            ∧ ThenSettles (exec (.timedOut h.reference) s) s.quiet
                ((terminalWatched s.quiet).onTerminal fun t => { t with state := .idle, holder := none })
            ∧ ThenSettles (exec (.aborted h.reference) s) s.quiet
                ((terminalWatched s.quiet).onTerminal fun t => { t with state := .idle, holder := none })
            ∧ (∀ reason : Byte, ThenSettles (exec (.refused h.reference reason) s) s.quiet
                ((terminalWatched s.quiet).onTerminal fun t => { t with state := .idle, holder := none }))
            ∧ (h.exchange = .aborting → ThenSettles (exec .ready s) s.quiet
                ((joinVoid h.reference h.amount 0 (strayFrame s.quiet)).onTerminal fun t => { t with state := .idle, holder := none })))
      ∧ (∀ (amount : Nat) (u : State), startFollowUp h.reference amount u =
          { u with
            terminal := { u.terminal with
              state := .settling,
              holder := some { kind := .followUpVoid, reference := h.reference, amount := amount, exchange := .answerWait, order := none,
                               slot := none, attempts := 0, cardSeen := false, cardWaitLimit := none, authorizationLimit := none,
                               abortLimit := none, answerLimit := some (u.clock + 5#32) } },
            out := u.out ++ [.void h.reference] })
      ∧ EndsAs (exec (.cardWait h.reference) s)
          ((terminalWatched s.quiet).onTerminal fun t => { t with holder := some { h with cardSeen := true, cardWaitLimit := none } })
      ∧ (∀ ref, ref ≠ h.reference → EndsAs (exec (.cardWait ref) s) (strayFrame s.quiet))
      ∧ (∀ (ref : W16) (amount : W32) (code : List Byte) (reason : Byte) (c : Instr),
          c = .voided ref ∨ (ref ≠ h.reference ∧ (c = .approved ref amount code ∨ c = .declined ref reason ∨ c = .timedOut ref
            ∨ c = .aborted ref ∨ c = .refused ref reason)) →
          ThenSettles (exec c s) s.quiet (strayFrame s.quiet))
      ∧ ∀ (ref : W16) (amount : W32),
          (ref ∉ s.terminal.uncollectedReferences → ThenSettles (exec (.captured ref amount) s) s.quiet (strayFrame s.quiet))
            ∧ (ref ∈ s.terminal.uncollectedReferences → ThenSettles (exec (.captured ref amount) s) s.quiet
                ((strayFrame s.quiet).onTerminal fun t => { t with counts := { t.counts with lateCaptures := bump t.counts.lateCaptures } }))

/-- R10, R36, R129, R135, R136, R141, R142, R144: the answers to a capture or a void close the order with its settle status, or end the void;
the till counts what the terminal confirmed. BAD_AMOUNT is no answer to a list void, and counts as an attempt. A frame that does not answer
the exchange is stray, and so is READY here (log entry 19). A CAPTURED for an order closed UNCOLLECTED, kept in a list that is the model's
own (log entry 20), is counted late as well. -/
def Obligations.SettlementEndsByItsAnswer : Prop :=
  (∀ (s : State) (h : Holder), s.part = .run → s.terminal.state = .settling → s.terminal.holder = some h →
    (∀ (o : OrderId) (amount : W32), h.kind = .settlement → h.order = some o → 0 < h.amount → amount.toNat = h.amount →
        ThenSettles (exec (.captured h.reference amount) s) s.quiet
          ((closeOrder o .captured (terminalWatched s.quiet)).onTerminal fun t =>
            { t with state := .idle, holder := none, till := { t.till with captures := t.till.captures.add h.amount } }))
      ∧ (∀ o : OrderId, h.kind = .settlement → h.order = some o → h.amount = 0 →
          ThenSettles (exec (.voided h.reference) s) s.quiet
            ((closeOrder o .voided (terminalWatched s.quiet)).onTerminal fun t =>
              { t with state := .idle, holder := none,
                       till := { t.till with voids := t.till.voids.add ((s.order o).approved.getD 0) } }))
      ∧ (h.kind = .followUpVoid → ThenSettles (exec (.voided h.reference) s) s.quiet
          ((terminalWatched s.quiet).onTerminal fun t =>
            { t with state := .idle, holder := none, till := { t.till with voids := t.till.voids.add h.amount } }))
      ∧ (h.kind = .listVoid → ThenSettles (exec (.voided h.reference) s) s.quiet
          ((terminalWatched s.quiet).onTerminal fun t =>
            { t with state := .idle, holder := none, voidList := t.voidList.filter (·.reference != h.reference),
                     till := { t.till with voids := t.till.voids.add h.amount } }))
      ∧ (∀ (o : OrderId) (reason : Byte), h.kind = .settlement → h.order = some o → 0 < h.amount →
          ThenSettles (exec (.refused h.reference reason) s) s.quiet
            ((closeOrder o .uncollected (terminalWatched s.quiet)).onTerminal fun t =>
              { t with state := .idle, holder := none, till := { t.till with uncollected := t.till.uncollected.add h.amount },
                       latched := { t.latched with uncollected := true },
                       uncollectedReferences := joinOnce h.reference t.uncollectedReferences }))
      ∧ (∀ (o : OrderId) (reason : Byte), h.kind = .settlement → h.order = some o → h.amount = 0 →
          ThenSettles (exec (.refused h.reference reason) s) s.quiet
            ((closeOrder o .voided (terminalWatched s.quiet)).onTerminal fun t => { t with state := .idle, holder := none }))
      ∧ (∀ reason : Byte, h.kind = .listVoid → reason ≠ 3#8 → ThenSettles (exec (.refused h.reference reason) s) s.quiet
          ((terminalWatched s.quiet).onTerminal fun t =>
            { t with state := .idle, holder := none, voidList := t.voidList.filter (·.reference != h.reference) }))
      ∧ (∀ reason : Byte, h.kind = .followUpVoid → ThenSettles (exec (.refused h.reference reason) s) s.quiet
          ((terminalWatched s.quiet).onTerminal fun t => { t with state := .idle, holder := none }))
      ∧ (h.kind = .listVoid → h.attempts < 2 → ThenSettles (exec (.refused h.reference 3#8) s) s.quiet
          ((terminalWatched s.quiet).onTerminal fun t =>
            { t with state := .idle, holder := none,
                     voidList := t.voidList.map fun e => if e.reference = h.reference then { e with attempts := h.attempts + 1 } else e }))
      ∧ (h.kind = .listVoid → 2 ≤ h.attempts → ThenSettles (exec (.refused h.reference 3#8) s) s.quiet
          ((terminalWatched s.quiet).onTerminal fun t =>
            { t with state := .idle, holder := none, voidList := t.voidList.filter (·.reference != h.reference),
                     till := { t.till with abandoned := t.till.abandoned.add h.amount },
                     latched := { t.latched with voidAbandoned := true } }))
      ∧ (∀ ref, h.kind ≠ .authorization ∨ ref ≠ h.reference → EndsAs (exec (.cardWait ref) s) (strayFrame s.quiet))
      ∧ (∀ (ref : W16) (amount : W32) (code : List Byte) (reason : Byte) (c : Instr),
          (h.kind ≠ .authorization ∧ (c = .ready ∨ c = .approved ref amount code ∨ c = .declined ref reason ∨ c = .timedOut ref
              ∨ c = .aborted ref))
            ∨ (ref ≠ h.reference ∧ (c = .voided ref ∨ c = .refused ref reason ∨ c = .approved ref amount code ∨ c = .declined ref reason
                ∨ c = .timedOut ref ∨ c = .aborted ref))
            ∨ (h.kind = .settlement ∧ 0 < h.amount ∧ c = .voided ref) →
          ThenSettles (exec c s) s.quiet (strayFrame s.quiet))
      ∧ ∀ (ref : W16) (amount : W32), ref ≠ h.reference ∨ h.kind ≠ .settlement ∨ h.amount = 0 ∨ amount.toNat ≠ h.amount →
          (ref ∉ s.terminal.uncollectedReferences → ThenSettles (exec (.captured ref amount) s) s.quiet (strayFrame s.quiet))
            ∧ (ref ∈ s.terminal.uncollectedReferences → ThenSettles (exec (.captured ref amount) s) s.quiet
                ((strayFrame s.quiet).onTerminal fun t => { t with counts := { t.counts with lateCaptures := bump t.counts.lateCaptures } })))
    ∧ (∀ (o : OrderId) (how : SettleStatus) (s : State),
        (closeOrder o how s).order o =
            { s.order o with state := .closed, settleStatus := how,
                             captured := if how = .captured then (s.order o).settlement.getD 0 else 0, reference := none,
                             closedAt := some s.clock }
          ∧ ((s.session (s.order o).session).state = .draining → (s.session (s.order o).session).orders.contains o = true →
              (∀ x ∈ (s.session (s.order o).session).orders, x = o ∨ nonFinal (s.order x) = false) →
              ((closeOrder o how s).session (s.order o).session).state = .free))
    ∧ ∀ (ref x : W16) (l : List W16), x ∈ joinOnce ref l ↔ x = ref ∨ x ∈ l

/-- R127, R129, R133, R134, R136 to R140, R142, R144: the limits of an exchange and the terminal's link watch: an authorization without its
card, its answer or its link is lost or abandoned to the void list, a timed-out one is aborted; a settlement is tried three times, then
closes UNCOLLECTED, or joins the void list if nothing was due; a void is counted abandoned after three. Link loss ends the holding by its
holder and every waiting PAY, ABORTED. READY brings the terminal back; any other frame that finds no exchange is stray; a discarded frame
is only counted. A CAPTURED is counted late by log entry 20. -/
def Obligations.ExchangeLimitsRunOut : Prop :=
  (∀ (s : State) (h : Holder), s.part = .run → s.terminal.holder = some h →
    (∀ n o, h.cardWaitLimit.isSome = true → h.slot = some n → h.order = some o →
        ThenSettles (exec .cardWaitLimitExpiry s) s.quiet
          ((joinVoid h.reference h.amount 0 (endPay n o .terminalLost none none none s.quiet)).onTerminal fun t =>
            { t with state := .idle, holder := none, latched := { t.latched with authLost := true } }))
      ∧ (∀ n o, h.authorizationLimit.isSome = true → h.exchange = .opened → h.slot = some n → h.order = some o →
          ThenSettles (exec .authorizationLimitExpiry s) s.quiet
            ((endPay n o .timedOut none none none (s.quiet.emit (.abort h.reference))).onTerminal fun t =>
              { t with holder := some { h with exchange := .aborting, order := none, slot := none, cardWaitLimit := none,
                                               authorizationLimit := none, abortLimit := some (s.clock + 5#32) } }))
      ∧ (∀ n o, h.authorizationLimit.isSome = true → h.exchange = .aborting → h.slot = some n → h.order = some o →
          ThenSettles (exec .authorizationLimitExpiry s) s.quiet
            ((joinVoid h.reference h.amount 0 (endPay n o .cancelled none none none s.quiet)).onTerminal fun t =>
              { t with state := .idle, holder := none }))
      ∧ (∀ n o, h.abortLimit.isSome = true → h.slot = some n → h.order = some o →
          ThenSettles (exec .terminalAbortAnswerExpiry s) s.quiet
            ((joinVoid h.reference h.amount 0 (endPay n o .cancelled none none none s.quiet)).onTerminal fun t =>
              { t with state := .idle, holder := none }))
      ∧ (h.abortLimit.isSome = true → h.slot = none →
          ThenSettles (exec .terminalAbortAnswerExpiry s) s.quiet
            ((joinVoid h.reference h.amount 0 s.quiet).onTerminal fun t => { t with state := .idle, holder := none }))
      ∧ (∀ o, h.answerLimit.isSome = true → h.kind = .settlement → h.order = some o → h.attempts < 2 →
          ThenSettles (exec .answerLimitExpiry s) s.quiet
            (s.quiet.onTerminal fun t =>
              { t with state := .idle, holder := none,
                       pendingSettlements := insertSettlement { order := o, attempts := h.attempts + 1 } t.pendingSettlements }))
      ∧ (∀ o, h.answerLimit.isSome = true → h.kind = .settlement → h.order = some o → 2 ≤ h.attempts → 0 < h.amount →
          ThenSettles (exec .answerLimitExpiry s) s.quiet
            ((closeOrder o .uncollected s.quiet).onTerminal fun t =>
              { t with state := .idle, holder := none, till := { t.till with uncollected := t.till.uncollected.add h.amount },
                       latched := { t.latched with uncollected := true },
                       uncollectedReferences := joinOnce h.reference t.uncollectedReferences }))
      ∧ (∀ o, h.answerLimit.isSome = true → h.kind = .settlement → h.order = some o → 2 ≤ h.attempts → h.amount = 0 →
          ThenSettles (exec .answerLimitExpiry s) s.quiet
            (joinVoid h.reference ((s.order o).approved.getD 0) 0
              ((closeOrder o .voided s.quiet).onTerminal fun t => { t with state := .idle, holder := none })))
      ∧ (h.answerLimit.isSome = true → h.kind = .followUpVoid →
          ThenSettles (exec .answerLimitExpiry s) s.quiet
            ((joinVoid h.reference h.amount 1 s.quiet).onTerminal fun t => { t with state := .idle, holder := none }))
      ∧ (h.answerLimit.isSome = true → h.kind = .listVoid → h.attempts < 2 →
          ThenSettles (exec .answerLimitExpiry s) s.quiet
            (s.quiet.onTerminal fun t =>
              { t with state := .idle, holder := none,
                       voidList := t.voidList.map fun e => if e.reference = h.reference then { e with attempts := h.attempts + 1 } else e }))
      ∧ (h.answerLimit.isSome = true → h.kind = .listVoid → 2 ≤ h.attempts →
          ThenSettles (exec .answerLimitExpiry s) s.quiet
            (s.quiet.onTerminal fun t =>
              { t with state := .idle, holder := none, voidList := t.voidList.filter (·.reference != h.reference),
                       till := { t.till with abandoned := t.till.abandoned.add h.amount },
                       latched := { t.latched with voidAbandoned := true } })))
    ∧ (∀ s lost : State, s.part = .run → s.terminal.watch.isSome = true →
    (s.terminal.holder = none ∧ lost = s.quiet)
      ∨ (∃ h, s.terminal.holder = some h ∧
          ((∃ n o, h.kind = .authorization ∧ h.slot = some n ∧ h.order = some o
              ∧ lost = (joinVoid h.reference h.amount 0 (endPay n o .terminalLost none none none s.quiet)).onTerminal fun t =>
                  { t with latched := { t.latched with authLost := true } })
            ∨ ((h.kind = .authorization ∧ h.slot = none ∨ h.kind = .followUpVoid) ∧ lost = joinVoid h.reference h.amount 0 s.quiet)
            ∨ (∃ o, h.kind = .settlement ∧ h.order = some o ∧ lost = s.quiet.onTerminal fun t =>
                  { t with pendingSettlements := insertSettlement { order := o, attempts := h.attempts } t.pendingSettlements })
            ∨ (h.kind = .listVoid ∧ lost = s.quiet))) →
    ThenSettles (exec .terminalLinkWatchExpiry s) s.quiet
      ((s.terminal.waitList.foldl (fun u e => endPay e.slot e.order .aborted none none none u)
        (lost.onTerminal fun t =>
          { t with state := .offline, watch := none, holder := none, linkHeard := false, waitList := [],
                   linkChangedAt := if t.linkHeard then some s.clock else t.linkChangedAt })).onTerminal fun t =>
        { t with linkSilentLive := true, latched := { t.latched with linkSilent := true } }))
    ∧ ∀ s : State, s.part = .run →
    (s.terminal.state = .absent ∨ s.terminal.state = .offline →
        ThenSettles (exec .ready s) s.quiet
          (s.quiet.onTerminal fun t =>
            { t with state := .idle, watch := some (s.clock + 3#32), linkHeard := true,
                     linkChangedAt := if t.linkHeard then t.linkChangedAt else some s.clock, linkSilentLive := false }))
      ∧ (s.terminal.state = .idle → ThenSettles (exec .ready s) s.quiet (terminalWatched s.quiet))
      ∧ (∀ raw gap, EndsAs (exec (.terminalFrameDiscarded raw gap) s)
          (s.quiet.onTerminal fun t => { t with counts := { t.counts with discarded := bump t.counts.discarded } }))
      ∧ (s.terminal.state = .idle ∨ s.terminal.state = .absent ∨ s.terminal.state = .offline →
          ∀ (ref : W16) (amount : W32) (code : List Byte) (reason : Byte),
            EndsAs (exec (.cardWait ref) s) (strayFrame s.quiet)
              ∧ (∀ c ∈ [Instr.approved ref amount code, .declined ref reason, .timedOut ref, .aborted ref, .voided ref, .refused ref reason],
                  ThenSettles (exec c s) s.quiet (strayFrame s.quiet))
              ∧ (ref ∉ s.terminal.uncollectedReferences → ThenSettles (exec (.captured ref amount) s) s.quiet (strayFrame s.quiet))
              ∧ (ref ∈ s.terminal.uncollectedReferences → ThenSettles (exec (.captured ref amount) s) s.quiet
                  ((strayFrame s.quiet).onTerminal fun t =>
                    { t with counts := { t.counts with lateCaptures := bump t.counts.lateCaptures } })))

/-- R130, R131, R134, R141, R143, R144: what an IDLE terminal takes up: the head of the pending settlements, which are kept in ascending
order index, else the oldest void, else the oldest PAY. That PAY takes the first reference from the counter on that no order has, with the
void list empty and no exchange in progress; the counter goes on from there, AUTHORIZE goes out with the reference, the quoted total and the
fixed currency, and the PAY's result takes the reference, the amount and the CLOCK. That live values are skipped at the grant, and not when the
counter advances, is the model's choice (log entry 43). A reference joins the void list once; of 17 entries the
oldest that does not hold the terminal is dropped and counted abandoned. -/
def Obligations.ArbiterAndVoidListInOrder : Prop :=
  (∀ s : State, s.terminal.state ≠ .idle ∨ s.terminal.holder.isSome = true → arbiter s = s)
    ∧ (∀ (s : State) (e : PendingSettlement) (rest : List PendingSettlement) (ref : W16) (amount : Nat), s.terminal.state = .idle →
        s.terminal.holder = none → s.terminal.pendingSettlements = e :: rest → (s.order e.order).reference = some ref →
        (s.order e.order).settlement = some amount →
        (arbiter s).terminal.state = .settling ∧ (arbiter s).terminal.pendingSettlements = rest
          ∧ (∃ h, (arbiter s).terminal.holder = some h ∧ h.kind = .settlement ∧ h.reference = ref ∧ h.amount = amount
              ∧ h.order = some e.order ∧ h.attempts = e.attempts ∧ h.answerLimit = some (s.clock + 5#32))
          ∧ (arbiter s).out = s.out ++ [if 0 < amount then .capture ref amount else .void ref])
    ∧ (∀ (s : State) (e : VoidEntry) (rest : List VoidEntry), s.terminal.state = .idle → s.terminal.holder = none →
        s.terminal.pendingSettlements = [] → s.terminal.voidList = e :: rest →
        (arbiter s).terminal.state = .settling ∧ (arbiter s).terminal.voidList = s.terminal.voidList
          ∧ (∃ h, (arbiter s).terminal.holder = some h ∧ h.kind = .listVoid ∧ h.reference = e.reference ∧ h.amount = e.amount
              ∧ h.attempts = e.attempts ∧ h.answerLimit = some (s.clock + 5#32))
          ∧ (arbiter s).out = s.out ++ [.void e.reference])
    ∧ (∀ (s : State) (e : PayEntry) (rest : List PayEntry), s.terminal.state = .idle → s.terminal.holder = none →
        s.terminal.pendingSettlements = [] → s.terminal.voidList = [] → s.terminal.waitList = e :: rest →
        (s.order e.order).state = .paying → s.terminal.nextReference ≠ 0 →
        (arbiter s).terminal.state = .authorizing ∧ (arbiter s).terminal.waitList = rest
          ∧ ∃ h ref, (arbiter s).terminal.holder = some h ∧ h.kind = .authorization ∧ h.reference = ref ∧ ref ≠ 0
              ∧ (∀ o, (s.order o).reference ≠ some ref) ∧ h.amount = orderTotal (s.order e.order) ∧ h.order = some e.order
              ∧ h.slot = some e.slot ∧ h.exchange = .opened ∧ h.cardWaitLimit = some (s.clock + 2#32)
              ∧ h.authorizationLimit = some (s.clock + BitVec.ofNat 32 s.timers.authorization)
              ∧ (arbiter s).order e.order = { s.order e.order with reference := some ref }
              ∧ (∃ (tried : Nat → W16) (skipped : Nat), tried 0 = s.terminal.nextReference
                ∧ (∀ k, tried (k + 1) = if tried k = 0xFFFF#16 then 1#16 else tried k + 1) ∧ ref = tried skipped
                ∧ ∀ k, k < skipped → ∃ o, (s.order o).reference = some (tried k))
              ∧ (arbiter s).terminal.nextReference = (if ref = 0xFFFF#16 then 1#16 else ref + 1)
              ∧ (arbiter s).out = s.out ++
                  [.authorize ref (orderTotal (s.order e.order)) (((s.order e.order).prices.map (·.currency)).getD 0)]
              ∧ ((s.slot e.slot).state = .taken → ((arbiter s).slot e.slot).body =
                  .pay { reference := ref, asked := orderTotal (s.order e.order), approved := none, code := none, reason := none,
                         granted := some s.clock }))
    ∧ (∀ (e : PendingSettlement) (l : List PendingSettlement), l.Pairwise (fun a b => a.order ≤ b.order) →
        (insertSettlement e l).Pairwise (fun a b => a.order ≤ b.order)
          ∧ (∀ x, x ∈ insertSettlement e l ↔ x = e ∨ x ∈ l) ∧ (insertSettlement e l).length = l.length + 1
          ∧ ∀ first rest, insertSettlement e l = first :: rest → ∀ x ∈ e :: l, first.order ≤ x.order)
    ∧ ∀ (s : State) (ref : W16) (amount attempts : Nat),
        ((∃ e ∈ s.terminal.voidList, e.reference = ref) → joinVoid ref amount attempts s = s)
          ∧ ((∀ e ∈ s.terminal.voidList, e.reference ≠ ref) → s.terminal.voidList.length < 16 →
              joinVoid ref amount attempts s = s.onTerminal fun t =>
                { t with voidList := t.voidList ++ [{ reference := ref, amount := amount, attempts := attempts }] })
          ∧ (∀ e rest, (∀ h, s.terminal.holder = some h → h.kind ≠ .listVoid) → s.terminal.voidList = e :: rest → (∀ x ∈ rest, x.reference ≠ e.reference) →
              (∀ x ∈ s.terminal.voidList, x.reference ≠ ref) → 16 ≤ s.terminal.voidList.length →
              joinVoid ref amount attempts s = s.onTerminal fun t =>
                { t with voidList := rest ++ [{ reference := ref, amount := amount, attempts := attempts }],
                         till := { t.till with abandoned := t.till.abandoned.add e.amount },
                         latched := { t.latched with voidAbandoned := true } })
          ∧ ∀ h e d rest, s.terminal.holder = some h → h.kind = .listVoid → h.reference = e.reference →
              s.terminal.voidList = e :: d :: rest → d.reference ≠ e.reference →
              (∀ x ∈ rest, x.reference ≠ d.reference) → (∀ x ∈ s.terminal.voidList, x.reference ≠ ref) →
              16 ≤ s.terminal.voidList.length →
              joinVoid ref amount attempts s = s.onTerminal fun t =>
                { t with voidList := e :: (rest ++ [{ reference := ref, amount := amount, attempts := attempts }]),
                         till := { t.till with abandoned := t.till.abandoned.add d.amount },
                         latched := { t.latched with voidAbandoned := true } }

/-! ## Card bays -/

/-- R111, R112, R152: READ_CARD. Its areas: its own bay, a block count above 0, room for every block in SINGLE, a good chunk and two buffers
apart in ALTERNATE, each area in one ACTIVE aperture that allows WRITE. The request: RANGE for a bad area or a run past the card's end,
STATE by session and bay, STALE_CARD for another generation, BUSY with four reads waiting; else the read joins the queue, and at a bay
without an active read it starts with READ_RUN. Which fields the result then shows, the current target of an ALTERNATE read present and the
rest absent, is the model's reading (log entry 26): R111 names the generation and the serial alone. -/
def Obligations.ReadCardChecksAndStarts : Prop :=
  (∀ (s : State) (i : StationId) (c : Slot),
    (reqByte c 16 ≠ i.val ∨ reqField c 24 2 = 0 ∨ 1 < reqByte c 17 → readAreasOf s i c = none)
      ∧ (reqByte c 16 = i.val → reqField c 24 2 ≠ 0 → reqByte c 17 = 0 →
          (reqField c 40 4 < reqField c 24 2 * 512 → readAreasOf s i c = none)
            ∧ (s.findAperture .write (reqField c 32 8) (reqField c 40 4) = none → readAreasOf s i c = none)
            ∧ ∀ a, reqField c 24 2 * 512 ≤ reqField c 40 4 → s.findAperture .write (reqField c 32 8) (reqField c 40 4) = some a →
                readAreasOf s i c =
                  some { mode := .single, addressA := reqField c 32 8, apertureA := a, addressB := 0, apertureB := 0, chunk := 0 })
      ∧ (reqByte c 16 = i.val → reqField c 24 2 ≠ 0 → reqByte c 17 = 1 →
          (reqField c 28 4 % 4096 ≠ 0 ∨ reqField c 28 4 < 4096 ∨ 1048576 < reqField c 28 4 → readAreasOf s i c = none)
            ∧ (reqField c 32 8 < reqField c 48 8 + reqField c 28 4 → reqField c 48 8 < reqField c 32 8 + reqField c 28 4 →
                readAreasOf s i c = none)
            ∧ (s.findAperture .write (reqField c 32 8) (reqField c 28 4) = none
                ∨ s.findAperture .write (reqField c 48 8) (reqField c 28 4) = none → readAreasOf s i c = none)
            ∧ ∀ a b, reqField c 28 4 % 4096 = 0 → 4096 ≤ reqField c 28 4 → reqField c 28 4 ≤ 1048576 →
                reqField c 48 8 + reqField c 28 4 ≤ reqField c 32 8 ∨ reqField c 32 8 + reqField c 28 4 ≤ reqField c 48 8 →
                s.findAperture .write (reqField c 32 8) (reqField c 28 4) = some a →
                s.findAperture .write (reqField c 48 8) (reqField c 28 4) = some b →
                readAreasOf s i c =
                  some { mode := .alternate, addressA := reqField c 32 8, apertureA := a, addressB := reqField c 48 8, apertureB := b,
                         chunk := reqField c 28 4 }))
    ∧ ∀ (s : State) (n : SlotId) (rest : List SlotId) (i : StationId), Heads s .readCard n rest → stationField (s.slot n) = i.val →
    reqByte (s.slot n) 16 ≤ 3 →
    (readAreasOf s i (s.slot n) = none → EndsAs (exec .readCard s) (answered n rest .range .none .zero (restartForStation i s.quiet)))
      ∧ ∀ a, readAreasOf s i (s.slot n) = some a →
        ((s.station i).session = none → EndsAs (exec .readCard s) (answered n rest .state .noSession .zero s.quiet))
          ∧ ((s.station i).session.isSome = true →
            ((s.bay i).state = .empty ∨ (s.bay i).state = .settling →
                EndsAs (exec .readCard s) (answered n rest .state .noCard .zero (restartForStation i s.quiet)))
              ∧ ((s.bay i).state = .identifying →
                  EndsAs (exec .readCard s) (answered n rest .state .identifying .zero (restartForStation i s.quiet)))
              ∧ ((s.bay i).state = .faulted →
                  EndsAs (exec .readCard s) (answered n rest .state .bayFaulted .zero (restartForStation i s.quiet)))
              ∧ ((s.bay i).state = .ready ∨ (s.bay i).state = .reading →
                (reqField (s.slot n) 18 2 ≠ (s.bay i).generation.toNat →
                    EndsAs (exec .readCard s) (answered n rest .staleCard .none .zero (restartForStation i s.quiet)))
                  ∧ ∀ card, (s.bay i).card = some card → reqField (s.slot n) 18 2 = (s.bay i).generation.toNat →
                    (card.capacity < reqField (s.slot n) 20 4 + reqField (s.slot n) 24 2 →
                        EndsAs (exec .readCard s) (answered n rest .range .none .zero (restartForStation i s.quiet)))
                      ∧ (reqField (s.slot n) 20 4 + reqField (s.slot n) 24 2 ≤ card.capacity →
                        (4 ≤ (s.bay i).waiting.length →
                            EndsAs (exec .readCard s) (answered n rest .busy .none .zero (restartForStation i s.quiet)))
                          ∧ ∀ read result, read = newRead n s i a (s.slot n) →
                              result = ReadResult.mk (s.bay i).generation card.serial 0 0 0 none none none none none →
                            (∀ r, (s.bay i).waiting.length < 4 → (s.bay i).active = some r →
                                EndsAs (exec .readCard s)
                                  (begun n rest (fun _ => .read result)
                                    ((restartForStation i s.quiet).onBay i fun y => { y with waiting := y.waiting ++ [read] })))
                              ∧ ((s.bay i).active = none → (s.bay i).waiting = [] →
                                  EndsAs (exec .readCard s)
                                    ((begun n rest (fun _ => .read { result with target := if a.mode = .alternate then some .a else none })
                                      ((restartForStation i s.quiet).onBay i fun y =>
                                        { y with state := .reading, active := some read, half0 := Half.reset, half1 := Half.reset,
                                                 run := .running, block := .running 250, giveBackWait := false, waitLength := 0,
                                                 waitLimit := false })).emit (.readRun i (reqField (s.slot n) 20 4)))))))

/-- R4, R5, R103 to R107, R119, R121: a card: the contact closing starts settling; its end accepts the arrival with the next generation and asks
for the identity, and the station's session restarts, or one opens in the lowest FREE entry, or the station has no room; a good answer makes
the bay READY, a second failure FAULTED; an answer outside the limit is discarded (that one after the first limit is taken as the answer to
the second IDENTIFY is the model's choice, log entry 39). The contact opening takes the card away: the waiting reads complete CARD_GONE, the
active one ends CARD_GONE, or with the cause it was marked with, with no HALT: its FILLING half is dropped, its FULL halves stay to be written
for CARD_GONE where they need not wait, and it completes at once if nothing is left to write. A read that ends already, or that has passed its
last boundary with no half waiting, is left alone. That a marked read ends so at once with the cause that marked it, where R121 says CARD_GONE
of every read, is the model's reading (log entry 25), and so is that outside RUN a contact event moves the pin alone (log entry 9). -/
def Obligations.CardsArriveAndAreIdentified : Prop :=
  (∀ (b : BayId) (s : State), s.part = .run →
    ((s.bay b).state = .empty → EndsAs (exec (.contactClose b) s)
        { (s.quiet.onBay b fun y => { y with contact := true, state := .settling, settle := .running 250 }) with
          contactPins := s.contactPins.set b.val true })
      ∧ ((s.bay b).state ≠ .empty → EndsAs (exec (.contactClose b) s) { s.quiet with contactPins := s.contactPins.set b.val true })
      ∧ ((s.bay b).state = .empty → EndsAs (exec (.contactOpen b) s) { s.quiet with contactPins := s.contactPins.set b.val false })
      ∧ ((s.bay b).state = .settling → EndsAs (exec (.contactOpen b) s)
          { (s.quiet.onBay b fun y => { y with contact := false, state := .empty, settle := .stopped }) with
            contactPins := s.contactPins.set b.val false })
      ∧ ((s.bay b).state ≠ .empty → (s.bay b).state ≠ .settling → ∃ u,
          ThenSettles (exec (.contactOpen b) s) { s.quiet with contactPins := s.contactPins.set b.val false } u
            ∧ (u.bay b).state = .empty ∧ (u.bay b).card = none ∧ (u.bay b).contact = false ∧ (u.bay b).identify = .stopped
            ∧ (u.bay b).waiting = [] ∧ (u.bay b).generation = (s.bay b).generation
            ∧ ((u.bay b).latched.removedDuringRead = true ↔ (s.bay b).latched.removedDuringRead = true
                ∨ (s.bay b).active.isSome = true ∧ ((s.bay b).half0.state = .filling ∨ (s.bay b).half1.state = .filling))
            ∧ (∀ r ∈ (s.bay b).waiting, (s.slot r.slot).state = .taken →
                (u.slot r.slot).state = .done ∧ (u.slot r.slot).status = .cardGone)
            ∧ u.out = []
            ∧ (∀ r, (s.bay b).active = some r → r.ended.isSome = true ∨ (r.accepted = r.count ∧ (s.bay b).giveBackWait = false) →
                (u.bay b).active = some r ∧ (u.bay b).half0 = (s.bay b).half0 ∧ (u.bay b).half1 = (s.bay b).half1)
            ∧ (∀ r cause st final, (s.bay b).active = some r → r.ended = none → r.accepted ≠ r.count ∨ (s.bay b).giveBackWait = true →
                (r.mark = none ∧ cause = .cardGone ∧ st = .cardGone)
                  ∨ (r.mark = some .cancelled ∧ cause = .cancelled ∧ st = .cancelled)
                  ∨ (r.mark = some .sessionEnded ∧ cause = .sessionEnded ∧ st = .sessionEnded) →
                final = (if r.mode = .alternate ∧ r.filled * r.chunk < r.delivered * 512 then { r with filled := r.filled + 1 } else r) →
                (s.slot r.slot).state = .taken → (∀ x ∈ (s.bay b).waiting, x.slot ≠ r.slot) →
                (u.bay b).run = .idle ∧ (u.bay b).block = .stopped ∧ (u.bay b).giveBackWait = false
                  ∧ (∀ (index : Nat) (v w : Half), (index = 0 ∧ v = (s.bay b).half0 ∧ w = (u.bay b).half0)
                        ∨ (index = 1 ∧ v = (s.bay b).half1 ∧ w = (u.bay b).half1) →
                      (v.state = .writing → w = v) ∧ (v.state = .empty ∨ v.state = .filling → w.state = .empty)
                        ∧ (v.state = .full → r.mark.isSome = true ∨ r.liveA = false ∨ (r.mode = .alternate ∧ r.liveB = false) → w.state = .empty)
                        ∧ (v.state = .full → r.mark = none → r.liveA = true → r.mode = .single ∨ r.liveB = true →
                          (r.mode = .single → w = v)
                            ∧ ∀ block, block = (if index = r.delivered / 8 % 2 then r.delivered else r.delivered + 8) → r.mode = .alternate →
                              (block * 512 / r.chunk < r.givenBack + 2 → w = v)
                                ∧ (r.givenBack + 2 ≤ block * 512 / r.chunk → w.state = .empty)))
                  ∧ ((u.bay b).half0.state = .empty → (u.bay b).half1.state = .empty →
                      (u.bay b).active = none ∧ (u.slot r.slot).state = .done ∧ (u.slot r.slot).status = st
                        ∧ (u.slot r.slot).body = .read (finalReadResult final))
                  ∧ ((u.bay b).half0.state ≠ .empty ∨ (u.bay b).half1.state ≠ .empty →
                      (u.bay b).active = some { r with ended := some cause, mark := none } ∧ u.slot r.slot = s.slot r.slot))
            ∧ (∀ c, c ≠ b → u.bay c = s.bay c) ∧ u.orders = s.orders ∧ u.sessions = s.sessions ∧ u.terminal = s.terminal)
      ∧ ((s.bay b).state = .settling → (s.bay b).settle.isRunning = true → EndsAs (exec (.settleTimerExpiry b) s)
          (cardArrival b ((s.quiet.onBay b fun y =>
            { y with generation := y.generation + 1, state := .identifying, settle := .stopped, identifySends := 1,
                     identify := .running 100, counts := { y.counts with cardsAccepted := bump y.counts.cardsAccepted } }).emit
            (.identify b))))
      ∧ ((s.bay b).state = .identifying → (s.bay b).identify.isRunning = true →
        (∀ capacity serial, capacity ≠ 0#32 → (s.bay b).waiting = [] → EndsAs
            (exec (.identifyAnswer b capacity serial (crc16 (beBytes 4 capacity.toNat ++ beBytes 4 serial.toNat))) s)
            (s.quiet.onBay b fun y =>
              { y with card := some { capacity := capacity.toNat, serial := serial, identifiedAt := s.clock }, state := .ready,
                       identify := .stopped }))
          ∧ ((s.bay b).identifySends < 2 → EndsAs (exec (.identifyLimitExpiry b) s)
              ((s.quiet.onBay b fun y => { y with identifySends := y.identifySends + 1, identify := .running 100 }).emit (.identify b)))
          ∧ (2 ≤ (s.bay b).identifySends → EndsAs (exec (.identifyLimitExpiry b) s)
              (evalLamps b (s.quiet.onBay b fun y =>
                { y with state := .faulted, identify := .stopped, latched := { y.latched with identFault := true } })))
          ∧ ∀ capacity serial check,
              capacity = 0#32 ∨ check ≠ crc16 (beBytes 4 capacity.toNat ++ beBytes 4 serial.toNat) →
              exec (.identifyAnswer b capacity serial check) s = exec (.identifyLimitExpiry b) s)
      ∧ ((s.bay b).state ≠ .identifying ∨ (s.bay b).identify.isRunning = false →
          ∀ capacity serial check, EndsAs (exec (.identifyAnswer b capacity serial check) s) s.quiet)
      ∧ (∀ k, (s.station b).session = some k → cardArrival b s = restartForStation b s)
      ∧ (∀ k, (s.station b).session = none → (s.session k).state = .free → (∀ j, j < k → (s.session j).state ≠ .free) →
          cardArrival b s = evalLamps b
            (((s.onSession k fun _ =>
              { state := .active, station := b, orders := [], openedAt := s.clock,
                deadline := some (s.clock + BitVec.ofNat 32 s.timers.idle) }).onStation b fun t =>
              { t with session := some k, noRoomLive := false }).markUnit (stationUnit b)))
      ∧ ((s.station b).session = none → (∀ k, (s.session k).state ≠ .free) →
          cardArrival b s = (s.onStation b fun t => { t with noRoomLive := true, noRoomLatched := true }).markUnit (stationUnit b)))
    ∧ ∀ (b : BayId) (s : State), s.part ≠ .run →
      exec (.contactClose b) s = .next { s.quiet with contactPins := s.contactPins.set b.val true }
        ∧ exec (.contactOpen b) s = .next { s.quiet with contactPins := s.contactPins.set b.val false }

/-- R108, R109, R110, R113, R114, R119: a block at a running read: a good one joins the filling half, which is FULL at its eighth block or
the read's last; the last block ends the run with HALT; the card clock stops if the half the next block goes into is FULL or WRITING, and
runs on if it is EMPTY or FILLING. A bad or late one is sent for again twice, then the read ends READ_FAULT. A read that an end has marked
winds down at this boundary. What winding down does: HALT to a card still there whose run goes on, the run IDLE, the filling half and,
but for READ_FAULT and CARD_GONE, the FULL ones dropped, and a write of theirs that is not granted withdrawn. That a block at a RUNNING run is
always that run's, also after a HALT and a READ_RUN in one event, is the model's choice (log entry 35), and that a bad block at a marked read's
boundary is counted as a retry is its reading (log entry 25). -/
def Obligations.BlocksFillHalvesOrAreRetried : Prop :=
  (∀ (b : BayId) (s : State) (r : Read), s.part = .run → (s.bay b).active = some r → (s.bay b).run = .running → r.ended = none →
    r.mark = none →
    (∀ (data : List Byte) (h : Half), data.length = 512 → h = (if r.accepted / 8 % 2 = 0 then (s.bay b).half0 else (s.bay b).half1) →
        ∃ u, ThenSettles (exec (.blockArrival b data (crc16 data)) s) s.quiet (bayAdvance b u)
          ∧ (u.bay b).active = some { r with accepted := r.accepted + 1, failures := 0 }
          ∧ (if r.accepted / 8 % 2 = 0 then (u.bay b).half0 else (u.bay b).half1)
              = { state := if h.blocks + 1 = 8 ∨ r.accepted + 1 = r.count then .full else .filling, blocks := h.blocks + 1,
                  data := h.data ++ data }
          ∧ (if r.accepted / 8 % 2 = 0 then (u.bay b).half1 else (u.bay b).half0)
              = (if r.accepted / 8 % 2 = 0 then (s.bay b).half1 else (s.bay b).half0)
          ∧ (r.accepted + 1 = r.count → (u.bay b).run = .idle ∧ (u.bay b).block = .stopped ∧ u.out = [.halt b])
          ∧ (r.accepted + 1 ≠ r.count → u.out = [] ∧ ∀ next : Half,
              next = (if (r.accepted + 1) / 8 % 2 = 0 then (u.bay b).half0 else (u.bay b).half1) →
              (next.state = .empty ∨ next.state = .filling → (u.bay b).run = .running ∧ (u.bay b).block = .running 250)
                ∧ (next.state = .full ∨ next.state = .writing → (u.bay b).run = .clockStopped ∧ (u.bay b).block = .paused 250))
          ∧ { u with bays := s.bays, out := [] } = s.quiet ∧ ∀ c, c ≠ b → u.bay c = s.bay c)
      ∧ (∀ c, (c = .blockLimitExpiry b ∧ (s.bay b).block.isRunning = true)
            ∨ (∃ data check, c = .blockArrival b data check ∧ (data.length ≠ 512 ∨ check ≠ crc16 data)) →
          (r.failures < 2 → ThenSettles (exec c s) s.quiet
              (((s.quiet.onBay b fun y =>
                { y with active := some { r with failures := r.failures + 1 }, block := .running 250,
                         counts := { y.counts with blockRetries := bump y.counts.blockRetries } }).emit (.halt b)).emit
                (.readRun b (r.first + r.accepted))))
            ∧ (2 ≤ r.failures → ThenSettles (exec c s) s.quiet
                (windDown b .readFault (s.quiet.onBay b fun y =>
                  { y with active := some { r with failures := r.failures + 1, failing := some (r.first + r.accepted) },
                           counts := { y.counts with blockRetries := bump y.counts.blockRetries },
                           latched := { y.latched with readFault := true } })))))
    ∧ (∀ (b : BayId) (s : State) (r : Read) (cause : EndCause), s.part = .run → (s.bay b).active = some r → (s.bay b).run = .running →
    r.ended = none → r.mark = some cause →
    (∀ data : List Byte, data.length = 512 →
        ThenSettles (exec (.blockArrival b data (crc16 data)) s) s.quiet (windDown b cause (acceptBlock b r data s.quiet)))
      ∧ ∀ c, (c = .blockLimitExpiry b ∧ (s.bay b).block.isRunning = true)
          ∨ (∃ data check, c = .blockArrival b data check ∧ (data.length ≠ 512 ∨ check ≠ crc16 data)) →
        ThenSettles (exec c s) s.quiet
          (windDown b cause (s.quiet.onBay b fun y => { y with counts := { y.counts with blockRetries := bump y.counts.blockRetries } })))
    ∧ ∀ (b : BayId) (s : State) (r : Read) (cause : EndCause), (s.bay b).active = some r → ∃ u, windDown b cause s = bayAdvance b u
      ∧ u.out = s.out ++ (if ((s.bay b).run = .running ∨ (s.bay b).run = .clockStopped) ∧ (s.bay b).card.isSome = true then [.halt b] else [])
      ∧ (u.bay b).active = some { r with ended := some cause, mark := none } ∧ (u.bay b).run = .idle ∧ (u.bay b).block = .stopped
      ∧ (u.bay b).giveBackWait = false ∧ (u.bay b).waiting = (s.bay b).waiting ∧ (u.bay b).state = (s.bay b).state
      ∧ (∀ (index : Nat) (v w : Half), (index = 0 ∧ v = (s.bay b).half0 ∧ w = (u.bay b).half0)
            ∨ (index = 1 ∧ v = (s.bay b).half1 ∧ w = (u.bay b).half1) →
          (v.state = .writing → w = v) ∧ (v.state = .empty ∨ v.state = .filling → w.state = .empty)
            ∧ (v.state = .full → cause ≠ .readFault → cause ≠ .cardGone → w.state = .empty)
            ∧ (v.state = .full → cause = .readFault ∨ cause = .cardGone → r.liveA = true → r.mode = .single ∨ r.liveB = true →
              (r.mode = .single → w = v)
                ∧ ∀ block, block = (if index = r.delivered / 8 % 2 then r.delivered else r.delivered + 8) → r.mode = .alternate →
                  (block * 512 / r.chunk < r.givenBack + 2 → w = v) ∧ (r.givenBack + 2 ≤ block * 512 / r.chunk → w.state = .empty)))
      ∧ (∀ next : Half, next = (if r.delivered / 8 % 2 = 0 then (u.bay b).half0 else (u.bay b).half1) →
          (next.state = .full → u.port = s.port)
            ∧ (next.state ≠ .full → u.port = { s.port with lines := upd s.port.lines (requesterIndex (.bay b)) fun _ => [] }))
      ∧ { u with bays := s.bays, port := s.port, out := s.out } = s ∧ ∀ c, c ≠ b → u.bay c = s.bay c

/-- R115, R116, R117: a read that waits for the host: an accepted GIVE_BACK counts and ends the wait; after 2 s a running card is halted;
after 30 s of waiting the read ends STALLED. The figures the two expiries set, a wait of 2,000 ms, a waited time that grows by the rest of
those 2,000 and one of 30,000, whatever had passed, are the model's choice (log entry 3, on the clock of log entry 2). That the halt after 2 s
is the boundary of a marked read, which winds down there with its mark's cause, and that the stall limit leaves a marked read to its boundary,
is the model's reading (log entry 25). That the expiry of a limit that does not run changes nothing, the rest of the last two clauses, is the
model's choice (log entry 6). -/
def Obligations.GiveBackAndItsLimits : Prop :=
  ∀ (b : BayId) (s : State) (r : Read), s.part = .run → (s.bay b).active = some r →
    (s.pcieUp = true → (s.slot r.slot).state = .taken → r.mode = .alternate → r.givenBack < r.filled →
        (∀ c x, (s.bay c).active = some x → x.slot = r.slot → c = b) →
        ThenSettles (exec (.giveBack r.slot) s) s.quiet
          (bayAdvance b
            ((s.quiet.onBay b fun y =>
              { y with active := some { r with givenBack := r.givenBack + 1 }, giveBackWait := false, waitLength := 0,
                       waitLimit := false }).onSlot r.slot fun c =>
              { c with body := .read (liveResult { r with givenBack := r.givenBack + 1 }) })))
      ∧ ((s.bay b).giveBackWait = true → (s.bay b).waitLimit = true →
          (r.mark = none → (s.bay b).run = .running ∨ (s.bay b).run = .clockStopped →
              ThenSettles (exec (.giveBackWaitExpiry b) s) s.quiet
                ((s.quiet.onBay b fun y =>
                  { y with waitLimit := false, waitLength := 2000, run := .halted, block := .stopped,
                           active := some { r with waited := min 30000 (r.waited + (2000 - y.waitLength)) } }).emit (.halt b)))
            ∧ (∀ cause, r.mark = some cause → (s.bay b).run = .running ∨ (s.bay b).run = .clockStopped →
                ThenSettles (exec (.giveBackWaitExpiry b) s) s.quiet
                  (windDown b cause ((s.quiet.onBay b fun y =>
                    { y with waitLimit := false, waitLength := 2000, run := .halted, block := .stopped,
                             active := some { r with waited := min 30000 (r.waited + (2000 - y.waitLength)) } }).emit (.halt b))))
            ∧ ((s.bay b).run = .idle ∨ (s.bay b).run = .halted →
                ThenSettles (exec (.giveBackWaitExpiry b) s) s.quiet
                  (s.quiet.onBay b fun y =>
                    { y with waitLimit := false, waitLength := 2000,
                             active := some { r with waited := min 30000 (r.waited + (2000 - y.waitLength)) } })))
      ∧ ((s.bay b).giveBackWait = true → r.mark = none → r.ended = none →
          ThenSettles (exec (.stallLimitExpiry b) s) s.quiet
            (windDown b .stalled (s.quiet.onBay b fun y =>
              { y with active := some { r with waited := 30000 }, latched := { y.latched with stalled := true } })))
      ∧ ((s.bay b).giveBackWait = false ∨ (s.bay b).waitLimit = false → EndsAs (exec (.giveBackWaitExpiry b) s) s.quiet)
      ∧ ((s.bay b).giveBackWait = false ∨ r.mark.isSome = true ∨ r.ended.isSome = true → EndsAs (exec (.stallLimitExpiry b) s) s.quiet)

/-- R49, R118 to R120, R133, R138, R167: CANCEL on a TAKEN slot reaches the operation behind it: a waiting PAY, read or load ends CANCELLED,
an open authorization is aborted, one that is ABORTING already is left alone, a load being fetched ends after its fetch. An active read is
marked for its next block boundary while its run is RUNNING; with the run CLOCK_STOPPED, HALTED or IDLE it winds down at once, and completes
CANCELLED unless a half of it is WRITING. A read that ends already, or that has passed its last boundary with no half waiting, is left
alone. -/
def Obligations.CancelReachesTheOperation : Prop :=
  ∀ (n : SlotId) (s : State), s.part = .run → s.pcieUp = true → (s.slot n).state = .taken →
    (∀ e, noRead s n → noLoad s n → s.terminal.waitList.find? (·.slot == n) = some e →
        ThenSettles (exec (.cancel n) s) s.quiet
          (endPay n e.order .cancelled none none none
            (s.quiet.onTerminal fun t => { t with waitList := t.waitList.filter (·.slot != n) })))
      ∧ (∀ h, noRead s n → noLoad s n → (∀ e ∈ s.terminal.waitList, e.slot ≠ n) → s.terminal.holder = some h → h.slot = some n →
          h.exchange = .opened →
          ThenSettles (exec (.cancel n) s) s.quiet
            ((s.quiet.onTerminal fun t =>
              { t with holder := some { h with exchange := .aborting, abortLimit := some (s.clock + 5#32), cardWaitLimit := none } }).emit
              (.abort h.reference)))
      ∧ (∀ h, noRead s n → noLoad s n → (∀ e ∈ s.terminal.waitList, e.slot ≠ n) → s.terminal.holder = some h → h.slot = some n →
          h.exchange = .aborting → ThenSettles (exec (.cancel n) s) s.quiet s.quiet)
      ∧ (∀ l, noRead s n → noPay s n → s.price.load = some l → l.slot = n → l.fetching = false →
          ThenSettles (exec (.cancel n) s) s.quiet
            { (s.quiet.onSlot n fun c =>
                { c with state := .done, status := .cancelled, reason := .none, completedAt := s.clock, body := .zero }) with
              attnDone := true,
              price := { s.price with load := none, last := some { outcome := .cancelled, clock := s.clock, failure := none } },
              port := { s.port with lines := s.port.lines.set 6 [] } })
      ∧ (∀ l, noRead s n → noPay s n → s.price.load = some l → l.slot = n → l.fetching = true →
          ThenSettles (exec (.cancel n) s) s.quiet { s.quiet with price := { s.price with load := some { l with cancelled := true } } })
      ∧ (∀ b r, noPay s n → noLoad s n → (∀ c, c ≠ b → (∀ x ∈ (s.bay c).waiting, x.slot ≠ n) ∧ ∀ x, (s.bay c).active = some x → x.slot ≠ n) →
          (s.bay b).waiting.find? (·.slot == n) = some r →
          ThenSettles (exec (.cancel n) s) s.quiet
            { ((s.quiet.onBay b fun y =>
                { y with waiting := y.waiting.filter (·.slot != n), last := some { slot := n, status := .cancelled, clock := s.clock },
                         counts := { y.counts with readsOther := bump y.counts.readsOther } }).onSlot n fun c =>
                { c with state := .done, status := .cancelled, reason := .none, completedAt := s.clock,
                         body := .read (unstartedResult r) }) with attnDone := true })
      ∧ ∀ b r, noPay s n → noLoad s n → (∀ c, c ≠ b → (∀ x ∈ (s.bay c).waiting, x.slot ≠ n) ∧ ∀ x, (s.bay c).active = some x → x.slot ≠ n) →
          (∀ x ∈ (s.bay b).waiting, x.slot ≠ n) → (s.bay b).active = some r → r.slot = n →
          (r.ended = none → r.mark = none → r.accepted ≠ r.count ∨ (s.bay b).giveBackWait = true →
            ((s.bay b).run = .running → ThenSettles (exec (.cancel n) s) s.quiet
                (s.quiet.onBay b fun y => { y with active := some { r with mark := some .cancelled } }))
              ∧ ((s.bay b).run ≠ .running → ∀ u final, u = windDown b .cancelled s.quiet →
                final = (if r.mode = .alternate ∧ r.filled * r.chunk < r.delivered * 512 then { r with filled := r.filled + 1 } else r) →
                ThenSettles (exec (.cancel n) s) s.quiet u
                  ∧ ((s.bay b).half0.state ≠ .writing → (s.bay b).half1.state ≠ .writing →
                      (u.slot n).state = .done ∧ (u.slot n).status = .cancelled ∧ (u.slot n).body = .read (finalReadResult final)
                        ∧ u.bay b = (finishRead b final .cancelled s.quiet).bay b
                        ∧ ∃ more, u.out = (if (s.bay b).run = .clockStopped ∧ (s.bay b).card.isSome = true then [.halt b] else []) ++ more)
                  ∧ ((s.bay b).half0.state = .writing ∨ (s.bay b).half1.state = .writing →
                      u.slot n = s.slot n ∧ (u.bay b).active = some { r with ended := some .cancelled, mark := none } ∧ (u.bay b).run = .idle
                        ∧ (u.bay b).half0 =
                            (if (s.bay b).half0.state = .writing then (s.bay b).half0 else { state := .empty, blocks := 0, data := [] })
                        ∧ (u.bay b).half1 =
                            (if (s.bay b).half1.state = .writing then (s.bay b).half1 else { state := .empty, blocks := 0, data := [] })
                        ∧ u.out = (if (s.bay b).run = .clockStopped ∧ (s.bay b).card.isSome = true then [.halt b] else []))))
            ∧ (r.ended.isSome = true ∨ r.mark.isSome = true ∨ (r.accepted = r.count ∧ (s.bay b).giveBackWait = false) →
              ThenSettles (exec (.cancel n) s) s.quiet s.quiet)

/-! ## Transfers, apertures and the service kinds -/

/-- R46, R49, R152: LOAD_PRICES: RANGE for another length or an area in no aperture that allows READ, BUSY while a load is in work; else
the load waits for its one transfer of 256 bytes, its slot TAKEN. -/
def Obligations.LoadPricesAsksForItsImage : Prop :=
  ∀ (s : State) (n : SlotId) (rest : List SlotId), Heads s .loadPrices n rest →
    (reqField (s.slot n) 32 4 ≠ 256 → EndsAs (exec .loadPrices s) (answered n rest .range .none .zero s.quiet))
      ∧ (s.findAperture .read (reqField (s.slot n) 24 8) 256 = none →
          EndsAs (exec .loadPrices s) (answered n rest .range .none .zero s.quiet))
      ∧ ∀ a, reqField (s.slot n) 32 4 = 256 → s.findAperture .read (reqField (s.slot n) 24 8) 256 = some a →
        (s.price.load.isSome = true → EndsAs (exec .loadPrices s) (answered n rest .busy .none .zero s.quiet))
          ∧ (s.price.load = none → ThenSettles (exec .loadPrices s) s.quiet
              (begun n rest id
                { s.quiet with
                  price := { s.price with
                    load := some { slot := n, tag := BitVec.ofNat 32 (reqField (s.slot n) 16 4), address := reqField (s.slot n) 24 8,
                                   aperture := a, fetching := false, cancelled := false, areaDead := false } },
                  port := { s.port with
                    lines := s.port.lines.set 6 (s.port.lines[6] ++
                      [{ requester := .load, direction := .read, address := reqField (s.slot n) 24 8, length := 256, aperture := a,
                         purpose := .image, data := [] }]) } }))

/-- R45, R47, R48, R49, R51, R155, R184: the image of a load arrives: a good one is the table in force at once with its tag and time, a bad
one leaves the table and names the first entry that fails, and its violation; a cancelled load ends CANCELLED. The record's last load takes
the outcome, CLOCK and failure, and LOAD_FAILED is latched at a bad image alone. Then the checks of each
entry in their order, the first failure they give, and the table a good image holds. -/
def Obligations.GoodImagesAreInstalledWhole : Prop :=
  (∀ (s : State) (before after : List Granted) (g : Granted) (l : Load) (image : List Byte), s.part = .run →
    s.port.granted = before ++ g :: after → (∀ x ∈ before ++ after, x.transfer.requester ≠ .load) → g.outcome = none →
    g.transfer.requester = .load → g.transfer.purpose = .image → g.transfer.direction = .read → g.transfer.length = 256 →
    image.length = 256 → s.price.load = some l → (s.slot l.slot).state = .taken → l.areaDead = false →
    ∃ u, ThenSettles (exec (.transferEnd before.length (.good image)) s) s.quiet u ∧ u.price.load = none
      ∧ u.port.granted = before ++ after
      ∧ (u.slot l.slot).state = .done ∧ (∀ m, m ≠ l.slot → u.slot m = s.slot m) ∧ u.orders = s.orders ∧ u.terminal = s.terminal
      ∧ u.bays = s.bays ∧ u.printers = s.printers ∧ u.apertures = s.apertures
      ∧ (l.cancelled = false → imageFailure image = none →
          u.price.table = tableOfImage image l.tag s.clock ∧ (u.slot l.slot).status = .ok
            ∧ (u.slot l.slot).body = .loaded l.tag s.clock ((u.price.table.sizes.toList.filter (·.offered)).length)
                ((u.price.table.promotions.toList.filter (·.rate != 0)).length)
            ∧ u.price.last = some { outcome := .ok, clock := s.clock, failure := none }
            ∧ u.price.loadFailedLatched = s.price.loadFailedLatched)
      ∧ (∀ entry violation, l.cancelled = false → imageFailure image = some (entry, violation) →
          u.price.table = s.price.table ∧ (u.slot l.slot).status = .format ∧ (u.slot l.slot).body = .loadBad entry violation
            ∧ u.price.last = some { outcome := .format, clock := s.clock, failure := some (entry, violation) }
            ∧ u.price.loadFailedLatched = true)
      ∧ (l.cancelled = true → u.price.table = s.price.table ∧ (u.slot l.slot).status = .cancelled ∧ (u.slot l.slot).body = .zero
          ∧ u.price.last = some { outcome := .cancelled, clock := s.clock, failure := none }
          ∧ u.price.loadFailedLatched = s.price.loadFailedLatched))
    ∧ (∀ (image : List Byte) (N : Nat → Nat → Nat) (checks : Nat → List (Prop × Violation)), image.length = 256 → N = imageField image →
    (∀ e, e < 4 → checks e =
      [(N (24 * e) 1 ≤ 1, .badFlag), (N (24 * e + 1) 1 ≤ 4, .badCount),
       (N (24 * e) 1 = 0 → N (24 * e + 1) 1 = 0 ∧ N (24 * e + 4) 2 = 0 ∧ N (24 * e + 8) 16 = 0, .unusedNotZero),
       (N (24 * e) 1 ≠ 0 → ∀ k, k < N (24 * e + 1) 1 → 2 ≤ N (24 * e + 8 + 4 * k) 2 ∧ N (24 * e + 8 + 4 * k) 2 ≤ 2376, .thresholdRange),
       (N (24 * e) 1 ≠ 0 → ∀ k, k + 1 < N (24 * e + 1) 1 → N (24 * e + 8 + 4 * k) 2 < N (24 * e + 8 + 4 * (k + 1)) 2, .thresholdOrder),
       (N (24 * e) 1 ≠ 0 → ∀ k, N (24 * e + 1) 1 ≤ k → k < 4 → N (24 * e + 8 + 4 * k) 4 = 0, .unusedNotZero),
       (N (24 * e + 2) 2 = 0 ∧ N (24 * e + 6) 2 = 0, .reservedNotZero)]) →
    checks 4 = [(N 0x60 2 ≤ 9999, .valueRange), (N 0x62 2 ≤ 5000, .valueRange), (N 0x64 2 ≤ 999, .valueRange),
      (N 0x66 10 = 0 ∧ N 0xF0 16 = 0, .reservedNotZero)] →
    (∀ k, k < 16 → checks (5 + k) =
      [(N (0x70 + 8 * k) 2 ≤ 10000, .valueRange), (N (0x70 + 8 * k + 4) 4 ≤ 9999999, .valueRange),
       (N (0x70 + 8 * k) 2 = 0 → N (0x70 + 8 * k + 4) 4 = 0, .unusedNotZero), (N (0x70 + 8 * k + 2) 2 = 0, .reservedNotZero)]) →
    (imageFailure image = none ↔ ∀ e, e < 21 → ∀ x ∈ checks e, x.1)
      ∧ ∀ e v, imageFailure image = some (e, v) ↔ e < 21 ∧ (∀ d, d < e → ∀ x ∈ checks d, x.1)
          ∧ ∃ before bad after, checks e = before ++ (bad, v) :: after ∧ (∀ x ∈ before, x.1) ∧ ¬bad)
    ∧ ∀ (image : List Byte) (tag clock : W32) (t : PriceTable), t = tableOfImage image tag clock →
    (∀ z, sizeEntry t z =
        { offered := decide (imageField image (24 * sizeCode z) 1 = 1), base := imageField image (24 * sizeCode z + 4) 2,
          tiers := (List.range (imageField image (24 * sizeCode z + 1) 1)).map fun k =>
            { threshold := imageField image (24 * sizeCode z + 8 + 4 * k) 2, price := imageField image (24 * sizeCode z + 10 + 4 * k) 2 } })
      ∧ t.surcharge = imageField image 0x60 2 ∧ t.taxRate = imageField image 0x62 2 ∧ t.currency = imageField image 0x64 2
      ∧ (∀ k : Fin 16, look t.promotions k =
          { rate := imageField image (0x70 + 8 * k.val) 2, minimum := imageField image (0x70 + 8 * k.val + 4) 4 })
      ∧ t.tag = tag ∧ t.installedAt = some clock

/-- R110, R112 to R114, R116, R118, R119, R155: a card half's write ends without error: its blocks count as delivered and the half is EMPTY.
What the bay then does: a read that winds down completes with its cause once both halves are EMPTY, a buffer written in part counting as
filled; one whose last block is delivered completes OK; else the card clock or a halted run restarts when a half can take blocks, and the
next FULL half's write is asked for, or waits for a GIVE_BACK. What a completion does: the slot's result, the bay's record, and the next
read. That the bytes in the last buffer are absent while no buffer is filled is the model's reading (log entry 26). -/
def Obligations.WrittenHalvesAreDelivered : Prop :=
  (∀ (s : State) (before after : List Granted) (g : Granted) (b : BayId) (h : Fin 2) (blocks : Nat) (r : Read), s.part = .run →
    s.port.granted = before ++ g :: after → (∀ x ∈ before ++ after, x.transfer.requester ≠ .bay b) →
    g.outcome = none → g.transfer.requester = .bay b → g.transfer.purpose = .half h blocks → g.transfer.direction = .write →
    (s.bay b).active = some r → (s.slot r.slot).state = .taken →
    ∃ u, ThenSettles (exec (.transferEnd before.length (.good [])) s) s.quiet (bayAdvance b u) ∧ u.port.granted = before ++ after
      ∧ (u.bay b).active = some { r with delivered := r.delivered + blocks, filled := buffersFilled r (r.delivered + blocks) }
      ∧ ((if h = 0 then (u.bay b).half0 else (u.bay b).half1).state = .empty)
      ∧ ((if h = 0 then (u.bay b).half1 else (u.bay b).half0) = (if h = 0 then (s.bay b).half1 else (s.bay b).half0))
      ∧ (u.slot r.slot).body = .read (liveResult { r with delivered := r.delivered + blocks,
                                                          filled := buffersFilled r (r.delivered + blocks) })
      ∧ (r.mode = .single → r.delivered / 128 < (r.delivered + blocks) / 128 →
          (u.slot r.slot).progress = (s.slot r.slot).progress + 1 ∧ u.attnProgress = true)
      ∧ (r.mode = .alternate → buffersFilled r (r.delivered + blocks) = r.filled + 1 →
          (u.slot r.slot).progress = (s.slot r.slot).progress + 1 ∧ u.attnProgress = true)
      ∧ (r.mode = .alternate → (buffersFilled r (r.delivered + blocks) = r.filled + 1 ↔
          r.delivered + blocks = r.count ∨ (r.filled + 1) * r.chunk ≤ (r.delivered + blocks) * 512)))
    ∧ (∀ (b : BayId) (s : State) (r : Read), (s.bay b).active = some r →
    (∀ (cause : EndCause) (st : Status) (final : Read), r.ended = some cause → (s.bay b).half0.state = .empty → (s.bay b).half1.state = .empty →
        (cause, st) ∈ [(EndCause.cancelled, Status.cancelled), (.sessionEnded, .sessionEnded), (.cardGone, .cardGone),
          (.readFault, .readFault), (.stalled, .stalled), (.transferFault, .transferFault), (.unitDown, .unitDown)] →
        final = (if r.mode = .alternate ∧ r.filled * r.chunk < r.delivered * 512 then { r with filled := r.filled + 1 } else r) →
        bayAdvance b s = finishRead b final st s)
      ∧ (r.ended.isSome = true → (s.bay b).half0.state ≠ .empty ∨ (s.bay b).half1.state ≠ .empty →
          (bayAdvance b s).slots = s.slots ∧ (bayAdvance b s).bay b = s.bay b)
      ∧ (r.ended = none → r.delivered = r.count → bayAdvance b s = finishRead b r .ok s)
      ∧ (r.ended = none → r.delivered ≠ r.count → ∀ (fill write : Half) (t : State),
          fill = (if r.accepted / 8 % 2 = 0 then (s.bay b).half0 else (s.bay b).half1) →
          write = (if r.delivered / 8 % 2 = 0 then (s.bay b).half0 else (s.bay b).half1) → t = bayAdvance b s →
          ((s.bay b).run = .clockStopped → fill.state = .empty ∨ fill.state = .filling →
              (t.bay b).run = .running ∧ (t.bay b).block = (s.bay b).block.resume ∧ t.out = s.out)
            ∧ ((s.bay b).run = .halted → (s.bay b).giveBackWait = false → (s.bay b).half0.state = .empty ∨ (s.bay b).half1.state = .empty →
                (t.bay b).run = .running ∧ (t.bay b).block = .running 250 ∧ t.out = s.out ++ [.readRun b (r.first + r.accepted)])
            ∧ ((s.bay b).run = .running ∨ (s.bay b).run = .idle → (t.bay b).run = (s.bay b).run ∧ t.out = s.out)
            ∧ (t.bay b).half0 = (s.bay b).half0 ∧ (t.bay b).half1 = (s.bay b).half1 ∧ (t.bay b).active = some r
            ∧ (write.state ≠ .full → t.port = s.port)
            ∧ (write.state = .full → look s.port.lines (requesterIndex (.bay b)) = [] → (∀ g ∈ s.port.granted, g.transfer.requester ≠ .bay b) →
                r.liveA = true → r.mode = .single ∨ r.liveB = true →
                (r.mode = .single → look t.port.lines (requesterIndex (.bay b)) =
                    [{ requester := .bay b, direction := .write, address := r.addressA + r.delivered * 512, length := write.blocks * 512,
                       aperture := r.apertureA, purpose := .half (if r.delivered / 8 % 2 = 0 then 0 else 1) write.blocks,
                       data := write.data }])
                  ∧ (r.mode = .alternate → r.delivered * 512 / r.chunk < r.givenBack + 2 → look t.port.lines (requesterIndex (.bay b)) =
                    [{ requester := .bay b, direction := .write,
                       address := (if r.delivered * 512 / r.chunk % 2 = 0 then r.addressA else r.addressB) + r.delivered * 512 % r.chunk,
                       length := write.blocks * 512,
                       aperture := if r.delivered * 512 / r.chunk % 2 = 0 then r.apertureA else r.apertureB,
                       purpose := .half (if r.delivered / 8 % 2 = 0 then 0 else 1) write.blocks, data := write.data }])
                  ∧ (r.mode = .alternate → r.givenBack + 2 ≤ r.delivered * 512 / r.chunk → (s.bay b).giveBackWait = false →
                    t.port = s.port ∧ (t.bay b).giveBackWait = true ∧ (t.bay b).latched.giveBackWait = true ∧ (t.bay b).waitLength = 0
                      ∧ (t.bay b).waitLimit = true))))
    ∧ ∀ (b : BayId) (s t : State) (r : Read) (st : Status), (s.slot r.slot).state = .taken → t = finishRead b r st s →
    (t.slot r.slot).state = .done ∧ (t.slot r.slot).status = st ∧ (t.slot r.slot).reason = .none ∧ (t.slot r.slot).completedAt = s.clock
      ∧ (t.slot r.slot).body = .read
          { generation := r.generation, serial := r.serial, delivered := r.delivered, filled := r.filled, givenBack := r.givenBack,
            target := if r.mode = .alternate then some (if r.filled % 2 = 0 then .a else .b) else none,
            lastBytes := if r.mode = .alternate ∧ 0 < r.filled then some (min (r.delivered * 512 - (r.filled - 1) * r.chunk) r.chunk) else none,
            failing := r.failing, waited := if r.mode = .alternate then some r.waited else none, aperture := r.faultedAperture }
      ∧ (t.bay b).last = some { slot := r.slot, status := st, clock := s.clock } ∧ (t.bay b).half0.state = .empty
      ∧ (t.bay b).half1.state = .empty ∧ (t.bay b).giveBackWait = false
      ∧ (st = .ok → (t.bay b).counts.readsOk = bump (s.bay b).counts.readsOk ∧ (t.bay b).counts.readsOther = (s.bay b).counts.readsOther)
      ∧ (st ≠ .ok → (t.bay b).counts.readsOther = bump (s.bay b).counts.readsOther ∧ (t.bay b).counts.readsOk = (s.bay b).counts.readsOk)
      ∧ ((s.bay b).state = .ready ∨ (s.bay b).state = .reading → (s.bay b).waiting = [] →
          (t.bay b).state = .ready ∧ (t.bay b).active = none ∧ (t.bay b).run = .idle ∧ t.out = s.out)
      ∧ (∀ x rest, (s.bay b).state = .ready ∨ (s.bay b).state = .reading → (s.bay b).waiting = x :: rest →
          (t.bay b).state = .reading ∧ (t.bay b).waiting = rest ∧ (t.bay b).run = .running ∧ (t.bay b).block = .running 250
            ∧ (t.bay b).active = some { x with accepted := 0, delivered := 0, filled := 0, givenBack := 0, waited := 0, failures := 0 }
            ∧ t.out = s.out ++ [.readRun b x.first])
      ∧ ((s.bay b).state ≠ .ready → (s.bay b).state ≠ .reading →
          (t.bay b).state = (s.bay b).state ∧ (t.bay b).active = none ∧ (t.bay b).waiting = (s.bay b).waiting ∧ t.out = s.out)
      ∧ (∀ c, c ≠ b → t.bay c = s.bay c) ∧ t.port = s.port ∧ t.orders = s.orders ∧ t.terminal = s.terminal

/-- R151: an area goes to the lowest-indexed ACTIVE aperture that allows its direction and holds it whole. R155, R156: the master port grants
while fewer than four transfers are in progress and one waits, a printer's first, and within a class in ring order after the last granted.
R46, R110: the grant of a half's write makes that half WRITING, that of the image transfer makes the price load FETCHING.
R152, R155, R157, R158: a transfer that fails, or has not ended within its limit, faults an ACTIVE aperture: its fault record shows the
transfer and the areas that died, and no live area is left in it. One that finds it FAULTED leaves the record as it was. -/
def Obligations.LinkErrorsFaultTheAperture : Prop :=
  (∀ (s : State) (d : Direction) (address length : Nat) (fits : ApertureId → Prop),
    (∀ a, fits a ↔ (s.aperture a).state = .active
      ∧ ((s.aperture a).access = .readWrite ∨ ((s.aperture a).access = .read ∧ d = .read) ∨ ((s.aperture a).access = .write ∧ d = .write))
      ∧ (s.aperture a).base ≤ address ∧ address + length ≤ (s.aperture a).base + (s.aperture a).limit) →
    (∀ a, s.findAperture d address length = some a ↔ fits a ∧ ∀ x, x < a → ¬fits x)
      ∧ (s.findAperture d address length = none ↔ ∀ a, ¬fits a))
    ∧ (∀ s : State,
    (∀ (i : Fin 7) (x : Transfer) (rest : List Transfer), busyTransfers s < 4 → look s.port.lines i = x :: rest →
        ((i.val < 2 ∧ (s.port.lastHigh ≠ some i ∨ look s.port.lines (if i = 0 then 1 else 0) = [])
            ∧ (i = 1 → s.port.lastHigh = some 0 ∨ look s.port.lines 0 = []))
          ∨ (2 ≤ i.val ∧ look s.port.lines 0 = [] ∧ look s.port.lines 1 = []
            ∧ (s.port.lastNormal = none → ∀ j : Fin 7, 2 ≤ j.val → j < i → look s.port.lines j = [])
            ∧ ∀ l, s.port.lastNormal = some l → 2 ≤ l.val ∧ ∀ j : Fin 7, 2 ≤ j.val → (j.val + 4 - l.val) % 5 < (i.val + 4 - l.val) % 5 →
                look s.port.lines j = [])) →
        (s.port.lastHigh = none ∨ s.port.lastHigh = some 0 ∨ s.port.lastHigh = some 1) →
        ∃ u, grantLoop s = grantOne (grantOne (grantOne u))
          ∧ u.port.granted = s.port.granted ++ [{ transfer := x, timer := .running 50, outcome := none }]
          ∧ look u.port.lines i = rest ∧ (∀ j, j ≠ i → look u.port.lines j = look s.port.lines j)
          ∧ u.port.lastHigh = (if i.val < 2 then some i else s.port.lastHigh)
          ∧ u.port.lastNormal = (if i.val < 2 then s.port.lastNormal else some i)
          ∧ u.out = s.out ++ (if x.direction = .read then [.hostRead x.address x.length]
              else [.hostWrite x.address x.data, .hostReadBack (x.address + x.length - 4)])
          ∧ (∀ (b : BayId) (h : Fin 2) (blocks : Nat), x.requester = .bay b → x.purpose = .half h blocks →
              u.bay b = { s.bay b with
                  half0 := if h = 0 then { (s.bay b).half0 with state := .writing } else (s.bay b).half0,
                  half1 := if h = 0 then (s.bay b).half1 else { (s.bay b).half1 with state := .writing } }
                ∧ (∀ c, c ≠ b → u.bay c = s.bay c) ∧ u.price = s.price
                ∧ (if h = 0 then ((grantLoop s).bay b).half0 else ((grantLoop s).bay b).half1).state = .writing)
          ∧ (x.requester = .load →
              u.price = { s.price with load := s.price.load.map fun l => { l with fetching := true } } ∧ u.bays = s.bays
                ∧ (grantLoop s).price = u.price)
          ∧ (∀ p, x.requester = .printer p → u.bays = s.bays ∧ u.price = s.price)
          ∧ { u with port := s.port, bays := s.bays, price := s.price, out := s.out } = s)
      ∧ (4 ≤ busyTransfers s ∨ (∀ i, look s.port.lines i = []) → grantLoop s = s)
      ∧ ((∀ l, s.port.lastHigh = some l → l.val < 2) → (∀ l, s.port.lastNormal = some l → 2 ≤ l.val) →
          busyTransfers (grantLoop s) < 4 → ∀ i, look (grantLoop s).port.lines i = []))
    ∧ ∀ (s : State) (index : Nat) (g : Granted) (c : Instr) (cause : FaultCause), s.part = .run → s.port.granted[index]? = some g →
    g.outcome = none → OutcomesInOrder s →
    (c = .transferEnd index .unsuccessful ∧ cause = .unsuccessful) ∨ (c = .transferEnd index .poisoned ∧ cause = .poisoned)
      ∨ (c = .transferNoCompletion index ∧ cause = .noCompletion) →
    ∃ t, exec c s = .next t
      ∧ ((s.aperture g.transfer.aperture).state = .active →
          (t.aperture g.transfer.aperture).state = .faulted
            ∧ (t.aperture g.transfer.aperture).fault = some
                { clock := s.clock, direction := g.transfer.direction, requester := g.transfer.requester, address := g.transfer.address,
                  cause := cause, areasDied := s.useCount g.transfer.aperture }
            ∧ t.useCount g.transfer.aperture = 0)
      ∧ ((s.aperture g.transfer.aperture).state ≠ .active → t.aperture g.transfer.aperture = s.aperture g.transfer.aperture)
      ∧ (∀ a, a ≠ g.transfer.aperture → t.aperture a = s.aperture a) ∧ t.clock = s.clock ∧ t.timers = s.timers
      ∧ (g.transfer.requester ≠ .load ∨ g.transfer.purpose = .image → t.price.table = s.price.table)

/-- R40, R49, R91, R98, R119, R122, R152, R155, R157 to R159: what a link error does beyond the table: an ACTIVE aperture faults with a record
of the transfer, the transfers waiting under it are withdrawn, and its areas die: rasters, card buffers and the price image; then its
requester is told, unless an earlier transfer of that requester still runs, with every outcome held behind it, in grant order. Each item with a live raster there becomes UNPRINTABLE: a PRICED
order returns to DRAFT, a PAID, PRINTING or HELD one has its copies of such items aborted and settles if it has finished printing, another
keeps its state; retry notes for such items go. Each waiting read with a buffer there ends TRANSFER_FAULT with its figures absent, and so
does the active one, its HALT sent and its FULL halves dropped, once no half is WRITING; a read already marked or winding down keeps its
cause. A WAITING price load ends TRANSFER_FAULT at once, a FETCHING one when its own transfer ends; the table in force stays. The model's
reading or choice are: the order of these steps (log entry 28), that of the ends of one bay's reads (36); that a marked read is not ended at
once but left to its boundary and its mark's cause (25 and 41, where R122 says at once), and that one which winds down loses all its FULL
halves (42); and that a load whose aperture died through another transfer ends TRANSFER_FAULT when its own ends well, also where it was
cancelled (27, where the CANCEL row of R49 says CANCELLED). -/
def Obligations.FaultsReachEveryOwner : Prop :=
  (∀ (s : State) (index : Nat) (g failed : Granted) (c : Instr) (cause : FaultCause), s.part = .run → s.port.granted[index]? = some g →
    g.outcome = none → failed = { g with timer := .stopped, outcome := some (.error cause) } →
    (c = .transferEnd index .unsuccessful ∧ cause = .unsuccessful) ∨ (c = .transferEnd index .poisoned ∧ cause = .poisoned)
      ∨ (c = .transferNoCompletion index ∧ cause = .noCompletion) →
    ThenSettles (exec c s) s.quiet (tellRequester g.transfer.requester (faultAperture g.transfer cause
      { s.quiet with port := { s.port with granted := s.port.granted.set index failed } })))
    ∧ (∀ (s : State) (q : Requester) (before after : List Granted) (g : Granted), s.port.granted = before ++ g :: after →
    g.transfer.requester = q → (∀ x ∈ before, x.transfer.requester ≠ q) →
    (g.outcome = none → tellRequester q s = s)
      ∧ ∀ o, g.outcome = some o → (∀ x ∈ after, x.transfer.requester = q → x.outcome = none) →
        tellRequester q s = tellOne g.transfer o { s with port := { s.port with granted := before ++ after } })
    ∧ (∀ (s : State) (q : Requester) (front back : List Granted), s.port.granted = front ++ back →
    (∀ g ∈ front, g.transfer.requester = q → g.outcome.isSome = true) →
    (∀ g, back.head? = some g → g.transfer.requester = q ∧ g.outcome = none) →
    tellRequester q s =
      (front.filterMap fun g => if g.transfer.requester = q then g.outcome.map fun o => (g.transfer, o) else none).foldl
        (fun t x => tellOne x.1 x.2 t)
        { s with port := { s.port with granted := (front.filter fun g => decide (g.transfer.requester ≠ q)) ++ back } })
    ∧ (∀ (x : Transfer) (cause : FaultCause) (s u : State),
    ((s.aperture x.aperture).state ≠ .active → faultAperture x cause s = s)
      ∧ ((s.aperture x.aperture).state = .active →
          u = { (s.onAperture x.aperture fun e =>
                  { e with state := .faulted,
                           fault := some { clock := s.clock, direction := x.direction, requester := x.requester, address := x.address,
                                           cause := cause, areasDied := s.useCount x.aperture } }) with
                port := { s.port with lines := s.port.lines.map fun l => l.filter (·.aperture != x.aperture) } } →
          faultAperture x cause s =
            killLoad x.aperture ((List.finRange 4).foldl (fun t b => killReads x.aperture b t) (killRasters x.aperture u))))
    ∧ (∀ (a : ApertureId) (s t : State) (hit : Order → Item → Prop) (marked : Order → List Item), t = killRasters a s →
    (∀ r i, hit r i ↔ r.state ≠ .free ∧ r.state ≠ .closed ∧ r.state ≠ .cancelled ∧ (i.state = .pending ∨ i.state = .active)
      ∧ i.aperture = a) →
    (∀ r, (marked r).length = r.items.length ∧ ∀ (k : Nat) i, r.items[k]? = some i →
      (hit r i → (marked r)[k]? = some { i with state := .unprintable }) ∧ (¬hit r i → (marked r)[k]? = some i)) →
    (∀ o, ((s.order o).state ≠ .priced → (s.order o).state ≠ .paid → (s.order o).state ≠ .printing → (s.order o).state ≠ .held →
            t.order o = { s.order o with items := marked (s.order o) })
        ∧ ((∀ i ∈ (s.order o).items, ¬hit (s.order o) i) → t.order o = s.order o ∧ t.note o = s.note o)
        ∧ ((s.order o).state = .priced → (∃ i ∈ (s.order o).items, hit (s.order o) i) →
            t.order o = { s.order o with items := marked (s.order o), state := .draft, hold := .none, placement := none, prices := none,
                                         draftReason := some .unprintable })
        ∧ ((s.order o).state = .paid ∨ (s.order o).state = .printing ∨ (s.order o).state = .held →
            (∃ i ∈ (s.order o).items, hit (s.order o) i) →
            t.order o = (settlementCheck o (s.onOrder o fun r => { r with items := marked (s.order o) })).order o
              ∧ ((t.order o).state = .settling → { order := o, attempts := 0 } ∈ t.terminal.pendingSettlements)
              ∧ ((∃ i ∈ marked (s.order o), (i.state ≠ .done ∧ i.state ≠ .unprintable) ∨ i.inFlight ≠ 0) →
                  t.order o = { s.order o with items := marked (s.order o) }))
        ∧ ∀ (k : Nat) i, s.note o = some k → (s.order o).items[k]? = some i → hit (s.order o) i → t.note o = none)
      ∧ (∀ p, (s.printer p).copy = none → (t.printer p).copy = none)
      ∧ (∀ p c i, (s.printer p).copy = some c → (s.order c.order).items[c.item]? = some i →
          (((s.order c.order).state = .paid ∨ (s.order c.order).state = .printing ∨ (s.order c.order).state = .held) →
              hit (s.order c.order) i → c.abortCause = none →
              (t.printer p).copy = some { c with abortCause := some .aborted, abortDeadline := some (s.clock + 2#32), beginWait := none }
                ∧ .abortCopy p c.id ∈ t.out ∧ look t.port.lines (requesterIndex (.printer p)) = [])
            ∧ (c.abortCause.isSome = true ∨ ¬hit (s.order c.order) i
                ∨ ((s.order c.order).state ≠ .paid ∧ (s.order c.order).state ≠ .printing ∧ (s.order c.order).state ≠ .held) →
              (t.printer p).copy = some c))
      ∧ (∀ e ∈ s.terminal.pendingSettlements, e ∈ t.terminal.pendingSettlements) ∧ t.bays = s.bays ∧ t.slots = s.slots
      ∧ t.stock = s.stock ∧ t.price = s.price ∧ t.apertures = s.apertures)
    ∧ (∀ (a : ApertureId) (b : BayId) (s t : State) (hit : Read → Bool) (dead : Read → Read),
    (∀ r, hit r = true ↔ (r.liveA = true ∧ r.apertureA = a) ∨ (r.mode = .alternate ∧ r.liveB = true ∧ r.apertureB = a)) →
    (∀ r, dead r = { r with liveA := r.liveA && r.apertureA != a, liveB := r.liveB && r.apertureB != a }) →
    t = ((s.bay b).waiting.filter hit).foldl (fun u r => endWaitingRead b .transferFault { r with faultedAperture := some a } u) s →
    ((∀ r, (s.bay b).active = some r → hit r = false) → killReads a b s = t)
      ∧ ∀ r, (s.bay b).active = some r → hit r = true →
        (r.ended = none → r.mark = none → killReads a b s =
            windDown b .transferFault (t.onBay b fun y => { y with active := some { dead r with faultedAperture := some a } }))
          ∧ (r.ended = none → r.mark.isSome = true → killReads a b s = t.onBay b fun y => { y with active := some (dead r) })
          ∧ (r.ended.isSome = true → killReads a b s = bayAdvance b
              { (t.onBay b fun y =>
                  { y with active := some (dead r),
                           half0 := if y.half0.state = .full then { state := .empty, blocks := 0, data := [] } else y.half0,
                           half1 := if y.half1.state = .full then { state := .empty, blocks := 0, data := [] } else y.half1 }) with
                port := { t.port with lines := upd t.port.lines (requesterIndex (.bay b)) fun _ => [] } }))
    ∧ (∀ (b : BayId) (s : State) (r : Read),
    ((s.slot r.slot).state = .taken → endWaitingRead b .transferFault r s =
        { ((s.onBay b fun y =>
            { y with waiting := y.waiting.filter (·.slot != r.slot),
                     last := some { slot := r.slot, status := .transferFault, clock := s.clock },
                     counts := { y.counts with readsOther := bump y.counts.readsOther } }).onSlot r.slot fun c =>
            { c with state := .done, status := .transferFault, reason := .none, completedAt := s.clock,
                     body := .read { generation := r.generation, serial := r.serial, delivered := 0, filled := 0, givenBack := 0, target := none,
                                     lastBytes := none, failing := none, waited := none, aperture := r.faultedAperture } }) with
          attnDone := true })
      ∧ ((s.bay b).active = some r → windDown b .transferFault s = bayAdvance b
          { (s.onBay b fun y =>
              { y with active := some { r with ended := some .transferFault, mark := none }, run := .idle, block := .stopped,
                       giveBackWait := false, waitLength := 0, waitLimit := false,
                       half0 := if y.half0.state = .writing then y.half0 else { state := .empty, blocks := 0, data := [] },
                       half1 := if y.half1.state = .writing then y.half1 else { state := .empty, blocks := 0, data := [] } }) with
            out := if ((s.bay b).run = .running ∨ (s.bay b).run = .clockStopped) ∧ (s.bay b).card.isSome = true then s.out ++ [.halt b]
              else s.out,
            port := { s.port with lines := upd s.port.lines (requesterIndex (.bay b)) fun _ => [] } })
      ∧ ∀ x (h : Fin 2) blocks cause, x.requester = .bay b → x.purpose = .half h blocks → tellOne x (.error cause) s = bayAdvance b
          (s.onBay b fun y =>
            { y with half0 := if h = 0 then { state := .empty, blocks := 0, data := [] } else y.half0,
                     half1 := if h = 0 then y.half1 else { state := .empty, blocks := 0, data := [] } }))
    ∧ ∀ (a : ApertureId) (s : State),
    (s.price.load = none → killLoad a s = s)
      ∧ ∀ l, s.price.load = some l →
        (l.aperture ≠ a ∨ l.areaDead = true → killLoad a s = s)
          ∧ (l.aperture = a → l.areaDead = false → l.fetching = true →
              killLoad a s = { s with price := { s.price with load := some { l with areaDead := true } } })
          ∧ ((s.slot l.slot).state = .taken → ∀ ended : State,
              ended = { (s.onSlot l.slot fun c =>
                          { c with state := .done, status := .transferFault, reason := .none, completedAt := s.clock,
                                   body := .loadFault l.aperture }) with
                        attnDone := true,
                        price := { s.price with load := none, last := some { outcome := .transferFault, clock := s.clock, failure := none },
                                                loadFailedLatched := true } } →
              (l.aperture = a → l.areaDead = false → l.fetching = false → killLoad a s = ended)
                ∧ ∀ x image cause, x.requester = .load → x.purpose = .image →
                    tellOne x (.error cause) s = ended ∧ (l.areaDead = true → tellOne x (.done image) s = ended))

/-- R150 to R154: SET_APERTURE: RANGE for a bad access code or range, STATE while the entry has live areas or a transfer in progress; else
the entry is rewritten, ACTIVE or DISABLED, its fault record gone. Each result shows the entry before and after, and the table. That the
reason is IN_USE where both hold is the model's choice (log entry 34). -/
def Obligations.SetApertureRewritesAnEntryOutOfUse : Prop :=
  ∀ (s : State) (n : SlotId) (rest : List SlotId) (a : ApertureId), Heads s .setAperture n rest → reqByte (s.slot n) 16 = a.val →
    (3 < reqByte (s.slot n) 17 ∨ reqField (s.slot n) 24 8 % 4096 ≠ 0 ∨ reqField (s.slot n) 32 8 % 4096 ≠ 0
        ∨ 4294967296 < reqField (s.slot n) 32 8 ∨ 2 ^ 64 < reqField (s.slot n) 24 8 + reqField (s.slot n) 32 8
        ∨ (reqByte (s.slot n) 17 = 0 ∧ reqField (s.slot n) 32 8 ≠ 0) ∨ (reqByte (s.slot n) 17 ≠ 0 ∧ reqField (s.slot n) 32 8 = 0) →
        EndsAs (exec .setAperture s) (answered n rest .range .none (apertureBody a s s) s.quiet))
      ∧ ∀ access : Access, reqByte (s.slot n) 17 = accessCode access → reqField (s.slot n) 24 8 % 4096 = 0 →
        reqField (s.slot n) 32 8 % 4096 = 0 → reqField (s.slot n) 32 8 ≤ 4294967296 →
        reqField (s.slot n) 24 8 + reqField (s.slot n) 32 8 ≤ 2 ^ 64 → (access = .none ↔ reqField (s.slot n) 32 8 = 0) →
        (0 < s.useCount a → EndsAs (exec .setAperture s) (answered n rest .state .inUse (apertureBody a s s) s.quiet))
          ∧ (s.useCount a = 0 → (∃ g ∈ s.port.granted, g.outcome = none ∧ g.transfer.aperture = a) →
              EndsAs (exec .setAperture s) (answered n rest .state .transferActive (apertureBody a s s) s.quiet))
          ∧ (s.useCount a = 0 → (∀ g ∈ s.port.granted, g.outcome = none → g.transfer.aperture ≠ a) → ∀ u,
              u = s.quiet.onAperture a (fun _ =>
                { base := reqField (s.slot n) 24 8, limit := reqField (s.slot n) 32 8, access := access,
                  state := if access = .none then .disabled else .active, fault := none }) →
              EndsAs (exec .setAperture s) (answered n rest .ok .none (apertureBody a s u) u))

/-- R178: SET_TIMERS: each setting whose mask bit is set takes its value brought into its range, the others stay; the result shows the four
settings and which were moved to a bound. -/
def Obligations.SetTimersClampsEachSetting : Prop :=
  ∀ (s : State) (n : SlotId) (rest : List SlotId), Heads s .setTimers n rest → ∃ u i h a g,
    EndsAs (exec .setTimers s) (answered n rest .ok .none (.timers u i h a g) { s.quiet with timers := u })
      ∧ u.idle = (if (reqByte (s.slot n) 16).testBit 0 then max 30 (min 600 (reqField (s.slot n) 20 4)) else s.timers.idle)
      ∧ u.quoteHold = (if (reqByte (s.slot n) 16).testBit 1 then max 60 (min 900 (reqField (s.slot n) 24 4)) else s.timers.quoteHold)
      ∧ u.authorization = (if (reqByte (s.slot n) 16).testBit 2 then max 30 (min 180 (reqField (s.slot n) 28 4)) else s.timers.authorization)
      ∧ u.grace = (if (reqByte (s.slot n) 16).testBit 3 then max 30 (min 600 (reqField (s.slot n) 32 4)) else s.timers.grace)
      ∧ (i = true ↔ (reqByte (s.slot n) 16).testBit 0 = true ∧ (reqField (s.slot n) 20 4 < 30 ∨ 600 < reqField (s.slot n) 20 4))
      ∧ (h = true ↔ (reqByte (s.slot n) 16).testBit 1 = true ∧ (reqField (s.slot n) 24 4 < 60 ∨ 900 < reqField (s.slot n) 24 4))
      ∧ (a = true ↔ (reqByte (s.slot n) 16).testBit 2 = true ∧ (reqField (s.slot n) 28 4 < 30 ∨ 180 < reqField (s.slot n) 28 4))
      ∧ (g = true ↔ (reqByte (s.slot n) 16).testBit 3 = true ∧ (reqField (s.slot n) 32 4 < 30 ∨ 600 < reqField (s.slot n) 32 4))

/-- R146: SHIFT_CLOSE copies the whole till into the result with the current CLOCK, and begins a new shift with zero counts and sums; the
void list and any exchange in progress stay. In a station slot it completes PRIVILEGE. -/
def Obligations.ShiftCloseReadsAndZeroesTheTill : Prop :=
  (∀ (s : State) (n : SlotId) (rest : List SlotId), Heads s .shiftClose n rest →
    EndsAs (exec .shiftClose s)
      (answered n rest .ok .none (.shift s.clock s.terminal.till)
        { s.quiet with
          terminal := { s.terminal with
            till := { openedAt := s.clock, approvals := TillPair.zero, captures := TillPair.zero, voids := TillPair.zero,
                      uncollected := TillPair.zero, abandoned := TillPair.zero } } }))
    ∧ ∀ (s : State) (n : SlotId) (rest : List SlotId), s.part = .run → s.intake = n :: rest → kindCode (s.slot n) = Kind.shiftClose.code →
        formatGood .shiftClose (s.slot n) = true → n.val < 56 →
        EndsAs (exec .shiftClose s) (answered n rest .privilege .none .zero s.quiet)

/-- R100, R119, R123, R133, R140, R147, R179: RESET_UNIT restarts a bay, a printer's link or the terminal's link, and completes OK in the same
taking with what it ended. A bay's waiting reads end UNIT_DOWN, and so does its active one, or with the cause it was marked with, once no
half of it is WRITING; the card is halted and forgotten. A printer's copy is aborted and ends with its full units, judged for a retry by the
figures from before; then the port clears, the printer is ABSENT and its grace starts if it was READY, PRINTING or PAUSED. The terminal's
holding ends as at a link loss: an open authorization TERMINAL_LOST and its reference to the void list, as that of an aborting exchange or
a follow-up void, a settlement back to pending, a list void left; then every waiting PAY ends ABORTED. That the count of reads ended leaves
out one that winds down already is log entry 26's, that such a read keeps its cause and its halves log entry 38's, that the terminal's link
then reads SILENT log entry 21's. That a printer's pending service entry is withdrawn before its copy ends, so that the retry and the grace
are as without it and the printer ends ABSENT, is log entry 18's, where R100 ends the copy first and R99 brings SERVICE at its end. That a
marked read ends at once with the cause that marked it, where R123 says UNIT_DOWN of every read, is log entry 25's. All five are the model's
reading. -/
def Obligations.ResetUnitRestartsAUnit : Prop :=
  ∀ (s : State) (n : SlotId) (rest : List SlotId), Heads s .resetUnit n rest →
    (reqByte (s.slot n) 16 ≠ 1 → reqByte (s.slot n) 16 ≠ 2 → reqByte (s.slot n) 16 ≠ 3 →
        EndsAs (exec .resetUnit s) (answered n rest .range .none .zero s.quiet))
      ∧ (∀ b : BayId, reqByte (s.slot n) 16 = 1 → reqByte (s.slot n) 17 = b.val → noRead s n → ∃ u,
          ThenSettles (exec .resetUnit s) s.quiet u ∧ (u.slot n).state = .done ∧ (u.slot n).status = .ok ∧ u.intake = rest
            ∧ (u.bay b).card = none ∧ (u.bay b).run = .idle ∧ (u.bay b).waiting = [] ∧ (u.bay b).generation = (s.bay b).generation
            ∧ (u.bay b).latched = (s.bay b).latched ∧ (u.bay b).identify = .stopped ∧ (u.bay b).block = .stopped
            ∧ (u.bay b).giveBackWait = false
            ∧ (u.slot n).body = .resetBay (s.bay b).generation ((s.bay b).waiting.length
                + (match (s.bay b).active with | some r => if r.ended.isSome then 0 else 1 | none => 0))
            ∧ ((s.bay b).contact = true → (u.bay b).state = .settling ∧ (u.bay b).settle = .running 250)
            ∧ ((s.bay b).contact = false → (u.bay b).state = .empty ∧ (u.bay b).settle = .stopped)
            ∧ (∀ r ∈ (s.bay b).waiting, (s.slot r.slot).state = .taken →
                (u.slot r.slot).state = .done ∧ (u.slot r.slot).status = .unitDown)
            ∧ ((s.bay b).active = none → (u.bay b).active = none ∧ u.out = [])
            ∧ (∀ r, (s.bay b).active = some r → r.ended.isSome = true →
                (u.bay b).active = some r ∧ (u.bay b).half0 = (s.bay b).half0 ∧ (u.bay b).half1 = (s.bay b).half1 ∧ u.out = [])
            ∧ (∀ r cause st final, (s.bay b).active = some r → r.ended = none →
                (r.mark = none ∧ cause = .unitDown ∧ st = .unitDown)
                  ∨ (r.mark = some .cancelled ∧ cause = .cancelled ∧ st = .cancelled)
                  ∨ (r.mark = some .sessionEnded ∧ cause = .sessionEnded ∧ st = .sessionEnded) →
                final = (if r.mode = .alternate ∧ r.filled * r.chunk < r.delivered * 512 then { r with filled := r.filled + 1 } else r) →
                (s.slot r.slot).state = .taken → (∀ x ∈ (s.bay b).waiting, x.slot ≠ r.slot) →
                u.out = (if ((s.bay b).run = .running ∨ (s.bay b).run = .clockStopped) ∧ (s.bay b).card.isSome = true then [.halt b] else [])
                  ∧ (u.bay b).half0 = (if (s.bay b).half0.state = .writing then (s.bay b).half0 else { state := .empty, blocks := 0, data := [] })
                  ∧ (u.bay b).half1 = (if (s.bay b).half1.state = .writing then (s.bay b).half1 else { state := .empty, blocks := 0, data := [] })
                  ∧ ((s.bay b).half0.state ≠ .writing → (s.bay b).half1.state ≠ .writing →
                      (u.bay b).active = none ∧ (u.slot r.slot).state = .done ∧ (u.slot r.slot).status = st
                        ∧ (u.slot r.slot).body = .read (finalReadResult final))
                  ∧ ((s.bay b).half0.state = .writing ∨ (s.bay b).half1.state = .writing →
                      (u.bay b).active = some { r with ended := some cause, mark := none } ∧ u.slot r.slot = s.slot r.slot))
            ∧ (∀ c, c ≠ b → u.bay c = s.bay c) ∧ u.orders = s.orders ∧ u.sessions = s.sessions ∧ u.terminal = s.terminal)
      ∧ (∀ p : PrinterId, reqByte (s.slot n) 16 = 2 → reqByte (s.slot n) 17 = p.val → ∃ u,
          ThenSettles (exec .resetUnit s) s.quiet u ∧ (u.slot n).state = .done ∧ (u.slot n).status = .ok ∧ u.intake = rest
            ∧ (u.printer p).state = .absent ∧ (u.printer p).copy = none ∧ (u.printer p).watch = none
            ∧ (u.printer p).servicePending = false ∧ (u.printer p).overheatLock = false ∧ (u.printer p).head = none
            ∧ (u.printer p).pack = (s.printer p).pack ∧ (u.printer p).nextCopyId = (s.printer p).nextCopyId
            ∧ (u.printer p).linkHeard = false ∧ (u.printer p).latched = (s.printer p).latched
            ∧ (u.printer p).linkChangedAt = (if (s.printer p).linkHeard = true then some s.clock else (s.printer p).linkChangedAt)
            ∧ (u.printer p).live = { reported := Conditions.absent, linkSilent := false }
            ∧ (u.slot n).body = .resetPrinter .absent (((s.printer p).copy.map (·.id)).getD 0)
            ∧ ((s.printer p).copy = none → (u.printer p).last = (s.printer p).last ∧ u.orders = s.orders ∧ u.out = [])
            ∧ (∀ c v, (s.printer p).copy = some c → v = s.onPrinter p (fun q => { q with servicePending := false }) →
                u.out = (if c.abortCause = none then [.abortCopy p c.id] else [])
                  ∧ (u.printer p).last = some { id := c.id, result := finalResult c .aborted, consumed := sizeUnits c.size }
                  ∧ (u.printer p).counts = ((endCopy p .aborted (sizeUnits c.size) v).printer p).counts
                  ∧ u.orders = (endCopy p .aborted (sizeUnits c.size) v).orders
                  ∧ u.retryNotes = (endCopy p .aborted (sizeUnits c.size) v).retryNotes)
            ∧ ((s.printer p).state ≠ .absent → u.entry p =
                { reported := (s.entry p).reported, pendingConsumption := 0,
                  grace := if (s.printer p).state = .ready ∨ (s.printer p).state = .printing ∨ (s.printer p).state = .paused
                    then some (s.clock + BitVec.ofNat 32 s.timers.grace) else (s.entry p).grace })
            ∧ ((s.printer p).state = .absent → (s.printer p).copy = none → u.entry p = s.entry p)
            ∧ (∀ q, q ≠ p → u.entry q = s.entry q) ∧ u.bays = s.bays ∧ u.apertures = s.apertures)
      ∧ (reqByte (s.slot n) 16 = 3 → noPay s n → ∃ u,
          ThenSettles (exec .resetUnit s) s.quiet u ∧ (u.slot n).state = .done ∧ (u.slot n).status = .ok ∧ u.intake = rest
            ∧ (u.slot n).body = .resetTerminal s.terminal.state (lostReference s)
            ∧ u.terminal.state = .absent ∧ u.terminal.holder = none ∧ u.terminal.waitList = [] ∧ u.terminal.watch = none
            ∧ u.terminal.linkHeard = false ∧ u.terminal.linkSilentLive = false
            ∧ u.terminal.nextReference = s.terminal.nextReference ∧ u.terminal.till.captures = s.terminal.till.captures
            ∧ u.terminal.till.approvals = s.terminal.till.approvals ∧ u.bays = s.bays ∧ u.stock = s.stock)
      ∧ (reqByte (s.slot n) 16 = 3 → ∀ (taken lost : State) (ended : W16), taken = takeSlot n rest s.quiet →
          (s.terminal.holder = none ∧ ended = 0 ∧ lost = taken)
            ∨ (∃ h, s.terminal.holder = some h ∧
                ((∃ m o, h.kind = .authorization ∧ h.slot = some m ∧ h.order = some o ∧ ended = h.reference
                    ∧ lost = (joinVoid h.reference h.amount 0 (endPay m o .terminalLost none none none taken)).onTerminal fun t =>
                        { t with latched := { t.latched with authLost := true } })
                  ∨ ((h.kind = .authorization ∧ h.slot = none ∨ h.kind = .followUpVoid) ∧ ended = 0
                    ∧ lost = joinVoid h.reference h.amount 0 taken)
                  ∨ (∃ o, h.kind = .settlement ∧ h.order = some o ∧ ended = 0 ∧ lost = taken.onTerminal fun t =>
                        { t with pendingSettlements := insertSettlement { order := o, attempts := h.attempts } t.pendingSettlements })
                  ∨ (h.kind = .listVoid ∧ ended = 0 ∧ lost = taken))) →
          ThenSettles (exec .resetUnit s) s.quiet
            (complete n .ok .none (.resetTerminal s.terminal.state ended)
              ((s.terminal.waitList.foldl (fun u e => endPay e.slot e.order .aborted none none none u)
                (lost.onTerminal fun t =>
                  { t with state := .absent, watch := none, holder := none, linkHeard := false, waitList := [],
                           linkChangedAt := if t.linkHeard then some s.clock else t.linkChangedAt })).onTerminal fun t =>
                { t with linkSilentLive := false })))

/-- R64, R66, R90, R99: PRINTER_SERVICE by action and printer: ENTER puts a printer into SERVICE at once or, with a copy in flight, when it
ends; LEAVE withdraws a pending entry or, on a healthy link, takes the state last reported; the other cases complete STATE with their
reason. That such a refusal carries no result fields is the model's choice (log entry 18). The last clause: at the end of the copy a
pending entry takes effect, after the order and the stock table have had the end, as they would without the entry. -/
def Obligations.PrinterServiceEntersAndLeaves : Prop :=
  (∀ (s : State) (n : SlotId) (rest : List SlotId) (p : PrinterId), Heads s .printerService n rest → reqByte (s.slot n) 16 = p.val →
    (1 < reqByte (s.slot n) 17 → EndsAs (exec .printerService s) (answered n rest .range .none .zero s.quiet))
      ∧ (reqByte (s.slot n) 17 = 0 →
        ((s.printer p).state = .service → EndsAs (exec .printerService s) (answered n rest .state .already .zero s.quiet))
          ∧ ((s.printer p).state ≠ .service → (s.printer p).copy.isSome = true → ThenSettles (exec .printerService s) s.quiet
              (answered n rest .ok .none (.service (s.printer p).state true)
                (s.quiet.onPrinter p fun q => { q with servicePending := true })))
          ∧ ((s.printer p).state ≠ .service → (s.printer p).copy = none → (s.printer p).servicePending = false →
              ThenSettles (exec .printerService s) s.quiet
                (answered n rest .ok .none (.service .service false)
                  ((s.quiet.onPrinter p fun q => { q with state := .service, statusInService := false }).onEntry p fun e =>
                    { e with grace := none, pendingConsumption := 0 }))))
      ∧ (reqByte (s.slot n) 17 = 1 →
        ((s.printer p).servicePending = true → ThenSettles (exec .printerService s) s.quiet
            (answered n rest .ok .none (.service (s.printer p).state false)
              (s.quiet.onPrinter p fun q => { q with servicePending := false })))
          ∧ ((s.printer p).servicePending = false → (s.printer p).state ≠ .service →
              EndsAs (exec .printerService s) (answered n rest .state .notInService .zero s.quiet))
          ∧ ((s.printer p).servicePending = false → (s.printer p).state = .service →
              (s.printer p).live.linkSilent = true ∨ (s.printer p).statusInService = false →
              EndsAs (exec .printerService s) (answered n rest .state .notHealthy .zero s.quiet))
          ∧ ∀ report, (s.printer p).servicePending = false → (s.printer p).state = .service → (s.printer p).live.linkSilent = false →
              (s.printer p).statusInService = true → (s.printer p).lastReport = some report →
              ∃ u new, ThenSettles (exec .printerService s) s.quiet (answered n rest .ok .none (.service new false) u)
                ∧ new = (if (s.printer p).overheatLock = true then .faulted else reportState report)
                ∧ u.printer p = { s.printer p with state := new } ∧ (∀ q, q ≠ p → u.printer q = s.printer q)
                ∧ (u.entry p).reported = (s.entry p).reported ∧ u.orders = s.orders ∧ u.bays = s.bays ∧ u.slots = s.slots))
    ∧ ∀ (p : PrinterId) (s t : State) (c : Copy) (result : CopyResult) (consumed : Nat), (s.printer p).copy = some c →
    (s.printer p).servicePending = true → (s.printer p).state ≠ .service → t = endCopy p result consumed s →
    (t.printer p).state = .service ∧ (t.printer p).servicePending = false ∧ (t.printer p).statusInService = false
      ∧ (t.printer p).copy = none
      ∧ (t.printer p).last = some { id := c.id, result := finalResult c result, consumed := min consumed (sizeUnits c.size) }
      ∧ t.entry p = { reported := (s.entry p).reported, pendingConsumption := 0, grace := none }
      ∧ t.orders = (endCopy p result consumed (s.onPrinter p fun q => { q with servicePending := false })).orders
      ∧ t.retryNotes = (endCopy p result consumed (s.onPrinter p fun q => { q with servicePending := false })).retryNotes
      ∧ (∀ q, q ≠ p → t.entry q = s.entry q ∧ (t.printer q).state = (s.printer q).state)

/-! ## Printers -/

/-- R75, R79, R81, R92, R93 to R97: a good STATUS frame: it ends the copy it names, or one its fault ends; it gives the printer its state,
conditions, head class, lock and pack, and the stock table its stock. A pack other than the one recorded is counted and latched. A copy ended
by the fault has ABORT_COPY sent, unless one is outstanding, and the result OVERHEAT under the lock, else JAM, MEDIA_OUT or, with neither, what
its abort gives. A printer in SERVICE keeps its state. R99: with an entry to SERVICE
pending, a frame that ends the copy leaves the printer in SERVICE. That only an accepted NEXT_STRIPE, one that counts in the highest stripe
asked for, is the printer's answer by which a READY drops the copy is the model's choice (log entry 17). -/
def Obligations.StatusFramesAreApplied : Prop :=
  (∀ (p : PrinterId) (f : StatusFrame) (s : State) (lock : Bool) (new : PrinterState), s.part = .run →
    lock = (f.conditions.overheat || ((s.printer p).overheatLock && !(f.head == .cool && f.conditions == Conditions.absent))) →
    new = (if (s.printer p).state = .service then .service else if lock = true then .faulted else reportState f.report) →
    (s.printer p).servicePending = false →
    ∃ u, ThenSettles (exec (.status p f) s) s.quiet u
      ∧ (u.printer p).state = new ∧ (u.printer p).overheatLock = lock ∧ (u.printer p).head = some f.head
      ∧ (u.printer p).live = { reported := f.conditions, linkSilent := false }
      ∧ (u.printer p).watch = some (s.clock + 1#32) ∧ (u.printer p).linkHeard = true ∧ (u.printer p).pack = some f.pack
      ∧ (u.printer p).packChanges = (if (s.printer p).packFirst = true ∨ (s.printer p).pack = some f.pack then (s.printer p).packChanges
                                     else bump (s.printer p).packChanges)
      ∧ (u.printer p).latched.packChanged = ((s.printer p).latched.packChanged
          || !((s.printer p).packFirst || (s.printer p).pack == some f.pack)) ∧ (u.printer p).packFirst = false
      ∧ (f.conditions.jam = true → (s.printer p).live.reported.jam = false → (u.printer p).latched.reported.jam = true)
      ∧ (f.conditions.mediaOut = true → (s.printer p).live.reported.mediaOut = false → (u.printer p).latched.reported.mediaOut = true)
      ∧ (f.conditions.doorOpen = true → (s.printer p).live.reported.doorOpen = false → (u.printer p).latched.reported.doorOpen = true)
      ∧ (f.conditions.headCooling = true → (s.printer p).live.reported.headCooling = false →
          (u.printer p).latched.reported.headCooling = true)
      ∧ (f.conditions.overheat = true → (u.printer p).latched.overheatStop = true ∧ (u.printer p).latched.reported.overheat = true
          ∧ (f.conditions.jam = true → (u.printer p).latched.reported.jam = true))
      ∧ (u.entry p).reported = min f.stock.toNat 4000 ∧ (u.entry p).pendingConsumption = 0
      ∧ (new = .ready ∨ new = .printing ∨ new = .paused → (s.printer p).state ≠ new → (u.entry p).grace = none)
      ∧ (new = .faulted → (s.printer p).state = .ready ∨ (s.printer p).state = .printing ∨ (s.printer p).state = .paused →
          (u.entry p).grace = some (s.clock + BitVec.ofNat 32 s.timers.grace))
      ∧ ((s.printer p).state = new → (u.entry p).grace = (s.entry p).grace)
      ∧ ((s.printer p).copy = none → (u.printer p).copy = none ∧ (u.printer p).last = (s.printer p).last ∧ u.orders = s.orders ∧ u.out = [])
      ∧ (∀ c, (s.printer p).copy = some c → f.lastCopy = c.id → (u.printer p).copy = none ∧ (u.printer p).last =
          some { id := c.id, result := finalResult c (resultOfCode f.lastResult), consumed := min f.consumed.toNat (sizeUnits c.size) }
          ∧ u.out = [])
      ∧ (∀ c, (s.printer p).copy = some c → f.lastCopy ≠ c.id → f.report = .ready → c.highest.isSome = true →
          (u.printer p).copy = none ∧ (u.printer p).last =
            some { id := c.id, result := finalResult c .aborted, consumed := sizeUnits c.size } ∧ u.out = [])
      ∧ (∀ c, (s.printer p).copy = some c → f.lastCopy ≠ c.id → f.report ≠ .ready ∨ c.highest = none → new ≠ .faulted →
          (u.printer p).copy = some c ∧ u.out = [])
      ∧ (∀ c, (s.printer p).copy = some c → f.lastCopy ≠ c.id → f.report ≠ .ready ∨ c.highest = none → new = .faulted →
          (u.printer p).copy = none ∧ ∃ r, (u.printer p).last = some { id := c.id, result := r, consumed := sizeUnits c.size }
            ∧ (lock = true → r = .overheat) ∧ (lock = false → f.conditions.jam = true → r = .jam)
            ∧ (lock = false → f.conditions.jam = false → f.conditions.mediaOut = true → r = .mediaOut)
            ∧ (lock = false → f.conditions.jam = false → f.conditions.mediaOut = false → r = finalResult c .aborted)
            ∧ u.out = (if c.abortCause = none then [.abortCopy p c.id] else []))
      ∧ (∀ q, q ≠ p → (u.printer q).state = (s.printer q).state ∧ (u.printer q).copy = (s.printer q).copy ∧ u.entry q = s.entry q)
      ∧ u.slots = s.slots ∧ u.bays = s.bays ∧ u.apertures = s.apertures ∧ u.price = s.price)
    ∧ ∀ (p : PrinterId) (f : StatusFrame) (s : State) (c : Copy) (lock : Bool), s.part = .run → (s.printer p).servicePending = true →
    (s.printer p).state ≠ .service → (s.printer p).copy = some c →
    lock = (f.conditions.overheat || ((s.printer p).overheatLock && !(f.head == .cool && f.conditions == Conditions.absent))) →
    (f.lastCopy = c.id ∨ (f.report = .ready ∧ c.highest.isSome = true) ∨ lock = true ∨ f.report = .faulted →
      ∃ u, ThenSettles (exec (.status p f) s) s.quiet u
        ∧ (u.printer p).state = .service ∧ (u.printer p).servicePending = false ∧ (u.printer p).copy = none
        ∧ (u.printer p).overheatLock = lock ∧ (u.printer p).head = some f.head
        ∧ (u.printer p).live = { reported := f.conditions, linkSilent := false } ∧ (u.printer p).pack = some f.pack
        ∧ u.entry p = { reported := min f.stock.toNat 4000, pendingConsumption := 0, grace := none }
        ∧ (u.printer p).latched.packChanged = ((s.printer p).latched.packChanged
            || !((s.printer p).packFirst || (s.printer p).pack == some f.pack))
        ∧ (f.lastCopy = c.id → (u.printer p).last =
            some { id := c.id, result := finalResult c (resultOfCode f.lastResult), consumed := min f.consumed.toNat (sizeUnits c.size) }
            ∧ u.out = [])
        ∧ (f.lastCopy ≠ c.id → f.report = .ready → c.highest.isSome = true → (u.printer p).last =
            some { id := c.id, result := finalResult c .aborted, consumed := sizeUnits c.size } ∧ u.out = [])
        ∧ (f.lastCopy ≠ c.id → f.report ≠ .ready ∨ c.highest = none → ∃ r,
            (u.printer p).last = some { id := c.id, result := r, consumed := sizeUnits c.size }
              ∧ (lock = true → r = .overheat) ∧ (lock = false → f.conditions.jam = true → r = .jam)
              ∧ (lock = false → f.conditions.jam = false → f.conditions.mediaOut = true → r = .mediaOut)
              ∧ (lock = false → f.conditions.jam = false → f.conditions.mediaOut = false → r = finalResult c .aborted)
              ∧ u.out = (if c.abortCause = none then [.abortCopy p c.id] else [])))
      ∧ (f.lastCopy ≠ c.id → f.report ≠ .ready ∨ c.highest = none → lock = false → f.report ≠ .faulted →
        ∃ u, ThenSettles (exec (.status p f) s) s.quiet u
          ∧ (u.printer p).state = reportState f.report ∧ (u.printer p).servicePending = true ∧ (u.printer p).copy = some c)

/-- R34, R83, R91: a copy begins on a READY or PRINTING printer without a copy in flight or a pending service entry: the next copy of the order
nearest the queue's head that has one. R80, R81, R85, R86, R88: its stripes: a new request is fetched in 11 transfers into the target buffer,
a stripe held in a SENT buffer is asked for again, any other request is only counted; HOLD and RESUME pause and resume its underrun timers
and hold back its frames; the end of a STRIPE frame leaves its buffer SENT. The lowest stripe asked for and not started is sent next, once its
buffer is FULL or SENT and no hold, abort or frame on the wire stops it. That a new request takes the target buffer whatever that holds,
that a repeat whose buffer is so taken is passed over, and that a request out of sequence leaves the begin-answer limit running, is the
model's choice (log entry 17). On a live link every such frame restarts the watch, and from a printer in SERVICE it clears the live
LINK_SILENT (that the link then reads HEARD is the model's reading, log entry 18); from an ABSENT or OFFLINE printer it is only counted stray
(that this holds of a NEXT_STRIPE too, where R85 counts a sequence error, is the model's choice, log entry 47). A discarded frame is only
counted. The last transfer of a fetch that ends without
error makes its buffer FULL; its data is discarded once the copy is being aborted or has ended, and a link error gives the buffer up (that it
is then EMPTY is the model's choice, log entry 40). -/
def Obligations.StripesAreAskedForAndSent : Prop :=
  (∀ (p : PrinterId) (s : State),
    ((s.printer p).state ≠ .ready ∧ (s.printer p).state ≠ .printing ∨ (s.printer p).copy.isSome = true ∨ (s.printer p).servicePending = true
        ∨ (∀ o ∈ (s.printer p).queue, ((s.order o).state ≠ .paid ∧ (s.order o).state ≠ .printing)
            ∨ ∀ i ∈ (s.order o).items, remaining i = 0) → beginCheck p s = s)
      ∧ ∀ (o : OrderId) (early late : List OrderId) (before after : List Item) (i : Item) (t : State),
        (s.printer p).state = .ready ∨ (s.printer p).state = .printing → (s.printer p).copy = none → (s.printer p).servicePending = false →
        (s.printer p).queue = early ++ o :: late →
        (∀ x ∈ early, ((s.order x).state ≠ .paid ∧ (s.order x).state ≠ .printing) ∨ ∀ k ∈ (s.order x).items, remaining k = 0) →
        (s.order o).state = .paid ∨ (s.order o).state = .printing → (s.order o).items = before ++ i :: after →
        (∀ k ∈ before, remaining k = 0) → 0 < remaining i → t = beginCheck p s →
        t.printer p = { s.printer p with
            nextCopyId := if (s.printer p).nextCopyId = 0xFFFF#16 then 1#16 else (s.printer p).nextCopyId + 1,
            bufferA := { state := .empty, data := [] }, bufferB := { state := .empty, data := [] }, target := .a,
            copy := some
              { id := (s.printer p).nextCopyId, order := o, item := before.length, size := i.size, finish := i.finish,
                attempt := if s.note o = some before.length then 2 else 1, highest := none, sent := 0, requests := [], held := false,
                abortCause := none, releasedEarly := false, beginWait := some { sends := 1, deadline := s.clock + 2#32 },
                abortDeadline := none } }
          ∧ t.order o = { s.order o with state := .printing, items := before ++
              { i with inFlight := i.inFlight + 1, state := if i.state = .pending then .active else i.state } :: after }
          ∧ t.note o = (if s.note o = some before.length then none else s.note o)
          ∧ t.out = s.out ++ [.beginCopy p (s.printer p).nextCopyId i.size i.finish]
          ∧ (∀ x, x ≠ o → t.order x = s.order x ∧ t.note x = s.note x) ∧ (∀ q, q ≠ p → t.printer q = s.printer q)
          ∧ { t with orders := s.orders, retryNotes := s.retryNotes, printers := s.printers, out := s.out } = s)
    ∧ (∀ (p : PrinterId) (s : State), s.part = .run → (s.printer p).state ≠ .absent → (s.printer p).state ≠ .offline →
    (∀ (c : Copy) (item : Item) (n : W16), (s.printer p).copy = some c → c.abortCause = none → c.requests.length < 2 →
        (s.order c.order).items[c.item]? = some item → n.toNat = (match c.highest with | some h => h + 1 | none => 0) →
        n.toNat < sizeStripes c.size →
        ∃ u fetch, ThenSettles (exec (.nextStripe p n) s) s.quiet u
          ∧ (u.printer p).copy = some { c with highest := some n.toNat, beginWait := none, requests := c.requests ++
              [{ stripe := n.toNat, started := false, timer := if c.held = true then .paused 500 else .running 500 }] }
          ∧ ((u.printer p).buffer (s.printer p).target).state = .filling n.toNat
          ∧ (u.printer p).buffer (otherTarget (s.printer p).target) = (s.printer p).buffer (otherTarget (s.printer p).target)
          ∧ (u.printer p).target = otherTarget (s.printer p).target
          ∧ (u.printer p).watch = some (s.clock + 1#32) ∧ (u.printer p).live = ((frameHeard p s.quiet).printer p).live
          ∧ (u.printer p).linkHeard = ((frameHeard p s.quiet).printer p).linkHeard
          ∧ look u.port.lines (requesterIndex (.printer p)) = look s.port.lines (requesterIndex (.printer p)) ++ fetch
          ∧ fetch.map (·.length) = List.replicate 10 4096 ++ [2240]
          ∧ (∀ k t, fetch[k]? = some t → t.address = item.address + n.toNat * 43200 + 4096 * k ∧ t.aperture = item.aperture
              ∧ t.direction = .read ∧ t.purpose = .stripe c.id n.toNat (s.printer p).target (k == 10))
          ∧ u.orders = s.orders ∧ u.slots = s.slots ∧ u.bays = s.bays)
      ∧ (∀ (c : Copy) (n : W16), (s.printer p).copy = some c → c.abortCause = none → c.requests.length < 2 →
          n.toNat ≠ (match c.highest with | some h => h + 1 | none => 0) ∨ sizeStripes c.size ≤ n.toNat →
          (s.printer p).bufferA.state = .sent n.toNat ∨ (s.printer p).bufferB.state = .sent n.toNat →
          ThenSettles (exec (.nextStripe p n) s) s.quiet
            (trySend p ((frameHeard p s.quiet).onPrinter p fun q =>
              { q with copy := some { c with beginWait := none, requests := c.requests ++
                  [{ stripe := n.toNat, started := false, timer := if c.held = true then .paused 500 else .running 500 }] } })))
      ∧ (∀ n : W16, (s.printer p).copy = none ∨ (∃ c, (s.printer p).copy = some c ∧ (c.abortCause.isSome = true ∨ 2 ≤ c.requests.length
            ∨ ((n.toNat ≠ (match c.highest with | some h => h + 1 | none => 0) ∨ sizeStripes c.size ≤ n.toNat)
              ∧ (s.printer p).bufferA.state ≠ .sent n.toNat ∧ (s.printer p).bufferB.state ≠ .sent n.toNat))) →
          ThenSettles (exec (.nextStripe p n) s) s.quiet
            ((frameHeard p s.quiet).onPrinter p fun q => { q with counts := { q.counts with sequence := bump q.counts.sequence } }))
      ∧ (∀ c, (s.printer p).copy = some c → c.held = false → EndsAs (exec (.hold p) s)
          ((frameHeard p s.quiet).onPrinter p fun q =>
            { q with copy := some { c with held := true, requests := c.requests.map fun r => { r with timer := r.timer.pause } } }))
      ∧ ((s.printer p).copy = none ∨ (∃ c, (s.printer p).copy = some c ∧ c.held = true) → EndsAs (exec (.hold p) s)
          ((frameHeard p s.quiet).onPrinter p fun q => { q with counts := { q.counts with stray := bump q.counts.stray } }))
      ∧ (∀ c, (s.printer p).copy = some c → c.held = true → EndsAs (exec (.resume p) s)
          (trySend p ((frameHeard p s.quiet).onPrinter p fun q =>
            { q with copy := some { c with held := false, requests := c.requests.map fun r => { r with timer := r.timer.resume } } })))
      ∧ ((s.printer p).copy = none ∨ (∃ c, (s.printer p).copy = some c ∧ c.held = false) → EndsAs (exec (.resume p) s)
          ((frameHeard p s.quiet).onPrinter p fun q => { q with counts := { q.counts with stray := bump q.counts.stray } })))
    ∧ (∀ (p : PrinterId) (s : State), s.part = .run →
    (∀ c x, (s.printer p).copy = some c → (s.printer p).transmitting = some x → c.id = x.copyId → EndsAs (exec (.stripeSent p) s)
        (trySend p (s.quiet.onPrinter p fun q =>
          { q with transmitting := none, bufferA := sentBuffer x.stripe q.bufferA, bufferB := sentBuffer x.stripe q.bufferB,
                   copy := some { c with sent := max c.sent (x.stripe + 1),
                                         requests := c.requests.filter fun r => !(r.started && r.stripe == x.stripe) } })))
      ∧ (∀ c x, (s.printer p).copy = some c → (s.printer p).transmitting = some x → c.id ≠ x.copyId → EndsAs (exec (.stripeSent p) s)
          (trySend p (s.quiet.onPrinter p fun q => { q with transmitting := none })))
      ∧ (∀ x, (s.printer p).copy = none → (s.printer p).transmitting = some x → EndsAs (exec (.stripeSent p) s)
          (s.quiet.onPrinter p fun q => { q with transmitting := none }))
      ∧ (∀ raw, EndsAs (exec (.printerFrameDiscarded p raw) s)
          (s.quiet.onPrinter p fun q => { q with counts := { q.counts with discarded := bump q.counts.discarded } }))
      ∧ ((s.printer p).state = .absent ∨ (s.printer p).state = .offline → ∀ u,
          u = (s.quiet.onPrinter p fun q => { q with counts := { q.counts with stray := bump q.counts.stray } }) →
          EndsAs (exec (.hold p) s) u ∧ EndsAs (exec (.resume p) s) u ∧ (∀ n, ThenSettles (exec (.nextStripe p n) s) s.quiet u)
            ∧ ∀ id result consumed, ThenSettles (exec (.copyDone p id result consumed) s) s.quiet u))
    ∧ (∀ (b : StripeBuffer) (n : Nat),
    (b.stripe = some n ↔ b.state = .filling n ∨ b.state = .full n ∨ b.state = .sending n ∨ b.state = .sent n)
      ∧ (b.state = .sending n → sentBuffer n b = { b with state := .sent n }) ∧ (b.state ≠ .sending n → sentBuffer n b = b))
    ∧ (∀ (p : PrinterId) (s : State),
    ((s.printer p).copy = none ∨ (∃ c, (s.printer p).copy = some c ∧ (c.held = true ∨ c.abortCause.isSome = true
          ∨ (s.printer p).transmitting.isSome = true
          ∨ ∀ r ∈ c.requests, r.started = true ∨ ((s.printer p).bufferA.stripe ≠ some r.stripe ∧ (s.printer p).bufferB.stripe ≠ some r.stripe))) →
        trySend p s = s)
      ∧ ∀ (c : Copy) (before after : List StripeRequest) (r : StripeRequest), (s.printer p).copy = some c → c.held = false →
        c.abortCause = none → (s.printer p).transmitting = none → c.requests = before ++ r :: after → r.started = false →
        (∀ x ∈ before, x.started = true ∨ x.stripe ≠ r.stripe) →
        (∀ x ∈ c.requests, x.started = false → (s.printer p).bufferA.stripe = some x.stripe ∨ (s.printer p).bufferB.stripe = some x.stripe →
          r.stripe ≤ x.stripe) →
        ((s.printer p).bufferA.state = .full r.stripe ∨ (s.printer p).bufferA.state = .sent r.stripe → trySend p s =
            { (s.onPrinter p fun q =>
                { q with bufferA := { q.bufferA with state := .sending r.stripe }, transmitting := some { copyId := c.id, stripe := r.stripe },
                         copy := some { c with requests := before ++ { r with started := true, timer := .stopped } :: after } }) with
              out := s.out ++ [.stripeFrame p r.stripe (s.printer p).bufferA.data] })
          ∧ ((s.printer p).bufferA.stripe ≠ some r.stripe →
            (s.printer p).bufferB.state = .full r.stripe ∨ (s.printer p).bufferB.state = .sent r.stripe → trySend p s =
              { (s.onPrinter p fun q =>
                  { q with bufferB := { q.bufferB with state := .sending r.stripe }, transmitting := some { copyId := c.id, stripe := r.stripe },
                           copy := some { c with requests := before ++ { r with started := true, timer := .stopped } :: after } }) with
                out := s.out ++ [.stripeFrame p r.stripe (s.printer p).bufferB.data] })
          ∧ ((s.printer p).bufferA.state = .filling r.stripe ∧ (s.printer p).bufferB.stripe ≠ some r.stripe
              ∨ (s.printer p).bufferB.state = .filling r.stripe ∧ (s.printer p).bufferA.stripe ≠ some r.stripe → trySend p s = s))
    ∧ (∀ (p : PrinterId) (s u : State) (before after : List Granted) (g : Granted) (id : W16) (n : Nat) (side : Target) (last : Bool)
        (data : List Byte), s.part = .run → s.port.granted = before ++ g :: after → g.outcome = none →
    (∀ x ∈ before, x.transfer.requester ≠ .printer p) → (∀ x ∈ after, x.transfer.requester = .printer p → x.outcome = none) →
    g.transfer.requester = .printer p → g.transfer.direction = .read → g.transfer.purpose = .stripe id n side last →
    data.length = g.transfer.length → u = { s.quiet with port := { s.port with granted := before ++ after } } →
    (∀ c, (s.printer p).copy = some c → c.id = id → c.abortCause = none → ((s.printer p).buffer side).state = .filling n →
        ThenSettles (exec (.transferEnd before.length (.good data)) s) s.quiet
          (trySend p (u.onPrinter p fun q => q.setBuffer side
            { state := if last = true then .full n else .filling n, data := (q.buffer side).data ++ data })))
      ∧ ((s.printer p).copy = none ∨ (∃ c, (s.printer p).copy = some c ∧ (c.id ≠ id ∨ c.abortCause.isSome = true
            ∨ ((s.printer p).buffer side).state ≠ .filling n)) →
          ThenSettles (exec (.transferEnd before.length (.good data)) s) s.quiet u))
    ∧ ∀ (p : PrinterId) (s : State) (x : Transfer) (id : W16) (n : Nat) (side : Target) (last : Bool) (cause : FaultCause),
    x.requester = .printer p → x.purpose = .stripe id n side last →
    (∀ c, (s.printer p).copy = some c → c.id = id → ((s.printer p).buffer side).state = .filling n →
        tellOne x (.error cause) s = s.onPrinter p fun q => q.setBuffer side { state := .empty, data := [] })
      ∧ ((s.printer p).copy = none ∨ (∃ c, (s.printer p).copy = some c ∧ (c.id ≠ id ∨ ((s.printer p).buffer side).state ≠ .filling n)) →
          tellOne x (.error cause) s = s)

/-- R34, R64, R66, R74, R81, R84, R87, R89, R90, R91, R97: the ways a copy ends or is aborted: COPY_DONE with its id, which restarts the link
watch and in SERVICE clears the live LINK_SILENT (the link then reads HEARD by log entry 18, the model's reading), an unanswered BEGIN_COPY
after its second sending, an unanswered ABORT_COPY, the loss of the link; an underrun aborts it. A printer with an entry to SERVICE pending
(R99) is in SERVICE after the end. Then what an end changes: the buffers, the last copy, the counts, the pending consumption and the item; a
failed copy is retried exactly if it is a first attempt, not released early, its order still PRINTING there and not asked to be cancelled,
its item not UNPRINTABLE, and the free room then left takes its units; else it is counted failed, an item with nothing left is DONE, and the
order meets the settlement trigger if it has finished printing. Last, the link watch expires. A printer in SERVICE, whatever its copy, stays
there, its link SILENT, LINK_SILENT live and latched. Another without a copy is OFFLINE, its link SILENT, LINK_SILENT live and latched, and
the fault grace of one that was READY, PRINTING or PAUSED runs. -/
def Obligations.CopiesEndOnceAndAreCounted : Prop :=
  (∀ (p : PrinterId) (s : State) (c : Copy), s.part = .run → (s.printer p).copy = some c →
    ((s.printer p).state ≠ .absent → (s.printer p).state ≠ .offline →
        (∀ result consumed, ThenSettles (exec (.copyDone p c.id result consumed) s) s.quiet
            (endCopy p (resultOfCode result) consumed.toNat (frameHeard p s.quiet)))
          ∧ ∀ id result consumed, id ≠ c.id → ThenSettles (exec (.copyDone p id result consumed) s) s.quiet
              ((frameHeard p s.quiet).onPrinter p fun q => { q with counts := { q.counts with stray := bump q.counts.stray } }))
      ∧ (∀ w, c.beginWait = some w → w.sends = 1 → ThenSettles (exec (.beginAnswerLimitExpiry p) s) s.quiet
          ((s.quiet.onPrinter p fun q =>
            { q with copy := some { c with beginWait := some { sends := 2, deadline := s.clock + 2#32 } } }).emit
            (.beginCopy p c.id c.size c.finish)))
      ∧ (∀ w, c.beginWait = some w → 2 ≤ w.sends → ThenSettles (exec (.beginAnswerLimitExpiry p) s) s.quiet
          (endCopy p .aborted 0 (abortCopy p .aborted s.quiet)))
      ∧ (c.abortDeadline.isSome = true → ThenSettles (exec (.abortAnswerLimitExpiry p) s) s.quiet
          (endCopy p .aborted (sizeUnits c.size) s.quiet))
      ∧ (∀ r before after, c.requests = before ++ r :: after → r.timer.isRunning = true → c.abortCause = none →
          (∀ x ∈ before ++ after, x.stripe ≠ r.stripe) →
          ThenSettles (exec (.underrunTimerExpiry p r.stripe) s) s.quiet
            { (s.quiet.onPrinter p fun q =>
                { q with counts := { q.counts with underruns := bump q.counts.underruns }, latched := { q.latched with underrun := true },
                         copy := some { c with requests := before ++ { r with timer := .stopped } :: after, abortCause := some .underrun,
                                               abortDeadline := some (s.clock + 2#32), beginWait := none } }) with
              out := [.abortCopy p c.id],
              port := { s.port with lines := upd s.port.lines (requesterIndex (.printer p)) fun _ => [] } })
      ∧ ((s.printer p).watch.isSome = true → (s.printer p).state ≠ .service → (s.printer p).servicePending = false → ∃ u,
          ThenSettles (exec (.printerLinkWatchExpiry p) s) s.quiet u ∧ (u.printer p).state = .offline ∧ (u.printer p).copy = none
            ∧ (u.printer p).watch = none ∧ (u.printer p).live.linkSilent = true ∧ (u.printer p).latched.linkSilent = true
            ∧ (u.printer p).last = some { id := c.id, result := finalResult c .aborted, consumed := sizeUnits c.size } ∧ u.out = []
            ∧ (u.entry p).grace = (if (s.printer p).state = .ready ∨ (s.printer p).state = .printing ∨ (s.printer p).state = .paused
                then some (s.clock + BitVec.ofNat 32 s.timers.grace) else (s.entry p).grace))
      ∧ ((s.printer p).watch.isSome = true → (s.printer p).state ≠ .service → (s.printer p).servicePending = true → ∃ u,
          ThenSettles (exec (.printerLinkWatchExpiry p) s) s.quiet u ∧ (u.printer p).state = .service ∧ (u.printer p).copy = none
            ∧ (u.printer p).servicePending = false ∧ (u.printer p).watch = none ∧ (u.printer p).live.linkSilent = true
            ∧ (u.printer p).latched.linkSilent = true
            ∧ (u.printer p).last = some { id := c.id, result := finalResult c .aborted, consumed := sizeUnits c.size } ∧ u.out = []))
    ∧ (∀ (p : PrinterId) (s : State) (c : Copy) (item : Item) (result : CopyResult) (consumed : Nat),
        (s.printer p).copy = some c → (s.printer p).servicePending = false → (s.order c.order).items[c.item]? = some item →
        item.state = .active → 1 ≤ item.inFlight → item.printed + item.failed + item.inFlight ≤ item.quantity →
        ((endCopy p result consumed s).printer p).copy = none
          ∧ ((endCopy p result consumed s).printer p).bufferA.state = .empty ∧ ((endCopy p result consumed s).printer p).bufferB.state = .empty
          ∧ ((endCopy p result consumed s).printer p).last =
              some { id := c.id, result := finalResult c result, consumed := min consumed (sizeUnits c.size) }
          ∧ ((endCopy p result consumed s).printer p).state = (s.printer p).state
          ∧ (c.releasedEarly = false → ((endCopy p result consumed s).entry p).pendingConsumption =
              (s.entry p).pendingConsumption + min consumed (sizeUnits c.size))
          ∧ (c.releasedEarly = true → ((endCopy p result consumed s).entry p).pendingConsumption = (s.entry p).pendingConsumption)
          ∧ (finalResult c result = .ok →
              ((endCopy p result consumed s).printer p).counts.copiesOk = bump (s.printer p).counts.copiesOk
                ∧ ∃ i, ((endCopy p result consumed s).order c.order).items[c.item]? = some i ∧ i.printed = item.printed + 1
                    ∧ i.failed = item.failed ∧ i.inFlight = item.inFlight - 1)
          ∧ (finalResult c result ≠ .ok →
              ((endCopy p result consumed s).printer p).counts.copiesFailed = bump (s.printer p).counts.copiesFailed
                ∧ ∃ i, ((endCopy p result consumed s).order c.order).items[c.item]? = some i ∧ i.printed = item.printed
                    ∧ i.inFlight = item.inFlight - 1
                    ∧ (i.failed = item.failed + 1
                        ∨ (i.failed = item.failed ∧ c.attempt = 1 ∧ (endCopy p result consumed s).note c.order = some c.item))))
    ∧ (∀ (p : PrinterId) (s : State) (c : Copy) (item counted ended : Item) (result : CopyResult) (consumed used : Nat) (u v : State) (retry : Prop),
        (s.printer p).copy = some c → (s.printer p).servicePending = false → (s.order c.order).items[c.item]? = some item →
        item.state = .active ∨ item.state = .unprintable → 1 ≤ item.inFlight → item.printed + item.failed + item.inFlight ≤ item.quantity →
        used = min consumed (sizeUnits c.size) →
        u = { ((s.onPrinter p fun q =>
                { q with copy := none, bufferA := { state := .empty, data := [] }, bufferB := { state := .empty, data := [] } }).onEntry p fun e =>
                { e with pendingConsumption := e.pendingConsumption + if c.releasedEarly = true then 0 else used }) with
              port := { s.port with lines := upd s.port.lines (requesterIndex (.printer p)) fun _ => [] } } →
        counted = (if finalResult c result = .ok then { item with inFlight := item.inFlight - 1, printed := item.printed + 1 }
          else { item with inFlight := item.inFlight - 1, failed := item.failed + 1 }) →
        (retry ↔ finalResult c result ≠ .ok ∧ c.attempt = 1 ∧ c.releasedEarly = false ∧ (s.order c.order).state = .printing
          ∧ (s.order c.order).placement = some p ∧ (s.order c.order).cancelRequested = false ∧ item.state = .active ∧ item.dropped = false
          ∧ sizeUnits c.size ≤ (u.onOrder c.order fun r => { r with items := r.items.set c.item counted }).freeRoom p) →
        (retry → v = (u.onOrder c.order fun r =>
            { r with items := r.items.set c.item { item with inFlight := item.inFlight - 1 } }).onNote c.order fun _ => some c.item) →
        ended = { counted with state := if item.state = .active ∧ remaining counted = 0 ∧ counted.inFlight = 0 then .done else item.state } →
        (¬retry → v = u.onOrder c.order fun r => { r with items := r.items.set c.item ended }) →
        endCopy p result consumed s = ((settlementCheck c.order v).onPrinter p fun q =>
            { q with last := some { id := c.id, result := finalResult c result, consumed := used },
                     counts := if finalResult c result = .ok then { q.counts with copiesOk := bump q.counts.copiesOk }
                               else { q.counts with copiesFailed := bump q.counts.copiesFailed } }).markUnit (printerUnit p))
    ∧ (∀ (p : PrinterId) (s : State), s.part = .run → (s.printer p).watch.isSome = true → (s.printer p).state = .service →
        ThenSettles (exec (.printerLinkWatchExpiry p) s) s.quiet
          (s.quiet.onPrinter p fun q =>
            { q with watch := none, linkHeard := false, linkChangedAt := if q.linkHeard = true then some s.clock else q.linkChangedAt,
                     live := { q.live with linkSilent := true }, latched := { q.latched with linkSilent := true } }))
    ∧ ∀ (p : PrinterId) (s : State), s.part = .run → (s.printer p).copy = none → (s.printer p).watch.isSome = true →
        (s.printer p).state ≠ .service → ThenSettles (exec (.printerLinkWatchExpiry p) s) s.quiet
          ((s.quiet.onPrinter p fun q =>
            { q with state := .offline, watch := none, linkHeard := false,
                     linkChangedAt := if q.linkHeard = true then some s.clock else q.linkChangedAt,
                     live := { q.live with linkSilent := true }, latched := { q.latched with linkSilent := true } }).onEntry p fun e =>
            { e with grace := if (s.printer p).state = .ready ∨ (s.printer p).state = .printing ∨ (s.printer p).state = .paused
                then some (s.clock + BitVec.ofNat 32 s.timers.grace) else e.grace })

/-! ## Price and settlement arithmetic -/

/-- R52 to R57: the quote computation on items whose sizes are all offered: the tier, the lines, the discount, the tax and the total. -/
def Obligations.QuoteArithmeticIsExact : Prop :=
  (∀ (e : SizeEntry) (n : Nat) (before : List Tier) (t : Tier) (after : List Tier), e.tiers = before ++ t :: after → t.threshold ≤ n →
      (∀ x ∈ after, n < x.threshold) → tierPrice e n = t.price)
    ∧ (∀ (e : SizeEntry) (n : Nat), (∀ x ∈ e.tiers, n < x.threshold) → tierPrice e n = e.base)
    ∧ ∀ (t : PriceTable) (items : List Item) (promotion : Option Nat) (f : FixedPrices), f = fixedPrices t items promotion →
        (∀ z, unitPriceOf f z = if 0 < sizeCount items z then some (tierPrice (sizeEntry t z) (sizeCount items z)) else none)
          ∧ f.surcharge = t.surcharge ∧ f.taxRate = t.taxRate ∧ f.currency = t.currency
          ∧ f.subtotal = (items.map fun i =>
              i.quantity * (tierPrice (sizeEntry t i.size) (sizeCount items i.size) + if i.finish = .matte then t.surcharge else 0)).sum
          ∧ (∀ k (e : Promotion), promotion = some k → t.promotions[k]? = some e → e.rate ≠ 0 → e.minimum ≤ f.subtotal → f.rate = e.rate)
          ∧ (promotion = none ∨ (∃ k e, promotion = some k ∧ t.promotions[k]? = some e ∧ (e.rate = 0 ∨ f.subtotal < e.minimum)) →
              f.rate = 0)
          ∧ f.discount = (f.subtotal * f.rate + 5000) / 10000
          ∧ f.tax = ((f.subtotal - f.discount) * f.taxRate + 5000) / 10000
          ∧ f.total = f.subtotal - f.discount + f.tax ∧ (f.rate ≤ 10000 → f.discount ≤ f.subtotal)

/-- R58: the settlement computation, from the printed counts and the fixed prices alone. R59: a settlement is never above the quoted total of
the same order, and equals it when every copy has printed. -/
def Obligations.SettlementNeverAboveTheQuote : Prop :=
  (∀ (f : FixedPrices) (items : List Item) (sub net : Nat),
    sub = (items.map fun i => i.printed * ((unitPriceOf f i.size).getD 0 + if i.finish = .matte then f.surcharge else 0)).sum →
    net = sub - (if 0 < f.rate then (sub * f.rate + 5000) / 10000 else 0) →
    settlementOf f items = net + (net * f.taxRate + 5000) / 10000)
    ∧ ∀ (t : PriceTable) (quoted printed : List Item) (promotion : Option Nat), (fixedPrices t quoted promotion).rate ≤ 10000 →
    quoted.length = printed.length →
    (∀ (k : Nat) (q i : Item), quoted[k]? = some q → printed[k]? = some i → i.size = q.size ∧ i.finish = q.finish ∧ i.printed ≤ q.quantity) →
    settlementOf (fixedPrices t quoted promotion) printed ≤ (fixedPrices t quoted promotion).total
      ∧ ((∀ (k : Nat) (q i : Item), quoted[k]? = some q → printed[k]? = some i → i.printed = q.quantity) →
          settlementOf (fixedPrices t quoted promotion) printed = (fixedPrices t quoted promotion).total)

/-- R36, R59: on every order record the captured amount is 0 or the settlement amount, and the settlement amount is at most the quoted total;
every step keeps this law, with what it rests on: the counts of an item within its quantity, a copy in flight counted in its item, prices
fixed from the order's own items, a table whose rates are at most 10,000, and the terminal's parties in PAYING or SETTLING, none twice. -/
def Obligations.CapturesStayWithinTheQuote : Prop :=
  (∀ s t : State, MoneyLaw s → step s = .next t → MoneyLaw t)
    ∧ ∀ (s : State) (o : OrderId), MoneyLaw s →
        ((s.order o).captured = 0 ∨ (s.order o).settlement = some (s.order o).captured)
          ∧ ∀ amount, (s.order o).settlement = some amount → amount ≤ orderTotal (s.order o)

/-! ## The links -/

/-- R80, R107, R108, R127, R128, R185: what a receiver makes of a whole frame as its sender puts it on the wire is the frame that was sent, and
inside a printer frame the start mark does not appear. On the card port the 10 bytes of an identity answer and the 514 bytes of a block, each
number most significant byte first, are read as the command with the numbers that were sent, and no other bytes are read so. -/
def Obligations.FramesAreReadAsTheyAreSent : Prop :=
  (∀ f : PrinterFrame, parsePrinter (printerWire (printerFrameKind f) (printerFramePayload f)).tail = some f)
    ∧ (∀ (ref : W16) (amount : W32) (code : List Byte) (reason : Byte), code.length = 6 →
        ∀ f ∈ [TerminalFrame.ready, .cardWait ref, .approved ref amount code, .declined ref reason, .timedOut ref, .aborted ref,
               .captured ref amount, .voided ref, .refused ref reason],
          parseTerminal (terminalFrameCovered f ++ [crc8 (terminalFrameCovered f)]) = some f)
    ∧ (∀ (kind : Byte) (payload : List Byte), ∀ b ∈ (printerWire kind payload).tail, b ≠ printerStart)
    ∧ (∀ (b : BayId) (capacity serial : W32) (check : W16) (bytes : List Byte),
        identityCommand b bytes = some (.identifyAnswer b capacity serial check) ↔
        bytes = beBytes 4 capacity.toNat ++ beBytes 4 serial.toNat ++ beBytes 2 check.toNat)
    ∧ ∀ (b : BayId) (data : List Byte) (check : W16) (bytes : List Byte), blockCommand b bytes = some (.blockArrival b data check) ↔
        data.length = 512 ∧ bytes = data ++ beBytes 2 check.toNat
end

