-- ==== Sys2Proof/Laws/State.lean ====
section
/-! SUPPORT. The small lemmas of State: one per field per update, true by definition and tagged for simp (a lemma named `..._keeps` gathers
those of one update), reading a record after a change of a record, and the laws of `forEach`. -/

namespace Sys2Proof

section Tables
variable {α : Type} {n : Nat}

@[simp] theorem look_upd_same (t : Vector α n) (i : Fin n) (f : α → α) : look (upd t i f) i = f (look t i) := by simp [look, upd]

theorem look_upd (t : Vector α n) (i j : Fin n) (f : α → α) : look (upd t i f) j = if i = j then f (look t j) else look t j := by
  by_cases h : i = j
  · subst h; simp
  · have : i.val ≠ j.val := fun e => h (Fin.ext e)
    simp [look, upd, this, h]

@[simp] theorem look_upd_ne (t : Vector α n) {i j : Fin n} (h : i ≠ j) (f : α → α) : look (upd t i f) j = look t j := by
  rw [look_upd, if_neg h]

@[simp] theorem look_map {β : Type} (t : Vector α n) (i : Fin n) (f : α → β) : look (t.map f) i = f (look t i) := by simp [look]

@[simp] theorem look_replicate (a : α) (i : Fin n) : look (Vector.replicate n a) i = a := by simp [look]

/-- Two tables with the same entries are equal. -/
theorem table_ext {t u : Vector α n} (h : ∀ i, look t i = look u i) : t = u := by
  apply Vector.ext
  intro k hk
  exact h ⟨k, hk⟩

end Tables

namespace Machine

@[simp] theorem onSlot_keeps (s : State) (i : SlotId) (f : Slot → Slot) :
    (s.onSlot i f).part = s.part ∧ (s.onSlot i f).pcieUp = s.pcieUp ∧ (s.onSlot i f).msiEnable = s.msiEnable ∧
    (s.onSlot i f).clock = s.clock ∧ (s.onSlot i f).timers = s.timers ∧ (s.onSlot i f).intake = s.intake ∧
    (s.onSlot i f).attnDone = s.attnDone ∧ (s.onSlot i f).attnProgress = s.attnProgress ∧ (s.onSlot i f).attnMisuse = s.attnMisuse ∧
    (s.onSlot i f).attnEnable = s.attnEnable ∧ (s.onSlot i f).unitChanged = s.unitChanged ∧
    (s.onSlot i f).orderChanged = s.orderChanged ∧ (s.onSlot i f).stations = s.stations ∧ (s.onSlot i f).sessions = s.sessions ∧
    (s.onSlot i f).orders = s.orders ∧ (s.onSlot i f).orderSerial = s.orderSerial ∧ (s.onSlot i f).price = s.price ∧
    (s.onSlot i f).stock = s.stock ∧ (s.onSlot i f).heldList = s.heldList ∧ (s.onSlot i f).quoteSequence = s.quoteSequence ∧
    (s.onSlot i f).printers = s.printers ∧ (s.onSlot i f).retryNotes = s.retryNotes ∧ (s.onSlot i f).bays = s.bays ∧
    (s.onSlot i f).contactPins = s.contactPins ∧ (s.onSlot i f).apertures = s.apertures ∧ (s.onSlot i f).port = s.port ∧
    (s.onSlot i f).terminal = s.terminal ∧ (s.onSlot i f).out = s.out ∧ (s.onSlot i f).pending = s.pending ∧
    (∀ x, (s.onSlot i f).station x = s.station x) ∧ (∀ x, (s.onSlot i f).session x = s.session x) ∧
    (∀ x, (s.onSlot i f).order x = s.order x) ∧ (∀ x, (s.onSlot i f).entry x = s.entry x) ∧
    (∀ x, (s.onSlot i f).printer x = s.printer x) ∧ (∀ x, (s.onSlot i f).note x = s.note x) ∧ (∀ x, (s.onSlot i f).bay x = s.bay x) ∧
    (∀ x, (s.onSlot i f).pin x = s.pin x) ∧ (∀ x, (s.onSlot i f).aperture x = s.aperture x) :=
  by and_intros <;> intros <;> rfl

@[simp] theorem slot_onSlot_same (s : State) (i : SlotId) (f : Slot → Slot) : (s.onSlot i f).slot i = f (s.slot i) := look_upd_same _ _ _

theorem slot_onSlot (s : State) (i j : SlotId) (f : Slot → Slot) : (s.onSlot i f).slot j = if i = j then f (s.slot j) else s.slot j := look_upd _ _ _ _

@[simp] theorem slot_onSlot_ne (s : State) {i j : SlotId} (h : i ≠ j) (f : Slot → Slot) : (s.onSlot i f).slot j = s.slot j := look_upd_ne _ h _

@[simp] theorem onStation_keeps (s : State) (i : StationId) (f : Station → Station) :
    (s.onStation i f).part = s.part ∧ (s.onStation i f).pcieUp = s.pcieUp ∧ (s.onStation i f).msiEnable = s.msiEnable ∧
    (s.onStation i f).clock = s.clock ∧ (s.onStation i f).timers = s.timers ∧ (s.onStation i f).slots = s.slots ∧
    (s.onStation i f).intake = s.intake ∧ (s.onStation i f).attnDone = s.attnDone ∧ (s.onStation i f).attnProgress = s.attnProgress ∧
    (s.onStation i f).attnMisuse = s.attnMisuse ∧ (s.onStation i f).attnEnable = s.attnEnable ∧
    (s.onStation i f).unitChanged = s.unitChanged ∧ (s.onStation i f).orderChanged = s.orderChanged ∧
    (s.onStation i f).sessions = s.sessions ∧ (s.onStation i f).orders = s.orders ∧ (s.onStation i f).orderSerial = s.orderSerial ∧
    (s.onStation i f).price = s.price ∧ (s.onStation i f).stock = s.stock ∧ (s.onStation i f).heldList = s.heldList ∧
    (s.onStation i f).quoteSequence = s.quoteSequence ∧ (s.onStation i f).printers = s.printers ∧
    (s.onStation i f).retryNotes = s.retryNotes ∧ (s.onStation i f).bays = s.bays ∧ (s.onStation i f).contactPins = s.contactPins ∧
    (s.onStation i f).apertures = s.apertures ∧ (s.onStation i f).port = s.port ∧ (s.onStation i f).terminal = s.terminal ∧
    (s.onStation i f).out = s.out ∧ (s.onStation i f).pending = s.pending ∧ (∀ x, (s.onStation i f).slot x = s.slot x) ∧
    (∀ x, (s.onStation i f).session x = s.session x) ∧ (∀ x, (s.onStation i f).order x = s.order x) ∧
    (∀ x, (s.onStation i f).entry x = s.entry x) ∧ (∀ x, (s.onStation i f).printer x = s.printer x) ∧
    (∀ x, (s.onStation i f).note x = s.note x) ∧ (∀ x, (s.onStation i f).bay x = s.bay x) ∧ (∀ x, (s.onStation i f).pin x = s.pin x) ∧
    (∀ x, (s.onStation i f).aperture x = s.aperture x) :=
  by and_intros <;> intros <;> rfl

@[simp] theorem station_onStation_same (s : State) (i : StationId) (f : Station → Station) : (s.onStation i f).station i = f (s.station i) := look_upd_same _ _ _

theorem station_onStation (s : State) (i j : StationId) (f : Station → Station) : (s.onStation i f).station j = if i = j then f (s.station j) else s.station j := look_upd _ _ _ _

@[simp] theorem station_onStation_ne (s : State) {i j : StationId} (h : i ≠ j) (f : Station → Station) : (s.onStation i f).station j = s.station j := look_upd_ne _ h _

@[simp] theorem onSession_keeps (s : State) (i : SessionId) (f : Session → Session) :
    (s.onSession i f).part = s.part ∧ (s.onSession i f).pcieUp = s.pcieUp ∧ (s.onSession i f).msiEnable = s.msiEnable ∧
    (s.onSession i f).clock = s.clock ∧ (s.onSession i f).timers = s.timers ∧ (s.onSession i f).slots = s.slots ∧
    (s.onSession i f).intake = s.intake ∧ (s.onSession i f).attnDone = s.attnDone ∧ (s.onSession i f).attnProgress = s.attnProgress ∧
    (s.onSession i f).attnMisuse = s.attnMisuse ∧ (s.onSession i f).attnEnable = s.attnEnable ∧
    (s.onSession i f).unitChanged = s.unitChanged ∧ (s.onSession i f).orderChanged = s.orderChanged ∧
    (s.onSession i f).stations = s.stations ∧ (s.onSession i f).orders = s.orders ∧ (s.onSession i f).orderSerial = s.orderSerial ∧
    (s.onSession i f).price = s.price ∧ (s.onSession i f).stock = s.stock ∧ (s.onSession i f).heldList = s.heldList ∧
    (s.onSession i f).quoteSequence = s.quoteSequence ∧ (s.onSession i f).printers = s.printers ∧
    (s.onSession i f).retryNotes = s.retryNotes ∧ (s.onSession i f).bays = s.bays ∧ (s.onSession i f).contactPins = s.contactPins ∧
    (s.onSession i f).apertures = s.apertures ∧ (s.onSession i f).port = s.port ∧ (s.onSession i f).terminal = s.terminal ∧
    (s.onSession i f).out = s.out ∧ (s.onSession i f).pending = s.pending ∧ (∀ x, (s.onSession i f).slot x = s.slot x) ∧
    (∀ x, (s.onSession i f).station x = s.station x) ∧ (∀ x, (s.onSession i f).order x = s.order x) ∧
    (∀ x, (s.onSession i f).entry x = s.entry x) ∧ (∀ x, (s.onSession i f).printer x = s.printer x) ∧
    (∀ x, (s.onSession i f).note x = s.note x) ∧ (∀ x, (s.onSession i f).bay x = s.bay x) ∧ (∀ x, (s.onSession i f).pin x = s.pin x) ∧
    (∀ x, (s.onSession i f).aperture x = s.aperture x) :=
  by and_intros <;> intros <;> rfl

@[simp] theorem session_onSession_same (s : State) (i : SessionId) (f : Session → Session) : (s.onSession i f).session i = f (s.session i) := look_upd_same _ _ _

theorem session_onSession (s : State) (i j : SessionId) (f : Session → Session) : (s.onSession i f).session j = if i = j then f (s.session j) else s.session j := look_upd _ _ _ _

@[simp] theorem session_onSession_ne (s : State) {i j : SessionId} (h : i ≠ j) (f : Session → Session) : (s.onSession i f).session j = s.session j := look_upd_ne _ h _

@[simp] theorem onOrder_keeps (s : State) (i : OrderId) (f : Order → Order) :
    (s.onOrder i f).part = s.part ∧ (s.onOrder i f).pcieUp = s.pcieUp ∧ (s.onOrder i f).msiEnable = s.msiEnable ∧
    (s.onOrder i f).clock = s.clock ∧ (s.onOrder i f).timers = s.timers ∧ (s.onOrder i f).slots = s.slots ∧
    (s.onOrder i f).intake = s.intake ∧ (s.onOrder i f).attnDone = s.attnDone ∧ (s.onOrder i f).attnProgress = s.attnProgress ∧
    (s.onOrder i f).attnMisuse = s.attnMisuse ∧ (s.onOrder i f).attnEnable = s.attnEnable ∧ (s.onOrder i f).unitChanged = s.unitChanged ∧
    (s.onOrder i f).orderChanged = s.orderChanged ∧ (s.onOrder i f).stations = s.stations ∧ (s.onOrder i f).sessions = s.sessions ∧
    (s.onOrder i f).orderSerial = s.orderSerial ∧ (s.onOrder i f).price = s.price ∧ (s.onOrder i f).stock = s.stock ∧
    (s.onOrder i f).heldList = s.heldList ∧ (s.onOrder i f).quoteSequence = s.quoteSequence ∧ (s.onOrder i f).printers = s.printers ∧
    (s.onOrder i f).retryNotes = s.retryNotes ∧ (s.onOrder i f).bays = s.bays ∧ (s.onOrder i f).contactPins = s.contactPins ∧
    (s.onOrder i f).apertures = s.apertures ∧ (s.onOrder i f).port = s.port ∧ (s.onOrder i f).terminal = s.terminal ∧
    (s.onOrder i f).out = s.out ∧ (s.onOrder i f).pending = s.pending ∧ (∀ x, (s.onOrder i f).slot x = s.slot x) ∧
    (∀ x, (s.onOrder i f).station x = s.station x) ∧ (∀ x, (s.onOrder i f).session x = s.session x) ∧
    (∀ x, (s.onOrder i f).entry x = s.entry x) ∧ (∀ x, (s.onOrder i f).printer x = s.printer x) ∧
    (∀ x, (s.onOrder i f).note x = s.note x) ∧ (∀ x, (s.onOrder i f).bay x = s.bay x) ∧ (∀ x, (s.onOrder i f).pin x = s.pin x) ∧
    (∀ x, (s.onOrder i f).aperture x = s.aperture x) :=
  by and_intros <;> intros <;> rfl

@[simp] theorem order_onOrder_same (s : State) (i : OrderId) (f : Order → Order) : (s.onOrder i f).order i = f (s.order i) := look_upd_same _ _ _

theorem order_onOrder (s : State) (i j : OrderId) (f : Order → Order) : (s.onOrder i f).order j = if i = j then f (s.order j) else s.order j := look_upd _ _ _ _

@[simp] theorem order_onOrder_ne (s : State) {i j : OrderId} (h : i ≠ j) (f : Order → Order) : (s.onOrder i f).order j = s.order j := look_upd_ne _ h _

@[simp] theorem onEntry_keeps (s : State) (i : PrinterId) (f : StockEntry → StockEntry) :
    (s.onEntry i f).part = s.part ∧ (s.onEntry i f).pcieUp = s.pcieUp ∧ (s.onEntry i f).msiEnable = s.msiEnable ∧
    (s.onEntry i f).clock = s.clock ∧ (s.onEntry i f).timers = s.timers ∧ (s.onEntry i f).slots = s.slots ∧
    (s.onEntry i f).intake = s.intake ∧ (s.onEntry i f).attnDone = s.attnDone ∧ (s.onEntry i f).attnProgress = s.attnProgress ∧
    (s.onEntry i f).attnMisuse = s.attnMisuse ∧ (s.onEntry i f).attnEnable = s.attnEnable ∧ (s.onEntry i f).unitChanged = s.unitChanged ∧
    (s.onEntry i f).orderChanged = s.orderChanged ∧ (s.onEntry i f).stations = s.stations ∧ (s.onEntry i f).sessions = s.sessions ∧
    (s.onEntry i f).orders = s.orders ∧ (s.onEntry i f).orderSerial = s.orderSerial ∧ (s.onEntry i f).price = s.price ∧
    (s.onEntry i f).heldList = s.heldList ∧ (s.onEntry i f).quoteSequence = s.quoteSequence ∧ (s.onEntry i f).printers = s.printers ∧
    (s.onEntry i f).retryNotes = s.retryNotes ∧ (s.onEntry i f).bays = s.bays ∧ (s.onEntry i f).contactPins = s.contactPins ∧
    (s.onEntry i f).apertures = s.apertures ∧ (s.onEntry i f).port = s.port ∧ (s.onEntry i f).terminal = s.terminal ∧
    (s.onEntry i f).out = s.out ∧ (s.onEntry i f).pending = s.pending ∧ (∀ x, (s.onEntry i f).slot x = s.slot x) ∧
    (∀ x, (s.onEntry i f).station x = s.station x) ∧ (∀ x, (s.onEntry i f).session x = s.session x) ∧
    (∀ x, (s.onEntry i f).order x = s.order x) ∧ (∀ x, (s.onEntry i f).printer x = s.printer x) ∧
    (∀ x, (s.onEntry i f).note x = s.note x) ∧ (∀ x, (s.onEntry i f).bay x = s.bay x) ∧ (∀ x, (s.onEntry i f).pin x = s.pin x) ∧
    (∀ x, (s.onEntry i f).aperture x = s.aperture x) :=
  by and_intros <;> intros <;> rfl

@[simp] theorem entry_onEntry_same (s : State) (i : PrinterId) (f : StockEntry → StockEntry) : (s.onEntry i f).entry i = f (s.entry i) := look_upd_same _ _ _

theorem entry_onEntry (s : State) (i j : PrinterId) (f : StockEntry → StockEntry) : (s.onEntry i f).entry j = if i = j then f (s.entry j) else s.entry j := look_upd _ _ _ _

@[simp] theorem entry_onEntry_ne (s : State) {i j : PrinterId} (h : i ≠ j) (f : StockEntry → StockEntry) : (s.onEntry i f).entry j = s.entry j := look_upd_ne _ h _

@[simp] theorem onPrinter_keeps (s : State) (i : PrinterId) (f : Printer → Printer) :
    (s.onPrinter i f).part = s.part ∧ (s.onPrinter i f).pcieUp = s.pcieUp ∧ (s.onPrinter i f).msiEnable = s.msiEnable ∧
    (s.onPrinter i f).clock = s.clock ∧ (s.onPrinter i f).timers = s.timers ∧ (s.onPrinter i f).slots = s.slots ∧
    (s.onPrinter i f).intake = s.intake ∧ (s.onPrinter i f).attnDone = s.attnDone ∧ (s.onPrinter i f).attnProgress = s.attnProgress ∧
    (s.onPrinter i f).attnMisuse = s.attnMisuse ∧ (s.onPrinter i f).attnEnable = s.attnEnable ∧
    (s.onPrinter i f).unitChanged = s.unitChanged ∧ (s.onPrinter i f).orderChanged = s.orderChanged ∧
    (s.onPrinter i f).stations = s.stations ∧ (s.onPrinter i f).sessions = s.sessions ∧ (s.onPrinter i f).orders = s.orders ∧
    (s.onPrinter i f).orderSerial = s.orderSerial ∧ (s.onPrinter i f).price = s.price ∧ (s.onPrinter i f).stock = s.stock ∧
    (s.onPrinter i f).heldList = s.heldList ∧ (s.onPrinter i f).quoteSequence = s.quoteSequence ∧
    (s.onPrinter i f).retryNotes = s.retryNotes ∧ (s.onPrinter i f).bays = s.bays ∧ (s.onPrinter i f).contactPins = s.contactPins ∧
    (s.onPrinter i f).apertures = s.apertures ∧ (s.onPrinter i f).port = s.port ∧ (s.onPrinter i f).terminal = s.terminal ∧
    (s.onPrinter i f).out = s.out ∧ (s.onPrinter i f).pending = s.pending ∧ (∀ x, (s.onPrinter i f).slot x = s.slot x) ∧
    (∀ x, (s.onPrinter i f).station x = s.station x) ∧ (∀ x, (s.onPrinter i f).session x = s.session x) ∧
    (∀ x, (s.onPrinter i f).order x = s.order x) ∧ (∀ x, (s.onPrinter i f).entry x = s.entry x) ∧
    (∀ x, (s.onPrinter i f).note x = s.note x) ∧ (∀ x, (s.onPrinter i f).bay x = s.bay x) ∧ (∀ x, (s.onPrinter i f).pin x = s.pin x) ∧
    (∀ x, (s.onPrinter i f).aperture x = s.aperture x) :=
  by and_intros <;> intros <;> rfl

@[simp] theorem printer_onPrinter_same (s : State) (i : PrinterId) (f : Printer → Printer) : (s.onPrinter i f).printer i = f (s.printer i) := look_upd_same _ _ _

theorem printer_onPrinter (s : State) (i j : PrinterId) (f : Printer → Printer) : (s.onPrinter i f).printer j = if i = j then f (s.printer j) else s.printer j := look_upd _ _ _ _

@[simp] theorem printer_onPrinter_ne (s : State) {i j : PrinterId} (h : i ≠ j) (f : Printer → Printer) : (s.onPrinter i f).printer j = s.printer j := look_upd_ne _ h _

@[simp] theorem onNote_keeps (s : State) (i : OrderId) (f : Option Nat → Option Nat) :
    (s.onNote i f).part = s.part ∧ (s.onNote i f).pcieUp = s.pcieUp ∧ (s.onNote i f).msiEnable = s.msiEnable ∧
    (s.onNote i f).clock = s.clock ∧ (s.onNote i f).timers = s.timers ∧ (s.onNote i f).slots = s.slots ∧
    (s.onNote i f).intake = s.intake ∧ (s.onNote i f).attnDone = s.attnDone ∧ (s.onNote i f).attnProgress = s.attnProgress ∧
    (s.onNote i f).attnMisuse = s.attnMisuse ∧ (s.onNote i f).attnEnable = s.attnEnable ∧ (s.onNote i f).unitChanged = s.unitChanged ∧
    (s.onNote i f).orderChanged = s.orderChanged ∧ (s.onNote i f).stations = s.stations ∧ (s.onNote i f).sessions = s.sessions ∧
    (s.onNote i f).orders = s.orders ∧ (s.onNote i f).orderSerial = s.orderSerial ∧ (s.onNote i f).price = s.price ∧
    (s.onNote i f).stock = s.stock ∧ (s.onNote i f).heldList = s.heldList ∧ (s.onNote i f).quoteSequence = s.quoteSequence ∧
    (s.onNote i f).printers = s.printers ∧ (s.onNote i f).bays = s.bays ∧ (s.onNote i f).contactPins = s.contactPins ∧
    (s.onNote i f).apertures = s.apertures ∧ (s.onNote i f).port = s.port ∧ (s.onNote i f).terminal = s.terminal ∧
    (s.onNote i f).out = s.out ∧ (s.onNote i f).pending = s.pending ∧ (∀ x, (s.onNote i f).slot x = s.slot x) ∧
    (∀ x, (s.onNote i f).station x = s.station x) ∧ (∀ x, (s.onNote i f).session x = s.session x) ∧
    (∀ x, (s.onNote i f).order x = s.order x) ∧ (∀ x, (s.onNote i f).entry x = s.entry x) ∧
    (∀ x, (s.onNote i f).printer x = s.printer x) ∧ (∀ x, (s.onNote i f).bay x = s.bay x) ∧ (∀ x, (s.onNote i f).pin x = s.pin x) ∧
    (∀ x, (s.onNote i f).aperture x = s.aperture x) :=
  by and_intros <;> intros <;> rfl

@[simp] theorem note_onNote_same (s : State) (i : OrderId) (f : Option Nat → Option Nat) : (s.onNote i f).note i = f (s.note i) := look_upd_same _ _ _

theorem note_onNote (s : State) (i j : OrderId) (f : Option Nat → Option Nat) : (s.onNote i f).note j = if i = j then f (s.note j) else s.note j := look_upd _ _ _ _

@[simp] theorem note_onNote_ne (s : State) {i j : OrderId} (h : i ≠ j) (f : Option Nat → Option Nat) : (s.onNote i f).note j = s.note j := look_upd_ne _ h _

@[simp] theorem onBay_keeps (s : State) (i : BayId) (f : Bay → Bay) :
    (s.onBay i f).part = s.part ∧ (s.onBay i f).pcieUp = s.pcieUp ∧ (s.onBay i f).msiEnable = s.msiEnable ∧
    (s.onBay i f).clock = s.clock ∧ (s.onBay i f).timers = s.timers ∧ (s.onBay i f).slots = s.slots ∧ (s.onBay i f).intake = s.intake ∧
    (s.onBay i f).attnDone = s.attnDone ∧ (s.onBay i f).attnProgress = s.attnProgress ∧ (s.onBay i f).attnMisuse = s.attnMisuse ∧
    (s.onBay i f).attnEnable = s.attnEnable ∧ (s.onBay i f).unitChanged = s.unitChanged ∧ (s.onBay i f).orderChanged = s.orderChanged ∧
    (s.onBay i f).stations = s.stations ∧ (s.onBay i f).sessions = s.sessions ∧ (s.onBay i f).orders = s.orders ∧
    (s.onBay i f).orderSerial = s.orderSerial ∧ (s.onBay i f).price = s.price ∧ (s.onBay i f).stock = s.stock ∧
    (s.onBay i f).heldList = s.heldList ∧ (s.onBay i f).quoteSequence = s.quoteSequence ∧ (s.onBay i f).printers = s.printers ∧
    (s.onBay i f).retryNotes = s.retryNotes ∧ (s.onBay i f).contactPins = s.contactPins ∧ (s.onBay i f).apertures = s.apertures ∧
    (s.onBay i f).port = s.port ∧ (s.onBay i f).terminal = s.terminal ∧ (s.onBay i f).out = s.out ∧ (s.onBay i f).pending = s.pending ∧
    (∀ x, (s.onBay i f).slot x = s.slot x) ∧ (∀ x, (s.onBay i f).station x = s.station x) ∧
    (∀ x, (s.onBay i f).session x = s.session x) ∧ (∀ x, (s.onBay i f).order x = s.order x) ∧ (∀ x, (s.onBay i f).entry x = s.entry x) ∧
    (∀ x, (s.onBay i f).printer x = s.printer x) ∧ (∀ x, (s.onBay i f).note x = s.note x) ∧ (∀ x, (s.onBay i f).pin x = s.pin x) ∧
    (∀ x, (s.onBay i f).aperture x = s.aperture x) :=
  by and_intros <;> intros <;> rfl

@[simp] theorem bay_onBay_same (s : State) (i : BayId) (f : Bay → Bay) : (s.onBay i f).bay i = f (s.bay i) := look_upd_same _ _ _

theorem bay_onBay (s : State) (i j : BayId) (f : Bay → Bay) : (s.onBay i f).bay j = if i = j then f (s.bay j) else s.bay j := look_upd _ _ _ _

@[simp] theorem bay_onBay_ne (s : State) {i j : BayId} (h : i ≠ j) (f : Bay → Bay) : (s.onBay i f).bay j = s.bay j := look_upd_ne _ h _

@[simp] theorem onAperture_keeps (s : State) (i : ApertureId) (f : Aperture → Aperture) :
    (s.onAperture i f).part = s.part ∧ (s.onAperture i f).pcieUp = s.pcieUp ∧ (s.onAperture i f).msiEnable = s.msiEnable ∧
    (s.onAperture i f).clock = s.clock ∧ (s.onAperture i f).timers = s.timers ∧ (s.onAperture i f).slots = s.slots ∧
    (s.onAperture i f).intake = s.intake ∧ (s.onAperture i f).attnDone = s.attnDone ∧ (s.onAperture i f).attnProgress = s.attnProgress ∧
    (s.onAperture i f).attnMisuse = s.attnMisuse ∧ (s.onAperture i f).attnEnable = s.attnEnable ∧
    (s.onAperture i f).unitChanged = s.unitChanged ∧ (s.onAperture i f).orderChanged = s.orderChanged ∧
    (s.onAperture i f).stations = s.stations ∧ (s.onAperture i f).sessions = s.sessions ∧ (s.onAperture i f).orders = s.orders ∧
    (s.onAperture i f).orderSerial = s.orderSerial ∧ (s.onAperture i f).price = s.price ∧ (s.onAperture i f).stock = s.stock ∧
    (s.onAperture i f).heldList = s.heldList ∧ (s.onAperture i f).quoteSequence = s.quoteSequence ∧
    (s.onAperture i f).printers = s.printers ∧ (s.onAperture i f).retryNotes = s.retryNotes ∧ (s.onAperture i f).bays = s.bays ∧
    (s.onAperture i f).contactPins = s.contactPins ∧ (s.onAperture i f).port = s.port ∧ (s.onAperture i f).terminal = s.terminal ∧
    (s.onAperture i f).out = s.out ∧ (s.onAperture i f).pending = s.pending ∧ (∀ x, (s.onAperture i f).slot x = s.slot x) ∧
    (∀ x, (s.onAperture i f).station x = s.station x) ∧ (∀ x, (s.onAperture i f).session x = s.session x) ∧
    (∀ x, (s.onAperture i f).order x = s.order x) ∧ (∀ x, (s.onAperture i f).entry x = s.entry x) ∧
    (∀ x, (s.onAperture i f).printer x = s.printer x) ∧ (∀ x, (s.onAperture i f).note x = s.note x) ∧
    (∀ x, (s.onAperture i f).bay x = s.bay x) ∧ (∀ x, (s.onAperture i f).pin x = s.pin x) :=
  by and_intros <;> intros <;> rfl

@[simp] theorem aperture_onAperture_same (s : State) (i : ApertureId) (f : Aperture → Aperture) : (s.onAperture i f).aperture i = f (s.aperture i) := look_upd_same _ _ _

theorem aperture_onAperture (s : State) (i j : ApertureId) (f : Aperture → Aperture) : (s.onAperture i f).aperture j = if i = j then f (s.aperture j) else s.aperture j := look_upd _ _ _ _

@[simp] theorem aperture_onAperture_ne (s : State) {i j : ApertureId} (h : i ≠ j) (f : Aperture → Aperture) : (s.onAperture i f).aperture j = s.aperture j := look_upd_ne _ h _

@[simp] theorem onTerminal_keeps (s : State) (f : Terminal → Terminal) :
    (s.onTerminal f).part = s.part ∧ (s.onTerminal f).pcieUp = s.pcieUp ∧ (s.onTerminal f).msiEnable = s.msiEnable ∧
    (s.onTerminal f).clock = s.clock ∧ (s.onTerminal f).timers = s.timers ∧ (s.onTerminal f).slots = s.slots ∧
    (s.onTerminal f).intake = s.intake ∧ (s.onTerminal f).attnDone = s.attnDone ∧ (s.onTerminal f).attnProgress = s.attnProgress ∧
    (s.onTerminal f).attnMisuse = s.attnMisuse ∧ (s.onTerminal f).attnEnable = s.attnEnable ∧
    (s.onTerminal f).unitChanged = s.unitChanged ∧ (s.onTerminal f).orderChanged = s.orderChanged ∧
    (s.onTerminal f).stations = s.stations ∧ (s.onTerminal f).sessions = s.sessions ∧ (s.onTerminal f).orders = s.orders ∧
    (s.onTerminal f).orderSerial = s.orderSerial ∧ (s.onTerminal f).price = s.price ∧ (s.onTerminal f).stock = s.stock ∧
    (s.onTerminal f).heldList = s.heldList ∧ (s.onTerminal f).quoteSequence = s.quoteSequence ∧ (s.onTerminal f).printers = s.printers ∧
    (s.onTerminal f).retryNotes = s.retryNotes ∧ (s.onTerminal f).bays = s.bays ∧ (s.onTerminal f).contactPins = s.contactPins ∧
    (s.onTerminal f).apertures = s.apertures ∧ (s.onTerminal f).port = s.port ∧ (s.onTerminal f).out = s.out ∧
    (s.onTerminal f).pending = s.pending ∧ (∀ x, (s.onTerminal f).slot x = s.slot x) ∧ (∀ x, (s.onTerminal f).station x = s.station x) ∧
    (∀ x, (s.onTerminal f).session x = s.session x) ∧ (∀ x, (s.onTerminal f).order x = s.order x) ∧
    (∀ x, (s.onTerminal f).entry x = s.entry x) ∧ (∀ x, (s.onTerminal f).printer x = s.printer x) ∧
    (∀ x, (s.onTerminal f).note x = s.note x) ∧ (∀ x, (s.onTerminal f).bay x = s.bay x) ∧ (∀ x, (s.onTerminal f).pin x = s.pin x) ∧
    (∀ x, (s.onTerminal f).aperture x = s.aperture x) :=
  by and_intros <;> intros <;> rfl

@[simp] theorem terminal_onTerminal (s : State) (f : Terminal → Terminal) : (s.onTerminal f).terminal = f s.terminal := rfl

@[simp] theorem onPort_keeps (s : State) (f : Port → Port) :
    (s.onPort f).part = s.part ∧ (s.onPort f).pcieUp = s.pcieUp ∧ (s.onPort f).msiEnable = s.msiEnable ∧ (s.onPort f).clock = s.clock ∧
    (s.onPort f).timers = s.timers ∧ (s.onPort f).slots = s.slots ∧ (s.onPort f).intake = s.intake ∧ (s.onPort f).attnDone = s.attnDone ∧
    (s.onPort f).attnProgress = s.attnProgress ∧ (s.onPort f).attnMisuse = s.attnMisuse ∧ (s.onPort f).attnEnable = s.attnEnable ∧
    (s.onPort f).unitChanged = s.unitChanged ∧ (s.onPort f).orderChanged = s.orderChanged ∧ (s.onPort f).stations = s.stations ∧
    (s.onPort f).sessions = s.sessions ∧ (s.onPort f).orders = s.orders ∧ (s.onPort f).orderSerial = s.orderSerial ∧
    (s.onPort f).price = s.price ∧ (s.onPort f).stock = s.stock ∧ (s.onPort f).heldList = s.heldList ∧
    (s.onPort f).quoteSequence = s.quoteSequence ∧ (s.onPort f).printers = s.printers ∧ (s.onPort f).retryNotes = s.retryNotes ∧
    (s.onPort f).bays = s.bays ∧ (s.onPort f).contactPins = s.contactPins ∧ (s.onPort f).apertures = s.apertures ∧
    (s.onPort f).terminal = s.terminal ∧ (s.onPort f).out = s.out ∧ (s.onPort f).pending = s.pending ∧
    (∀ x, (s.onPort f).slot x = s.slot x) ∧ (∀ x, (s.onPort f).station x = s.station x) ∧ (∀ x, (s.onPort f).session x = s.session x) ∧
    (∀ x, (s.onPort f).order x = s.order x) ∧ (∀ x, (s.onPort f).entry x = s.entry x) ∧ (∀ x, (s.onPort f).printer x = s.printer x) ∧
    (∀ x, (s.onPort f).note x = s.note x) ∧ (∀ x, (s.onPort f).bay x = s.bay x) ∧ (∀ x, (s.onPort f).pin x = s.pin x) ∧
    (∀ x, (s.onPort f).aperture x = s.aperture x) :=
  by and_intros <;> intros <;> rfl

@[simp] theorem port_onPort (s : State) (f : Port → Port) : (s.onPort f).port = f s.port := rfl

@[simp] theorem onPrice_keeps (s : State) (f : PriceUnit → PriceUnit) :
    (s.onPrice f).part = s.part ∧ (s.onPrice f).pcieUp = s.pcieUp ∧ (s.onPrice f).msiEnable = s.msiEnable ∧
    (s.onPrice f).clock = s.clock ∧ (s.onPrice f).timers = s.timers ∧ (s.onPrice f).slots = s.slots ∧ (s.onPrice f).intake = s.intake ∧
    (s.onPrice f).attnDone = s.attnDone ∧ (s.onPrice f).attnProgress = s.attnProgress ∧ (s.onPrice f).attnMisuse = s.attnMisuse ∧
    (s.onPrice f).attnEnable = s.attnEnable ∧ (s.onPrice f).unitChanged = s.unitChanged ∧ (s.onPrice f).orderChanged = s.orderChanged ∧
    (s.onPrice f).stations = s.stations ∧ (s.onPrice f).sessions = s.sessions ∧ (s.onPrice f).orders = s.orders ∧
    (s.onPrice f).orderSerial = s.orderSerial ∧ (s.onPrice f).stock = s.stock ∧ (s.onPrice f).heldList = s.heldList ∧
    (s.onPrice f).quoteSequence = s.quoteSequence ∧ (s.onPrice f).printers = s.printers ∧ (s.onPrice f).retryNotes = s.retryNotes ∧
    (s.onPrice f).bays = s.bays ∧ (s.onPrice f).contactPins = s.contactPins ∧ (s.onPrice f).apertures = s.apertures ∧
    (s.onPrice f).port = s.port ∧ (s.onPrice f).terminal = s.terminal ∧ (s.onPrice f).out = s.out ∧ (s.onPrice f).pending = s.pending ∧
    (∀ x, (s.onPrice f).slot x = s.slot x) ∧ (∀ x, (s.onPrice f).station x = s.station x) ∧
    (∀ x, (s.onPrice f).session x = s.session x) ∧ (∀ x, (s.onPrice f).order x = s.order x) ∧ (∀ x, (s.onPrice f).entry x = s.entry x) ∧
    (∀ x, (s.onPrice f).printer x = s.printer x) ∧ (∀ x, (s.onPrice f).note x = s.note x) ∧ (∀ x, (s.onPrice f).bay x = s.bay x) ∧
    (∀ x, (s.onPrice f).pin x = s.pin x) ∧ (∀ x, (s.onPrice f).aperture x = s.aperture x) :=
  by and_intros <;> intros <;> rfl

@[simp] theorem price_onPrice (s : State) (f : PriceUnit → PriceUnit) : (s.onPrice f).price = f s.price := rfl

@[simp] theorem emit_keeps (s : State) (o : Out) :
    (s.emit o).part = s.part ∧ (s.emit o).pcieUp = s.pcieUp ∧ (s.emit o).msiEnable = s.msiEnable ∧ (s.emit o).clock = s.clock ∧
    (s.emit o).timers = s.timers ∧ (s.emit o).slots = s.slots ∧ (s.emit o).intake = s.intake ∧ (s.emit o).attnDone = s.attnDone ∧
    (s.emit o).attnProgress = s.attnProgress ∧ (s.emit o).attnMisuse = s.attnMisuse ∧ (s.emit o).attnEnable = s.attnEnable ∧
    (s.emit o).unitChanged = s.unitChanged ∧ (s.emit o).orderChanged = s.orderChanged ∧ (s.emit o).stations = s.stations ∧
    (s.emit o).sessions = s.sessions ∧ (s.emit o).orders = s.orders ∧ (s.emit o).orderSerial = s.orderSerial ∧
    (s.emit o).price = s.price ∧ (s.emit o).stock = s.stock ∧ (s.emit o).heldList = s.heldList ∧
    (s.emit o).quoteSequence = s.quoteSequence ∧ (s.emit o).printers = s.printers ∧ (s.emit o).retryNotes = s.retryNotes ∧
    (s.emit o).bays = s.bays ∧ (s.emit o).contactPins = s.contactPins ∧ (s.emit o).apertures = s.apertures ∧ (s.emit o).port = s.port ∧
    (s.emit o).terminal = s.terminal ∧ (s.emit o).pending = s.pending ∧ (∀ x, (s.emit o).slot x = s.slot x) ∧
    (∀ x, (s.emit o).station x = s.station x) ∧ (∀ x, (s.emit o).session x = s.session x) ∧ (∀ x, (s.emit o).order x = s.order x) ∧
    (∀ x, (s.emit o).entry x = s.entry x) ∧ (∀ x, (s.emit o).printer x = s.printer x) ∧ (∀ x, (s.emit o).note x = s.note x) ∧
    (∀ x, (s.emit o).bay x = s.bay x) ∧ (∀ x, (s.emit o).pin x = s.pin x) ∧ (∀ x, (s.emit o).aperture x = s.aperture x) :=
  by and_intros <;> intros <;> rfl

@[simp] theorem out_emit (s : State) (o : Out) : (s.emit o).out = s.out ++ [o] := rfl

@[simp] theorem quiet_keeps (s : State) :
    s.quiet.part = s.part ∧ s.quiet.pcieUp = s.pcieUp ∧ s.quiet.msiEnable = s.msiEnable ∧ s.quiet.clock = s.clock ∧
    s.quiet.timers = s.timers ∧ s.quiet.slots = s.slots ∧ s.quiet.intake = s.intake ∧ s.quiet.attnDone = s.attnDone ∧
    s.quiet.attnProgress = s.attnProgress ∧ s.quiet.attnMisuse = s.attnMisuse ∧ s.quiet.attnEnable = s.attnEnable ∧
    s.quiet.unitChanged = s.unitChanged ∧ s.quiet.orderChanged = s.orderChanged ∧ s.quiet.stations = s.stations ∧
    s.quiet.sessions = s.sessions ∧ s.quiet.orders = s.orders ∧ s.quiet.orderSerial = s.orderSerial ∧ s.quiet.price = s.price ∧
    s.quiet.stock = s.stock ∧ s.quiet.heldList = s.heldList ∧ s.quiet.quoteSequence = s.quoteSequence ∧ s.quiet.printers = s.printers ∧
    s.quiet.retryNotes = s.retryNotes ∧ s.quiet.bays = s.bays ∧ s.quiet.contactPins = s.contactPins ∧ s.quiet.apertures = s.apertures ∧
    s.quiet.port = s.port ∧ s.quiet.terminal = s.terminal ∧ s.quiet.pending = s.pending ∧ (∀ x, s.quiet.slot x = s.slot x) ∧
    (∀ x, s.quiet.station x = s.station x) ∧ (∀ x, s.quiet.session x = s.session x) ∧ (∀ x, s.quiet.order x = s.order x) ∧
    (∀ x, s.quiet.entry x = s.entry x) ∧ (∀ x, s.quiet.printer x = s.printer x) ∧ (∀ x, s.quiet.note x = s.note x) ∧
    (∀ x, s.quiet.bay x = s.bay x) ∧ (∀ x, s.quiet.pin x = s.pin x) ∧ (∀ x, s.quiet.aperture x = s.aperture x) :=
  by and_intros <;> intros <;> rfl

@[simp] theorem out_quiet (s : State) : s.quiet.out = [] := rfl

/-- Two states with the same fields, the tables compared entry by entry. -/
theorem quiet_eq_of_out {s : State} (h : s.out = []) : s.quiet = s := by
  cases s
  simp_all [State.quiet]

section ForEach
variable {α : Type}

@[simp] theorem forEach_nil (f : α → State → State) (s : State) : forEach [] f s = s := rfl

@[simp] theorem forEach_cons (a : α) (l : List α) (f : α → State → State) (s : State) : forEach (a :: l) f s = forEach l f (f a s) := rfl

/-- What every member's change keeps, the whole keeps. -/
theorem forEach_keeps {β : Type} (view : State → β) (f : α → State → State) (h : ∀ a s, view (f a s) = view s) (l : List α) :
    ∀ s, view (forEach l f s) = view s := by
  induction l with
  | nil => intro s; rfl
  | cons a rest ih => intro s; rw [forEach_cons, ih, h]

/-- An invariant of every member's change is one of the whole. -/
theorem forEach_invariant (P : State → Prop) (f : α → State → State) (h : ∀ a s, P s → P (f a s)) (l : List α) :
    ∀ s, P s → P (forEach l f s) := by
  induction l with
  | nil => intro s hs; exact hs
  | cons a rest ih => intro s hs; exact ih _ (h a s hs)

end ForEach

end Machine

end Sys2Proof
end

