-- ==== Sys2Proof/Laws/Settle.lean ====
section
/-! SUPPORT. What the settling at the end of an event can do: the relation `Moves`, kept by each operation of `settle`, says that the steady
part of State and every order at rest stay as they were, that a set change bit stays set, and that what was sent stays sent. -/

namespace Sys2Proof.Machine

/-- From `s` to `t` only what settling may change has changed. -/
abbrev Moves (s t : State) : Prop := Settled s t

/-- A set bit stays set. -/
theorem and_or_self {n : Nat} (a b : BitVec n) : a &&& (a ||| b) = a := by
  ext i hi
  simp
  intro h
  exact Or.inl h

theorem and_trans {n : Nat} {a b c : BitVec n} (h : a &&& b = a) (k : b &&& c = b) : a &&& c = a := by
  rw [← h, BitVec.and_assoc, k]

namespace Moves

/-- An update that leaves the change bits alone. -/
theorem of {s t : State} (h : t.steady = s.steady) (k : ∀ o, restful (s.order o) = true → t.order o = s.order o)
    (hu : t.unitChanged = s.unitChanged) (ho : t.orderChanged = s.orderChanged) (more : List Out) (e : t.out = s.out ++ more) : Moves s t :=
  ⟨h, k, by rw [hu, BitVec.and_self], by rw [ho, BitVec.and_self], more, e⟩

theorem refl (s : State) : Moves s s := of rfl (fun _ _ => rfl) rfl rfl [] (by simp)

theorem trans {s t u : State} (h : Moves s t) (k : Moves t u) : Moves s u := by
  obtain ⟨h1, h2, hu, ho, a, ha⟩ := h
  obtain ⟨k1, k2, ku, ko, b, kb⟩ := k
  exact ⟨k1.trans h1, fun o ho => (k2 o (by rw [h2 o ho]; exact ho)).trans (h2 o ho), and_trans hu ku, and_trans ho ko, a ++ b,
    by rw [kb, ha, List.append_assoc]⟩

theorem forEach {α : Type} (f : α → State → State) (h : ∀ a s, Moves s (f a s)) (l : List α) : ∀ s, Moves s (forEach l f s) := by
  induction l with
  | nil => exact refl
  | cons a rest ih => exact fun s => (h a s).trans (ih _)

theorem ite {c : Prop} [Decidable c] {s t u : State} (h : c → Moves s t) (k : ¬c → Moves s u) : Moves s (if c then t else u) := by
  split
  · exact h ‹_›
  · exact k ‹_›

/-! ### The updates -/

theorem map_steady {α β : Type} {n : Nat} (t : Vector α n) (i : Fin n) (f : α → α) (g : α → β) (h : g (f (look t i)) = g (look t i)) :
    (upd t i f).map g = t.map g := by
  apply table_ext
  intro j
  by_cases e : i = j
  · subst e; simp [h]
  · simp [e]

theorem onStation (s : State) (i : StationId) (f : Station → Station) (h : ∀ t, (f t).steady = t.steady) : Moves s (s.onStation i f) :=
  of (by simp [State.steady, State.onStation, map_steady _ _ _ _ (h _)]) (fun _ _ => rfl) rfl rfl [] (by simp)

theorem onPrinter (s : State) (p : PrinterId) (f : Printer → Printer) (h : ∀ t, (f t).steady = t.steady) : Moves s (s.onPrinter p f) :=
  of (by simp [State.steady, State.onPrinter, map_steady _ _ _ _ (h _)]) (fun _ _ => rfl) rfl rfl [] (by simp)

theorem onBay (s : State) (b : BayId) (f : Bay → Bay) (h : ∀ t, (f t).steady = t.steady) : Moves s (s.onBay b f) :=
  of (by simp [State.steady, State.onBay, map_steady _ _ _ _ (h _)]) (fun _ _ => rfl) rfl rfl [] (by simp)

theorem onOrder (s : State) (o : OrderId) (f : Order → Order) (h : (f (s.order o)).steady = (s.order o).steady)
    (k : restful (s.order o) = false) : Moves s (s.onOrder o f) := by
  refine of (by simp [State.steady, State.onOrder, map_steady _ _ _ _ h]) (fun x hx => ?_) rfl rfl [] (by simp)
  by_cases e : o = x
  · subst e; rw [k] at hx; cases hx
  · simp [e]

theorem onNote (s : State) (o : OrderId) (f : Option Nat → Option Nat) : Moves s (s.onNote o f) := of rfl (fun _ _ => rfl) rfl rfl [] (by simp)

theorem onPort (s : State) (f : Port → Port) : Moves s (s.onPort f) := of rfl (fun _ _ => rfl) rfl rfl [] (by simp)

theorem onTerminal (s : State) (f : Terminal → Terminal) (h : (f s.terminal).steady = s.terminal.steady) : Moves s (s.onTerminal f) :=
  of (by simp [State.steady, State.onTerminal, h]) (fun _ _ => rfl) rfl rfl [] (by simp)

theorem onPrice (s : State) (f : PriceUnit → PriceUnit) (h : (f s.price).steady = s.price.steady) : Moves s (s.onPrice f) :=
  of (by simp [State.steady, State.onPrice, h]) (fun _ _ => rfl) rfl rfl [] (by simp)

theorem emit (s : State) (o : Out) : Moves s (s.emit o) := of rfl (fun _ _ => rfl) rfl rfl [o] rfl

theorem withHeldList (s : State) (l : List OrderId) : Moves s { s with heldList := l } := of rfl (fun _ _ => rfl) rfl rfl [] (by simp)

theorem onSlot (s : State) (n : SlotId) (f : Slot → Slot) (h : (f (s.slot n)).steady = (s.slot n).steady) : Moves s (s.onSlot n f) :=
  of (by simp only [State.steady, State.onSlot, map_steady s.slots n f Slot.steady h]) (fun _ _ => rfl) rfl rfl [] (by simp)

theorem writeBody (n : SlotId) (body : Body) (s : State) : Moves s (writeBody n body s) :=
  ite (fun h => onSlot s n _ (by simp [Slot.steady, h])) fun _ => refl s

theorem onCopy (s : State) (p : PrinterId) (f : Copy → Copy) : Moves s (s.onCopy p f) := onPrinter _ _ _ fun _ => rfl

theorem withdraw (s : State) (r : Requester) : Moves s (s.withdraw r) := onPort _ _

theorem evalLamps (i : StationId) (s : State) : Moves s (evalLamps i s) := by
  refine onStation _ _ _ fun t => ?_
  simp only [lampsOf]
  (repeat' split) <;> simp [Station.steady]

theorem evalAllLamps (s : State) : Moves s (evalAllLamps s) := forEach _ evalLamps _ s

theorem markUnit (s : State) (n : UnitId) : Moves s (s.markUnit n) :=
  ⟨rfl, fun _ _ => rfl, and_or_self _ _, BitVec.and_self, [], by simp [State.markUnit]⟩

theorem markChanges (before s : State) : Moves s (markChanges before s) :=
  ⟨rfl, fun _ _ => rfl, and_or_self _ _, and_or_self _ _, [], by simp [Machine.markChanges]⟩

/-! ### Orders -/

theorem leaveQueues (o : OrderId) (s : State) : Moves s (leaveQueues o s) :=
  Moves.trans (onPrinter s 0 (fun q => { q with queue := removeOrder o q.queue }) fun _ => rfl)
    (onPrinter _ 1 (fun q => { q with queue := removeOrder o q.queue }) fun _ => rfl)

theorem joinQueue (o : OrderId) (p : PrinterId) (s : State) : Moves s (joinQueue o p s) :=
  (leaveQueues o s).trans (onPrinter _ p (fun q => { q with queue := q.queue ++ [o] }) fun _ => rfl)

theorem leaveHeld (o : OrderId) (s : State) : Moves s (leaveHeld o s) := withHeldList _ _

theorem markHeldList (s : State) : Moves s (markHeldList s) := (markUnit s _).trans (markUnit _ _)

theorem toDraft (o : OrderId) (why : DraftReason) (s : State) (k : restful (s.order o) = false) : Moves s (toDraft o why s) :=
  onOrder _ _ _ rfl k

theorem makePaid (o : OrderId) (p : PrinterId) (s : State) (k : restful (s.order o) = false) : Moves s (makePaid o p s) :=
  (onOrder s o _ rfl k).trans (joinQueue o p _)

theorem enterHeld (o : OrderId) (s : State) (k : restful (s.order o) = false) : Moves s (enterHeld o s) := by
  have a : Moves s (Machine.leaveHeld o (Machine.leaveQueues o s)) := (leaveQueues o s).trans (leaveHeld o _)
  exact a.trans ((onOrder (Machine.leaveHeld o (Machine.leaveQueues o s)) o _ rfl k).trans ((withHeldList _ _).trans ((markHeldList _).trans (evalLamps _ _))))

theorem placeHeld (o : OrderId) (p : PrinterId) (s : State) (k : restful (s.order o) = false) : Moves s (placeHeld o p s) :=
  (leaveHeld o s).trans ((markHeldList _).trans ((makePaid o p (Machine.markHeldList (Machine.leaveHeld o s)) k).trans (evalLamps _ _)))

theorem abortCopy (p : PrinterId) (cause : CopyResult) (s : State) : Moves s (abortCopy p cause s) := by
  unfold Machine.abortCopy
  split
  · exact refl s
  · split
    · exact refl s
    · exact (emit s _).trans ((onCopy _ p _).trans (withdraw _ _))

/-! ### Release and the held list -/

theorem releaseOrder (p : PrinterId) (o : OrderId) (s : State) : Moves s (releaseOrder p o s) := by
  have rest : ∀ {r : Order} {st : OrderState}, r.state = st → restful { r with state := st } = restful r := fun h => by subst h; rfl
  simp only [Machine.releaseOrder]
  split <;> rename_i h
  · have k : restful (s.order o) = false := by simp [restful, h]
    exact ite (fun _ => onOrder _ _ _ rfl k) fun _ => toDraft _ _ _ k
  · have k : restful (s.order o) = false := by simp [restful, h]
    exact onOrder _ _ _ rfl k
  · have k : restful (s.order o) = false := by simp [restful, h]
    exact ite (fun _ => makePaid _ _ _ k) fun _ => enterHeld _ _ k
  · have k : restful (s.order o) = false := by simp [restful, h]
    exact ite (fun _ => makePaid _ _ _ k) fun _ => enterHeld _ _ k
  · exact refl s

theorem releaseStep (p : PrinterId) (o : OrderId) (s : State) : Moves s (releaseStep p o s) :=
  ite (fun _ => releaseOrder p o s) fun _ => refl s

theorem releaseCopy (p : PrinterId) (s : State) : Moves s (releaseCopy p s) :=
  ite (fun _ => (onCopy s p _).trans (abortCopy p _ _)) fun _ => refl s

theorem release (p : PrinterId) (s : State) : Moves s (release p s) := (forEach _ (releaseStep p) _ s).trans (releaseCopy p _)

theorem scanStep (o : OrderId) (s : State) : Moves s (scanStep o s) := by
  unfold Machine.scanStep
  split
  · rename_i h
    split
    · exact placeHeld _ _ _ (by simp [restful, h])
    · exact refl s
  · exact refl s

theorem scanHeld (s : State) : Moves s (scanHeld s) := forEach _ scanStep _ s

/-! ### Copies -/

theorem map_modify_steady (l : List Item) (i : Nat) (f : Item → Item) (h : ∀ x, (f x).steady = x.steady) :
    (l.modify i f).map Item.steady = l.map Item.steady := by
  apply List.ext_getElem
  · simp
  · intro k hk hk'
    simp only [List.getElem_map, List.getElem_modify]
    split
    · exact h _
    · rfl

theorem copyBegins (o : OrderId) (i : Nat) (s : State) (k : restful (s.order o) = false) : Moves s (copyBegins o i s) := by
  unfold Machine.copyBegins State.onItem
  have a : Moves s (s.onOrder o fun r =>
      { r with items := r.items.modify i fun x => { x with inFlight := x.inFlight + 1, state := if x.state = .pending then .active else x.state } }) :=
    onOrder _ _ _ (by simp only [Order.steady]; rw [map_modify_steady]; intro x; rfl) k
  refine a.trans (onOrder _ _ _ ?_ ?_)
  · simp only [order_onOrder_same]
    rfl
  · simpa [restful] using k

theorem beginCopy (p : PrinterId) (o : OrderId) (i : Nat) (item : Item) (s : State) (k : restful (s.order o) = false) :
    Moves s (beginCopy p o i item s) := by
  simp only [Machine.beginCopy]
  refine Moves.trans ?_ ((emit _ _).trans (copyBegins o i _ ?_))
  · split
    · refine Moves.trans (onPrinter s p _ ?_) (onNote _ o _)
      intro q; rfl
    · refine onPrinter s p _ ?_
      intro q; rfl
  · split <;> simpa using k

theorem nextCopy_state {s : State} {p : PrinterId} {o : OrderId} {i : Nat} (h : nextCopy s p = some (o, i)) :
    (s.order o).state = .paid ∨ (s.order o).state = .printing := by
  obtain ⟨x, -, hx⟩ := List.exists_of_findSome?_eq_some h
  obtain ⟨j, hj, e⟩ := Option.map_eq_some_iff.1 hx
  cases e
  unfold nextItem at hj
  split at hj
  · assumption
  · cases hj

theorem beginCheck (p : PrinterId) (s : State) : Moves s (beginCheck p s) := by
  simp only [Machine.beginCheck]
  split
  · split
    · rename_i o i h
      split
      · refine beginCopy _ _ _ _ _ ?_
        obtain h | h := nextCopy_state h <;> simp [restful, h]
      · exact refl s
    · exact refl s
  · exact refl s

/-! ### The terminal and the master port -/

theorem setReference (o : OrderId) (ref : W16) (s : State) :
    Moves s (s.onOrder o fun r => if r.state = .paying then { r with reference := some ref } else r) := by
  by_cases h : (s.order o).state = .paying
  · exact onOrder _ _ _ (by simp [h]; rfl) (by simp [restful, h])
  · have k : ¬(look s.orders o).state = .paying := h
    refine of ?_ (fun x _ => ?_) rfl rfl [] (by simp)
    · simp only [State.steady, State.onOrder]
      rw [map_steady]
      simp [k]
    · by_cases c : o = x
      · subst c; simp [h]
      · simp [c]

theorem grantPay (e : PayEntry) (s : State) : Moves s (grantPay e s) := by
  simp only [Machine.grantPay]
  refine Moves.trans (Moves.trans (onTerminal s _ ?_) (setReference e.order _ _)) ((writeBody _ _ _).trans (emit _ _))
  rfl

theorem grantSettlement (e : PendingSettlement) (s : State) : Moves s (grantSettlement e s) := by
  refine Moves.trans (onTerminal s _ ?_) (emit _ _)
  rfl

theorem grantVoid (e : VoidEntry) (s : State) : Moves s (grantVoid e s) := by
  refine Moves.trans (onTerminal s _ ?_) (emit _ _)
  rfl

theorem arbiter (s : State) : Moves s (arbiter s) := by
  unfold Machine.arbiter
  split
  · split
    · exact grantSettlement _ _
    · exact grantVoid _ _
    · exact grantPay _ _
    · exact refl s
  · exact refl s

theorem grantNote (t : Transfer) (s : State) : Moves s (grantNote t s) := by
  unfold Machine.grantNote
  split
  · refine onBay _ _ _ fun y => ?_
    rename_i h _ _ _
    simp only [Bay.setHalf, Bay.half]
    split <;> rfl
  · exact onPrice _ _ (by simp only [PriceUnit.steady]; cases s.price.load <;> rfl)
  · exact refl s

theorem sendTransfer (t : Transfer) (s : State) : Moves s (sendTransfer t s) := by
  unfold Machine.sendTransfer
  split
  · exact emit _ _
  · exact (emit _ _).trans (emit _ _)

theorem grantTo (i : Fin 7) (s : State) : Moves s (grantTo i s) := by
  unfold Machine.grantTo
  split
  · exact refl s
  · exact (onPort s _).trans ((grantNote _ _).trans (sendTransfer _ _))

theorem grantOne (s : State) : Moves s (grantOne s) := by
  unfold Machine.grantOne
  split
  · split
    · exact grantTo _ _
    · exact refl s
  · exact refl s

theorem grantLoop (s : State) : Moves s (grantLoop s) :=
  (grantOne s).trans ((grantOne _).trans ((grantOne _).trans (grantOne _)))

/-- Settling changes only what `Moves` allows. -/
theorem settle (before s : State) : Moves s (settle before s) := by
  have a : Moves s (noteChanges before s) := (evalAllLamps s).trans (markChanges _ _)
  have b : Moves s (releaseBoth (noteChanges before s)) :=
    a.trans (((release 0 _).trans (release 1 _)).trans (markChanges _ _))
  refine b.trans (Moves.trans ?_ ((beginCheck 0 _).trans ((beginCheck 1 _).trans ((arbiter _).trans ((grantLoop _).trans (evalAllLamps _))))))
  exact ite (fun _ => scanHeld _) fun _ => refl _

end Moves

end Sys2Proof.Machine
end

