-- ==== Sys2Proof/Laws/Shell.lean ====
section
/-! SUPPORT. No work of a block changes the shell of State: the part's state, CLOCK, the timer settings, the request parts, the intake list,
MISUSE, the enables, the serial counter, ranges and accesses of the apertures, the pins and the waiting commands. One lemma per operation. -/

namespace Sys2Proof.Machine


@[simp] theorem shell_onStation (s : State) (i : StationId) (f : Station → Station) : (s.onStation i f).shell = s.shell := rfl
@[simp] theorem shell_onSession (s : State) (i : SessionId) (f : Session → Session) : (s.onSession i f).shell = s.shell := rfl
@[simp] theorem shell_onOrder (s : State) (i : OrderId) (f : Order → Order) : (s.onOrder i f).shell = s.shell := rfl
@[simp] theorem shell_onEntry (s : State) (i : PrinterId) (f : StockEntry → StockEntry) : (s.onEntry i f).shell = s.shell := rfl
@[simp] theorem shell_onPrinter (s : State) (i : PrinterId) (f : Printer → Printer) : (s.onPrinter i f).shell = s.shell := rfl
@[simp] theorem shell_onNote (s : State) (i : OrderId) (f : Option Nat → Option Nat) : (s.onNote i f).shell = s.shell := rfl
@[simp] theorem shell_onBay (s : State) (i : BayId) (f : Bay → Bay) : (s.onBay i f).shell = s.shell := rfl
@[simp] theorem shell_onTerminal (s : State) (f : Terminal → Terminal) : (s.onTerminal f).shell = s.shell := rfl
@[simp] theorem shell_onPort (s : State) (f : Port → Port) : (s.onPort f).shell = s.shell := rfl
@[simp] theorem shell_onPrice (s : State) (f : PriceUnit → PriceUnit) : (s.onPrice f).shell = s.shell := rfl
@[simp] theorem shell_emit (s : State) (o : Out) : (s.emit o).shell = s.shell := rfl
@[simp] theorem shell_quiet (s : State) : s.quiet.shell = s.shell := rfl
@[simp] theorem shell_present (s : State) (t : Transfer) : (s.present t).shell = s.shell := rfl
@[simp] theorem shell_withdraw (s : State) (r : Requester) : (s.withdraw r).shell = s.shell := rfl
@[simp] theorem shell_markUnit (s : State) (n : UnitId) : (s.markUnit n).shell = s.shell := rfl
@[simp] theorem shell_markOrder (s : State) (o : OrderId) : (s.markOrder o).shell = s.shell := rfl
@[simp] theorem shell_onItem (s : State) (o : OrderId) (i : Nat) (f : Item → Item) : (s.onItem o i f).shell = s.shell := rfl
@[simp] theorem shell_onCopy (s : State) (p : PrinterId) (f : Copy → Copy) : (s.onCopy p f).shell = s.shell := rfl
@[simp] theorem shell_onActive (s : State) (b : BayId) (f : Read → Read) : (s.onActive b f).shell = s.shell := rfl
@[simp] theorem shell_onTill (s : State) (f : Till → Till) : (s.onTill f).shell = s.shell := rfl
@[simp] theorem shell_markChanges (b s : State) : (markChanges b s).shell = s.shell := rfl
@[simp] theorem shell_heldList (s : State) (l : List OrderId) : State.shell { s with heldList := l } = s.shell := rfl
@[simp] theorem shell_quoteSequence (s : State) (n : Nat) : State.shell { s with quoteSequence := n } = s.shell := rfl
@[simp] theorem shell_orders (s : State) (v : Vector Order 32) : State.shell { s with orders := v } = s.shell := rfl
@[simp] theorem shell_unitChanged (s : State) (v : BitVec 12) : State.shell { s with unitChanged := v } = s.shell := rfl
@[simp] theorem shell_attnDone (s : State) (v : Bool) : State.shell { s with attnDone := v } = s.shell := rfl
@[simp] theorem shell_attnProgress (s : State) (v : Bool) : State.shell { s with attnProgress := v } = s.shell := rfl

theorem map_upd {α β : Type} {n : Nat} (t : Vector α n) (i : Fin n) (f : α → α) (g : α → β) (h : g (f (look t i)) = g (look t i)) :
    (upd t i f).map g = t.map g := by
  apply table_ext
  intro j
  by_cases e : i = j
  · subst e; simp [h]
  · simp [e]

theorem shell_onSlot (s : State) (n : SlotId) (f : Slot → Slot) (h : (f (s.slot n)).shell = (s.slot n).shell) :
    (s.onSlot n f).shell = s.shell := by
  simp only [State.shell, State.onSlot, map_upd s.slots n f Slot.shell h]

theorem shell_onAperture (s : State) (a : ApertureId) (f : Aperture → Aperture) (h : (f (s.aperture a)).shell = (s.aperture a).shell) :
    (s.onAperture a f).shell = s.shell := by
  simp only [State.shell, State.onAperture, map_upd s.apertures a f Aperture.shell h]

@[simp] theorem shell_ite (c : Prop) [Decidable c] (s t : State) : (if c then s else t).shell = if c then s.shell else t.shell :=
  apply_ite State.shell c s t

@[simp] theorem shell_forEach {α : Type} (f : α → State → State) (h : ∀ a s, (f a s).shell = s.shell) (l : List α) (s : State) :
    (forEach l f s).shell = s.shell := forEach_keeps State.shell f h l s

@[simp] theorem shell_complete (n : SlotId) (st : Status) (why : Reason) (body : Body) (s : State) :
    (complete n st why body s).shell = s.shell := by
  unfold complete
  split
  · rename_i h
    rw [shell_attnDone]
    exact shell_onSlot _ _ _ (by simp [Slot.shell, h])
  · rfl

@[simp] theorem shell_completeKeeping (n : SlotId) (st : Status) (s : State) : (completeKeeping n st s).shell = s.shell := by
  simp [completeKeeping]

@[simp] theorem shell_advanceProgress (n : SlotId) (s : State) : (advanceProgress n s).shell = s.shell := by
  unfold advanceProgress
  split
  · rw [shell_attnProgress]
    exact shell_onSlot _ _ _ rfl
  · rfl

@[simp] theorem shell_writeBody (n : SlotId) (body : Body) (s : State) : (writeBody n body s).shell = s.shell := by
  unfold writeBody
  split
  · exact shell_onSlot _ _ _ rfl
  · rfl

@[simp] theorem shell_sendMessage (s : State) : (sendMessage s).shell = s.shell := by simp [sendMessage]
@[simp] theorem shell_interruptAfterWrite (s : State) : (interruptAfterWrite s).shell = s.shell := by simp [interruptAfterWrite]
@[simp] theorem shell_interruptOnEdge (b s : State) : (interruptOnEdge b s).shell = s.shell := by simp [interruptOnEdge]
@[simp] theorem shell_closeEvent (b s : State) : (closeEvent b s).shell = s.shell := by simp [closeEvent]

@[simp] theorem shell_evalLamps (i : StationId) (s : State) : (evalLamps i s).shell = s.shell := by
  simp only [evalLamps]
  simp

@[simp] theorem shell_evalAllLamps (s : State) : (evalAllLamps s).shell = s.shell := by
  simp only [evalAllLamps]
  simp

@[simp] theorem shell_openSessionAt (i : StationId) (k : SessionId) (s : State) : (openSessionAt i k s).shell = s.shell := by
  simp only [openSessionAt]
  simp

@[simp] theorem shell_restartSession (k : SessionId) (s : State) : (restartSession k s).shell = s.shell := by
  simp only [restartSession]
  (repeat' split) <;> simp

@[simp] theorem shell_restartForStation (i : StationId) (s : State) : (restartForStation i s).shell = s.shell := by
  simp only [restartForStation]
  (repeat' split) <;> simp

@[simp] theorem shell_restartForOrder (o : OrderId) (s : State) : (restartForOrder o s).shell = s.shell := by
  simp only [restartForOrder]
  (repeat' split) <;> simp

@[simp] theorem shell_clearNoRoom (s : State) : (clearNoRoom s).shell = s.shell := by
  simp only [clearNoRoom]
  simp

@[simp] theorem shell_freeEntry (k : SessionId) (s : State) : (freeEntry k s).shell = s.shell := by
  simp only [freeEntry]
  simp

@[simp] theorem shell_cardArrival (i : StationId) (s : State) : (cardArrival i s).shell = s.shell := by
  simp only [cardArrival]
  (repeat' split) <;> simp

@[simp] theorem shell_reportFinal (o : OrderId) (s : State) : (reportFinal o s).shell = s.shell := by
  simp only [reportFinal]
  (repeat' split) <;> simp

@[simp] theorem shell_stopWatch (o : OrderId) (s : State) : (stopWatch o s).shell = s.shell := by
  simp only [stopWatch]
  (repeat' split) <;> simp

@[simp] theorem shell_restartWatch (o : OrderId) (s : State) : (restartWatch o s).shell = s.shell := by
  simp only [restartWatch]
  (repeat' split) <;> simp

@[simp] theorem shell_startNotice (i : StationId) (s : State) : (startNotice i s).shell = s.shell := by
  simp only [startNotice]
  simp

@[simp] theorem shell_leaveQueues (o : OrderId) (s : State) : (leaveQueues o s).shell = s.shell := by
  simp only [leaveQueues]
  simp

@[simp] theorem shell_joinQueue (o : OrderId) (p : PrinterId) (s : State) : (joinQueue o p s).shell = s.shell := by
  simp only [joinQueue]
  simp

@[simp] theorem shell_leaveHeld (o : OrderId) (s : State) : (leaveHeld o s).shell = s.shell := by
  simp only [leaveHeld]
  simp

@[simp] theorem shell_markHeldList (s : State) : (markHeldList s).shell = s.shell := by
  simp only [markHeldList]
  simp

@[simp] theorem shell_toDraft (o : OrderId) (why : DraftReason) (s : State) : (toDraft o why s).shell = s.shell := by
  simp only [toDraft]
  simp

@[simp] theorem shell_makePaid (o : OrderId) (p : PrinterId) (s : State) : (makePaid o p s).shell = s.shell := by
  simp only [makePaid]
  simp

@[simp] theorem shell_enterHeld (o : OrderId) (s : State) : (enterHeld o s).shell = s.shell := by
  simp only [enterHeld, shell_evalLamps, shell_markHeldList]
  simp [State.shell, leaveHeld, leaveQueues, State.onPrinter, State.onOrder]

@[simp] theorem shell_placeHeld (o : OrderId) (p : PrinterId) (s : State) : (placeHeld o p s).shell = s.shell := by
  simp only [placeHeld]
  simp

@[simp] theorem shell_makeCancelled (o : OrderId) (s : State) : (makeCancelled o s).shell = s.shell := by
  simp only [makeCancelled]
  simp

@[simp] theorem shell_addSettlement (o : OrderId) (attempts : Nat) (s : State) : (addSettlement o attempts s).shell = s.shell := by
  simp only [addSettlement]
  simp

@[simp] theorem shell_settlementTrigger (o : OrderId) (s : State) : (settlementTrigger o s).shell = s.shell := by
  simp only [settlementTrigger]
  (repeat' split) <;> simp

@[simp] theorem shell_settlementCheck (o : OrderId) (s : State) : (settlementCheck o s).shell = s.shell := by
  simp only [settlementCheck]
  (repeat' split) <;> simp

@[simp] theorem shell_closeOrder (o : OrderId) (how : SettleStatus) (s : State) : (closeOrder o how s).shell = s.shell := by
  simp only [closeOrder]
  (repeat' split) <;> simp

@[simp] theorem shell_dropCopies (o : OrderId) (s : State) : (dropCopies o s).shell = s.shell := by
  simp only [dropCopies]
  simp

@[simp] theorem shell_copyBegins (o : OrderId) (i : Nat) (s : State) : (copyBegins o i s).shell = s.shell := by
  simp only [copyBegins]
  simp

@[simp] theorem shell_copyEnded (p : PrinterId) (c : Copy) (result : CopyResult) (s : State) : (copyEnded p c result s).shell = s.shell := by
  simp only [copyEnded]
  (repeat' split) <;> simp

@[simp] theorem shell_retireOrder (o : OrderId) (s : State) : (retireOrder o s).shell = s.shell := by
  simp only [retireOrder]
  simp

@[simp] theorem shell_setPrinterState (p : PrinterId) (new : PrinterState) (s : State) : (setPrinterState p new s).shell = s.shell := by
  simp only [setPrinterState]
  (repeat' split) <;> simp

@[simp] theorem shell_enterService (p : PrinterId) (s : State) : (enterService p s).shell = s.shell := by
  simp only [enterService]
  simp

@[simp] theorem shell_abortCopy (p : PrinterId) (cause : CopyResult) (s : State) : (abortCopy p cause s).shell = s.shell := by
  simp only [abortCopy]
  (repeat' split) <;> simp

@[simp] theorem shell_endCopy (p : PrinterId) (result : CopyResult) (consumed : Nat) (s : State) : (endCopy p result consumed s).shell = s.shell := by
  simp only [endCopy]
  (repeat' split) <;> simp

@[simp] theorem shell_endCopyFull (p : PrinterId) (result : CopyResult) (s : State) : (endCopyFull p result s).shell = s.shell := by
  simp only [endCopyFull]
  simp

@[simp] theorem shell_beginCopy (p : PrinterId) (o : OrderId) (i : Nat) (item : Item) (s : State) : (beginCopy p o i item s).shell = s.shell := by
  simp only [beginCopy]
  (repeat' split) <;> simp

@[simp] theorem shell_beginCheck (p : PrinterId) (s : State) : (beginCheck p s).shell = s.shell := by
  simp only [beginCheck]
  (repeat' split) <;> simp

@[simp] theorem shell_trySend (p : PrinterId) (s : State) : (trySend p s).shell = s.shell := by
  simp only [trySend]
  (repeat' split) <;> simp

@[simp] theorem shell_newStripe (p : PrinterId) (n : Nat) (s : State) : (newStripe p n s).shell = s.shell := by
  simp only [newStripe]
  split
  · rfl
  · split
    · rfl
    · rw [shell_forEach _ fun _ _ => shell_present _ _]
      simp

@[simp] theorem shell_nextStripe (p : PrinterId) (n : Nat) (s : State) : (nextStripe p n s).shell = s.shell := by
  simp only [nextStripe]
  (repeat' split) <;> simp

@[simp] theorem shell_stripeArrived (p : PrinterId) (copyId : W16) (n : Nat) (side : Target) (last : Bool) (data : List Byte) (s : State) : (stripeArrived p copyId n side last data s).shell = s.shell := by
  simp only [stripeArrived]
  (repeat' split) <;> simp

@[simp] theorem shell_stripeFailed (p : PrinterId) (copyId : W16) (n : Nat) (side : Target) (s : State) : (stripeFailed p copyId n side s).shell = s.shell := by
  simp only [stripeFailed]
  (repeat' split) <;> simp

@[simp] theorem shell_frameSent (p : PrinterId) (s : State) : (frameSent p s).shell = s.shell := by
  simp only [frameSent]
  (repeat' split) <;> simp

@[simp] theorem shell_heard (p : PrinterId) (s : State) : (heard p s).shell = s.shell := by
  simp only [heard]
  simp

@[simp] theorem shell_linkHeard (p : PrinterId) (s : State) : (linkHeard p s).shell = s.shell := by
  simp only [linkHeard]
  simp

theorem shell_goodFrame (p : PrinterId) (f : State → State) (h : ∀ t, (f t).shell = t.shell) (s : State) :
    (goodFrame p f s).shell = s.shell := by
  unfold goodFrame
  split <;> simp [h]

@[simp] theorem shell_countStray (p : PrinterId) (s : State) : (countStray p s).shell = s.shell := by
  simp only [countStray]
  simp

@[simp] theorem shell_releaseOrder (p : PrinterId) (o : OrderId) (s : State) : (releaseOrder p o s).shell = s.shell := by
  simp only [releaseOrder]
  (repeat' split) <;> simp

@[simp] theorem shell_releaseStep (p : PrinterId) (o : OrderId) (s : State) : (releaseStep p o s).shell = s.shell := by
  simp only [releaseStep]
  (repeat' split) <;> simp

@[simp] theorem shell_releaseCopy (p : PrinterId) (s : State) : (releaseCopy p s).shell = s.shell := by
  simp only [releaseCopy]
  (repeat' split) <;> simp

@[simp] theorem shell_release (p : PrinterId) (s : State) : (release p s).shell = s.shell := by
  simp only [release]
  simp

@[simp] theorem shell_scanStep (o : OrderId) (s : State) : (scanStep o s).shell = s.shell := by
  simp only [scanStep]
  (repeat' split) <;> simp

@[simp] theorem shell_scanHeld (s : State) : (scanHeld s).shell = s.shell := by
  simp only [scanHeld]
  simp

@[simp] theorem shell_placeQuoted (o : OrderId) (p : PrinterId) (s : State) : (placeQuoted o p s).shell = s.shell := by
  simp only [placeQuoted, shell_quoteSequence, shell_onOrder]

@[simp] theorem shell_countApproval (amount : Nat) (s : State) : (countApproval amount s).shell = s.shell := by
  simp only [countApproval]
  simp

@[simp] theorem shell_countCapture (amount : Nat) (s : State) : (countCapture amount s).shell = s.shell := by
  simp only [countCapture]
  simp

@[simp] theorem shell_countVoid (amount : Nat) (s : State) : (countVoid amount s).shell = s.shell := by
  simp only [countVoid]
  simp

@[simp] theorem shell_countUncollected (h : Holder) (s : State) : (countUncollected h s).shell = s.shell := by
  simp only [countUncollected]
  simp

@[simp] theorem shell_countAbandoned (amount : Nat) (s : State) : (countAbandoned amount s).shell = s.shell := by
  simp only [countAbandoned]
  simp

@[simp] theorem shell_leaveVoidList (ref : W16) (s : State) : (leaveVoidList ref s).shell = s.shell := by
  simp only [leaveVoidList]
  simp

@[simp] theorem shell_dropOldestVoid (s : State) : (dropOldestVoid s).shell = s.shell := by
  simp only [dropOldestVoid]
  (repeat' split) <;> simp

@[simp] theorem shell_joinVoid (ref : W16) (amount attempts : Nat) (s : State) : (joinVoid ref amount attempts s).shell = s.shell := by
  simp only [joinVoid]
  (repeat' split) <;> simp

@[simp] theorem shell_grantPay (e : PayEntry) (s : State) : (grantPay e s).shell = s.shell := by
  simp only [grantPay]
  simp

@[simp] theorem shell_grantSettlement (e : PendingSettlement) (s : State) : (grantSettlement e s).shell = s.shell := by
  simp only [grantSettlement]
  (repeat' split) <;> simp

@[simp] theorem shell_grantVoid (e : VoidEntry) (s : State) : (grantVoid e s).shell = s.shell := by
  simp only [grantVoid]
  simp

@[simp] theorem shell_arbiter (s : State) : (arbiter s).shell = s.shell := by
  simp only [arbiter]
  (repeat' split) <;> simp

@[simp] theorem shell_approveOrder (o : OrderId) (code : List Byte) (s : State) : (approveOrder o code s).shell = s.shell := by
  simp only [approveOrder]
  (repeat' split) <;> simp

@[simp] theorem shell_failOrder (o : OrderId) (outcome : PayOutcome) (s : State) : (failOrder o outcome s).shell = s.shell := by
  simp only [failOrder]
  (repeat' split) <;> simp

@[simp] theorem shell_reportPayEnd (o : OrderId) (outcome : PayOutcome) (s : State) : (reportPayEnd o outcome s).shell = s.shell := by
  simp only [reportPayEnd]
  (repeat' split) <;> simp

@[simp] theorem shell_endPay (n : SlotId) (o : OrderId) (outcome : PayOutcome) (approved : Option Nat) (code : Option (List Byte)) (reason : Option Byte) (s : State) : (endPay n o outcome approved code reason s).shell = s.shell := by
  simp only [endPay]
  (repeat' split) <;> simp

@[simp] theorem shell_endHolding (s : State) : (endHolding s).shell = s.shell := by
  simp only [endHolding]
  simp

@[simp] theorem shell_clearHolder (s : State) : (clearHolder s).shell = s.shell := by
  simp only [clearHolder]
  simp

@[simp] theorem shell_startFollowUp (ref : W16) (amount : Nat) (s : State) : (startFollowUp ref amount s).shell = s.shell := by
  simp only [startFollowUp]
  simp

@[simp] theorem shell_loseAuthorization (h : Holder) (n : SlotId) (o : OrderId) (s : State) : (loseAuthorization h n o s).shell = s.shell := by
  simp only [loseAuthorization]
  simp

@[simp] theorem shell_abandonAuthorization (h : Holder) (n : SlotId) (o : OrderId) (s : State) : (abandonAuthorization h n o s).shell = s.shell := by
  simp only [abandonAuthorization]
  simp

@[simp] theorem shell_loseHolding (s : State) : (loseHolding s).shell = s.shell := by
  simp only [loseHolding]
  (repeat' split) <;> simp

@[simp] theorem shell_endWaiting (s : State) : (endWaiting s).shell = s.shell := by
  simp only [endWaiting]
  simp

@[simp] theorem shell_linkLoss (new : TerminalState) (s : State) : (linkLoss new s).shell = s.shell := by
  simp only [linkLoss]
  simp

@[simp] theorem shell_endSettlement (o : OrderId) (how : SettleStatus) (s : State) : (endSettlement o how s).shell = s.shell := by
  simp only [endSettlement]
  simp

@[simp] theorem shell_voidAttemptFailed (h : Holder) (s : State) : (voidAttemptFailed h s).shell = s.shell := by
  simp only [voidAttemptFailed]
  (repeat' split) <;> simp

@[simp] theorem shell_terminalStray (s : State) : (terminalStray s).shell = s.shell := by
  simp only [terminalStray]
  simp

@[simp] theorem shell_terminalHeard (s : State) : (terminalHeard s).shell = s.shell := by
  simp only [terminalHeard]
  (repeat' split) <;> simp

@[simp] theorem shell_syncRead (b : BayId) (s : State) : (syncRead b s).shell = s.shell := by
  simp only [syncRead]
  (repeat' split) <;> simp

@[simp] theorem shell_recordRead (b : BayId) (n : SlotId) (st : Status) (s : State) : (recordRead b n st s).shell = s.shell := by
  simp only [recordRead]
  (repeat' split) <;> simp

@[simp] theorem shell_activateNext (b : BayId) (s : State) : (activateNext b s).shell = s.shell := by
  simp only [activateNext]
  (repeat' split) <;> simp

@[simp] theorem shell_queueMovesOn (b : BayId) (s : State) : (queueMovesOn b s).shell = s.shell := by
  simp only [queueMovesOn]
  (repeat' split) <;> simp

@[simp] theorem shell_finishRead (b : BayId) (r : Read) (st : Status) (s : State) : (finishRead b r st s).shell = s.shell := by
  simp only [finishRead]
  simp

@[simp] theorem shell_finishEnded (b : BayId) (s : State) : (finishEnded b s).shell = s.shell := by
  simp only [finishEnded]
  (repeat' split) <;> simp

@[simp] theorem shell_startWait (b : BayId) (s : State) : (startWait b s).shell = s.shell := by
  simp only [startWait]
  simp

@[simp] theorem shell_requestWrite (b : BayId) (s : State) : (requestWrite b s).shell = s.shell := by
  simp only [requestWrite]
  (repeat' split) <;> simp

@[simp] theorem shell_restartClock (b : BayId) (s : State) : (restartClock b s).shell = s.shell := by
  simp only [restartClock]
  simp

@[simp] theorem shell_restartRun (b : BayId) (s : State) : (restartRun b s).shell = s.shell := by
  simp only [restartRun]
  (repeat' split) <;> simp

@[simp] theorem shell_bayAdvance (b : BayId) (s : State) : (bayAdvance b s).shell = s.shell := by
  simp only [bayAdvance]
  (repeat' split) <;> simp

@[simp] theorem shell_windDown (b : BayId) (cause : EndCause) (s : State) : (windDown b cause s).shell = s.shell := by
  simp only [windDown]
  (repeat' split) <;> simp

@[simp] theorem shell_endAtBoundary (b : BayId) (cause : EndCause) (s : State) : (endAtBoundary b cause s).shell = s.shell := by
  simp only [endAtBoundary]
  (repeat' split) <;> simp

@[simp] theorem shell_endAtOnce (b : BayId) (cause : EndCause) (s : State) : (endAtOnce b cause s).shell = s.shell := by
  simp only [endAtOnce]
  (repeat' split) <;> simp

@[simp] theorem shell_endWaitingRead (b : BayId) (cause : EndCause) (r : Read) (s : State) : (endWaitingRead b cause r s).shell = s.shell := by
  simp only [endWaitingRead]
  simp

@[simp] theorem shell_endWaitingReads (b : BayId) (cause : EndCause) (s : State) : (endWaitingReads b cause s).shell = s.shell := by
  simp only [endWaitingReads]
  simp

@[simp] theorem shell_closeReads (b : BayId) (s : State) : (closeReads b s).shell = s.shell := by
  simp only [closeReads]
  simp

@[simp] theorem shell_acceptBlock (b : BayId) (r : Read) (data : List Byte) (s : State) : (acceptBlock b r data s).shell = s.shell := by
  simp only [acceptBlock]
  (repeat' split) <;> simp

@[simp] theorem shell_countRetry (b : BayId) (s : State) : (countRetry b s).shell = s.shell := by
  simp only [countRetry]
  simp

@[simp] theorem shell_blockFailed (b : BayId) (r : Read) (s : State) : (blockFailed b r s).shell = s.shell := by
  simp only [blockFailed]
  (repeat' split) <;> simp

@[simp] theorem shell_blockEnd (b : BayId) (r : Read) (good : Option (List Byte)) (s : State) : (blockEnd b r good s).shell = s.shell := by
  simp only [blockEnd]
  (repeat' split) <;> simp

@[simp] theorem shell_halfWritten (b : BayId) (h : Fin 2) (blocks : Nat) (s : State) : (halfWritten b h blocks s).shell = s.shell := by
  simp only [halfWritten]
  (repeat' split) <;> simp

@[simp] theorem shell_halfFailed (b : BayId) (h : Fin 2) (s : State) : (halfFailed b h s).shell = s.shell := by
  simp only [halfFailed]
  simp

@[simp] theorem shell_giveBackBuffer (b : BayId) (r : Read) (s : State) : (giveBackBuffer b r s).shell = s.shell := by
  simp only [giveBackBuffer]
  simp

@[simp] theorem shell_startSettling (b : BayId) (s : State) : (startSettling b s).shell = s.shell := by
  simp only [startSettling]
  simp

@[simp] theorem shell_removeCard (b : BayId) (s : State) : (removeCard b s).shell = s.shell := by
  simp only [removeCard]
  (repeat' split) <;> simp

@[simp] theorem shell_sendIdentify (b : BayId) (s : State) : (sendIdentify b s).shell = s.shell := by
  simp only [sendIdentify]
  simp

@[simp] theorem shell_identifyFailed (b : BayId) (s : State) : (identifyFailed b s).shell = s.shell := by
  simp only [identifyFailed]
  (repeat' split) <;> simp

@[simp] theorem shell_endLoad (l : Load) (outcome : LoadOutcome) (st : Status) (failure : Option (Nat × Violation)) (body : Body) (s : State) : (endLoad l outcome st failure body s).shell = s.shell := by
  simp only [endLoad]
  simp

@[simp] theorem shell_faultLoad (l : Load) (s : State) : (faultLoad l s).shell = s.shell := by
  simp only [faultLoad]
  simp

@[simp] theorem shell_installTable (t : PriceTable) (s : State) : (installTable t s).shell = s.shell := by
  simp only [installTable]
  simp

@[simp] theorem shell_judgeImage (l : Load) (image : List Byte) (s : State) : (judgeImage l image s).shell = s.shell := by
  simp only [judgeImage]
  (repeat' split) <;> simp

@[simp] theorem shell_imageArrived (image : List Byte) (s : State) : (imageArrived image s).shell = s.shell := by
  simp only [imageArrived]
  (repeat' split) <;> simp

@[simp] theorem shell_imageFailed (s : State) : (imageFailed s).shell = s.shell := by
  simp only [imageFailed]
  (repeat' split) <;> simp

@[simp] theorem shell_cancelLoad (l : Load) (s : State) : (cancelLoad l s).shell = s.shell := by
  simp only [cancelLoad]
  (repeat' split) <;> simp

@[simp] theorem shell_grantNote (t : Transfer) (s : State) : (grantNote t s).shell = s.shell := by
  simp only [grantNote]
  (repeat' split) <;> simp

@[simp] theorem shell_sendTransfer (t : Transfer) (s : State) : (sendTransfer t s).shell = s.shell := by
  simp only [sendTransfer]
  (repeat' split) <;> simp

@[simp] theorem shell_grantTo (i : Fin 7) (s : State) : (grantTo i s).shell = s.shell := by
  simp only [grantTo]
  (repeat' split) <;> simp

@[simp] theorem shell_grantOne (s : State) : (grantOne s).shell = s.shell := by
  simp only [grantOne]
  (repeat' split) <;> simp

@[simp] theorem shell_grantLoop (s : State) : (grantLoop s).shell = s.shell := by
  simp only [grantLoop]
  simp

@[simp] theorem shell_tellOne (t : Transfer) (o : TransferOutcome) (s : State) : (tellOne t o s).shell = s.shell := by
  simp only [tellOne]
  (repeat' split) <;> simp

@[simp] theorem shell_tellRequester (r : Requester) (s : State) : (tellRequester r s).shell = s.shell := by
  simp only [tellRequester]
  simp

@[simp] theorem shell_abortMarked (p : PrinterId) (o : OrderId) (marked : List Nat) (s : State) : (abortMarked p o marked s).shell = s.shell := by
  simp only [abortMarked]
  (repeat' split) <;> simp

@[simp] theorem shell_dropNote (o : OrderId) (marked : List Nat) (s : State) : (dropNote o marked s).shell = s.shell := by
  simp only [dropNote]
  simp

@[simp] theorem shell_markEffect (x : OrderId × List Nat) (s : State) : (markEffect x s).shell = s.shell := by
  simp only [markEffect]
  (repeat' split) <;> simp

@[simp] theorem shell_killRasters (a : ApertureId) (s : State) : (killRasters a s).shell = s.shell := by
  simp only [killRasters]
  simp

@[simp] theorem shell_killReads (a : ApertureId) (b : BayId) (s : State) : (killReads a b s).shell = s.shell := by
  simp only [killReads]
  (repeat' split) <;> simp

@[simp] theorem shell_killLoad (a : ApertureId) (s : State) : (killLoad a s).shell = s.shell := by
  simp only [killLoad]
  (repeat' split) <;> simp

@[simp] theorem shell_withdrawUnder (a : ApertureId) (s : State) : (withdrawUnder a s).shell = s.shell := by
  simp only [withdrawUnder]
  simp

@[simp] theorem shell_killAll (a : ApertureId) (s : State) : (killAll a s).shell = s.shell := by
  simp only [killAll]
  simp

@[simp] theorem shell_faultAperture (t : Transfer) (cause : FaultCause) (s : State) : (faultAperture t cause s).shell = s.shell := by
  unfold faultAperture
  split
  · rename_i h
    simp only [shell_killAll, shell_withdrawUnder]
    exact shell_onAperture _ _ _ (by simp [Aperture.shell, h])
  · rfl

@[simp] theorem shell_endTransfer (index : Nat) (outcome : TransferOutcome) (s : State) : (endTransfer index outcome s).shell = s.shell := by
  simp only [endTransfer]
  (repeat' split) <;> simp

@[simp] theorem shell_noteChanges (before s : State) : (noteChanges before s).shell = s.shell := by
  simp only [noteChanges]
  simp

@[simp] theorem shell_releaseBoth (s : State) : (releaseBoth s).shell = s.shell := by
  simp only [releaseBoth]
  simp

@[simp] theorem shell_settle (before s : State) : (settle before s).shell = s.shell := by
  simp only [settle]
  (repeat' split) <;> simp

@[simp] theorem shell_cancelForClose (o : OrderId) (s : State) : (cancelForClose o s).shell = s.shell := by
  simp only [cancelForClose]
  (repeat' split) <;> simp

@[simp] theorem shell_closeEntry (k : SessionId) (i : StationId) (s : State) : (closeEntry k i s).shell = s.shell := by
  simp only [closeEntry]
  (repeat' split) <;> simp

@[simp] theorem shell_closeSession (i : StationId) (k : SessionId) (cause : CloseCause) (s : State) : (closeSession i k cause s).shell = s.shell := by
  simp only [closeSession]
  simp

@[simp] theorem shell_refuseSlot (n : SlotId) (st : Status) (s : State) : (refuseSlot n st s).shell = s.shell := by
  simp only [refuseSlot]
  simp

@[simp] theorem shell_refuseState (o : OrderId) (n : SlotId) (s : State) : (refuseState o n s).shell = s.shell := by
  simp only [refuseState]
  simp

@[simp] theorem shell_abortExchange (h : Holder) (s : State) : (abortExchange h s).shell = s.shell := by
  simp only [abortExchange]
  simp

@[simp] theorem shell_cancelPay (n : SlotId) (s : State) : (cancelPay n s).shell = s.shell := by
  simp only [cancelPay]
  (repeat' split) <;> simp

@[simp] theorem shell_cancelRead (n : SlotId) (b : BayId) (s : State) : (cancelRead n b s).shell = s.shell := by
  simp only [cancelRead]
  (repeat' split) <;> simp

@[simp] theorem shell_cancelPriceLoad (n : SlotId) (s : State) : (cancelPriceLoad n s).shell = s.shell := by
  simp only [cancelPriceLoad]
  (repeat' split) <;> simp

@[simp] theorem shell_cancelTaken (n : SlotId) (s : State) : (cancelTaken n s).shell = s.shell := by
  simp only [cancelTaken]
  simp

@[simp] theorem shell_openSessionWork (i : StationId) (n : SlotId) (s : State) : (openSessionWork i n s).shell = s.shell := by
  simp only [openSessionWork]
  (repeat' split) <;> simp

@[simp] theorem shell_closeSessionWork (i : StationId) (n : SlotId) (s : State) : (closeSessionWork i n s).shell = s.shell := by
  simp only [closeSessionWork]
  (repeat' split) <;> simp

@[simp] theorem shell_idleExpires (k : SessionId) (s : State) : (idleExpires k s).shell = s.shell := by
  simp only [idleExpires]
  (repeat' split) <;> simp

@[simp] theorem shell_applyEdit (o : OrderId) (f : Order → Order) (s : State) : (applyEdit o f s).shell = s.shell := by
  simp only [applyEdit]
  (repeat' split) <;> simp

@[simp] theorem shell_addItemWork (o : OrderId) (n : SlotId) (s : State) : (addItemWork o n s).shell = s.shell := by
  simp only [addItemWork]
  (repeat' split) <;> simp

@[simp] theorem shell_changeItemWork (o : OrderId) (n : SlotId) (s : State) : (changeItemWork o n s).shell = s.shell := by
  simp only [changeItemWork]
  (repeat' split) <;> simp

@[simp] theorem shell_removeItemWork (o : OrderId) (n : SlotId) (s : State) : (removeItemWork o n s).shell = s.shell := by
  simp only [removeItemWork]
  (repeat' split) <;> simp

@[simp] theorem shell_setPromoWork (o : OrderId) (n : SlotId) (s : State) : (setPromoWork o n s).shell = s.shell := by
  simp only [setPromoWork]
  (repeat' split) <;> simp

@[simp] theorem shell_priceOrder (o : OrderId) (prices : FixedPrices) (p : PrinterId) (s : State) : (priceOrder o prices p s).shell = s.shell := by
  simp only [priceOrder]
  simp

@[simp] theorem shell_quoteWork (o : OrderId) (n : SlotId) (s : State) : (quoteWork o n s).shell = s.shell := by
  simp only [quoteWork]
  (repeat' split) <;> simp

@[simp] theorem shell_payNothing (o : OrderId) (s : State) : (payNothing o s).shell = s.shell := by
  simp only [payNothing]
  (repeat' split) <;> simp

@[simp] theorem shell_acceptPay (o : OrderId) (n : SlotId) (s : State) : (acceptPay o n s).shell = s.shell := by
  simp only [acceptPay]
  simp

@[simp] theorem shell_payWork (o : OrderId) (n : SlotId) (s : State) : (payWork o n s).shell = s.shell := by
  simp only [payWork]
  (repeat' split) <;> simp

theorem shell_cancelOrder (o : OrderId) (s t : State) (h : cancelOrder o s = some t) : t.shell = s.shell := by
  unfold cancelOrder at h
  split at h <;> simp only [Option.some.injEq, reduceCtorEq] at h <;> subst h <;> simp

@[simp] theorem shell_cancelOrderWork (o : OrderId) (n : SlotId) (s : State) : (cancelOrderWork o n s).shell = s.shell := by
  unfold cancelOrderWork
  split
  · simp
  · rename_i t h
    simp [shell_cancelOrder o s t h]

@[simp] theorem shell_retireOrderWork (o : OrderId) (n : SlotId) (s : State) : (retireOrderWork o n s).shell = s.shell := by
  simp only [retireOrderWork]
  (repeat' split) <;> simp

@[simp] theorem shell_acceptRead (i : StationId) (r : Read) (s : State) : (acceptRead i r s).shell = s.shell := by
  simp only [acceptRead]
  (repeat' split) <;> simp

@[simp] theorem shell_readCardWork (i : StationId) (n : SlotId) (s : State) : (readCardWork i n s).shell = s.shell := by
  simp only [readCardWork]
  (repeat' split) <;> simp

@[simp] theorem shell_readCardTaken (n : SlotId) (s : State) : (readCardTaken n s).shell = s.shell := by
  unfold readCardTaken withStation
  split
  · simp
  · split <;> simp

@[simp] theorem shell_closeContact (b : BayId) (s : State) : (closeContact b s).shell = s.shell := by
  simp only [closeContact]
  (repeat' split) <;> simp

@[simp] theorem shell_openContact (b : BayId) (s : State) : (openContact b s).shell = s.shell := by
  simp only [openContact]
  (repeat' split) <;> simp

@[simp] theorem shell_acceptArrival (b : BayId) (s : State) : (acceptArrival b s).shell = s.shell := by
  simp only [acceptArrival]
  simp

@[simp] theorem shell_identityAnswer (b : BayId) (capacity serial : W32) (check : W16) (s : State) : (identityAnswer b capacity serial check s).shell = s.shell := by
  simp only [identityAnswer]
  (repeat' split) <;> simp

@[simp] theorem shell_endBlock (b : BayId) (good : Option (List Byte)) (s : State) : (endBlock b good s).shell = s.shell := by
  simp only [endBlock]
  (repeat' split) <;> simp

@[simp] theorem shell_waitTooLong (b : BayId) (s : State) : (waitTooLong b s).shell = s.shell := by
  simp only [waitTooLong]
  (repeat' split) <;> simp

@[simp] theorem shell_stallRead (b : BayId) (s : State) : (stallRead b s).shell = s.shell := by
  simp only [stallRead]
  simp

@[simp] theorem shell_acceptLoad (n : SlotId) (tag : W32) (address : Nat) (a : ApertureId) (s : State) : (acceptLoad n tag address a s).shell = s.shell := by
  simp only [acceptLoad]
  simp

@[simp] theorem shell_loadPricesWork (n : SlotId) (s : State) : (loadPricesWork n s).shell = s.shell := by
  simp only [loadPricesWork]
  (repeat' split) <;> simp

@[simp] theorem shell_shiftCloseWork (n : SlotId) (s : State) : (shiftCloseWork n s).shell = s.shell := by
  simp only [shiftCloseWork]
  simp

@[simp] theorem shell_resetBay (b : BayId) (s : State) : (resetBay b s).shell = s.shell := by
  simp only [resetBay]
  (repeat' split) <;> simp

@[simp] theorem shell_resetPrinter (p : PrinterId) (s : State) : (resetPrinter p s).shell = s.shell := by
  simp only [resetPrinter]
  simp

@[simp] theorem shell_resetTerminal (s : State) : (resetTerminal s).shell = s.shell := by
  simp only [resetTerminal]
  simp

@[simp] theorem shell_resetUnitWork (n : SlotId) (s : State) : (resetUnitWork n s).shell = s.shell := by
  simp only [resetUnitWork]
  (repeat' split) <;> simp

@[simp] theorem shell_enterWork (p : PrinterId) (n : SlotId) (s : State) : (enterWork p n s).shell = s.shell := by
  simp only [enterWork]
  (repeat' split) <;> simp

@[simp] theorem shell_leaveWork (p : PrinterId) (n : SlotId) (s : State) : (leaveWork p n s).shell = s.shell := by
  simp only [leaveWork]
  (repeat' split) <;> simp

@[simp] theorem shell_printerServiceWork (n : SlotId) (s : State) : (printerServiceWork n s).shell = s.shell := by
  simp only [printerServiceWork]
  (repeat' split) <;> simp

@[simp] theorem shell_graceExpires (p : PrinterId) (s : State) : (graceExpires p s).shell = s.shell := by
  simp only [graceExpires]
  simp

@[simp] theorem shell_transferReported (index : Nat) (report : TransferReport) (s : State) : (transferReported index report s).shell = s.shell := by
  simp only [transferReported]
  (repeat' split) <;> simp

@[simp] theorem shell_transferLate (index : Nat) (s : State) : (transferLate index s).shell = s.shell := by
  simp only [transferLate]
  (repeat' split) <;> simp

@[simp] theorem shell_statusCompletion (p : PrinterId) (f : StatusFrame) (s : State) : (statusCompletion p f s).shell = s.shell := by
  simp only [statusCompletion]
  (repeat' split) <;> simp

@[simp] theorem shell_faultCopy (p : PrinterId) (f : StatusFrame) (s : State) : (faultCopy p f s).shell = s.shell := by
  simp only [faultCopy]
  (repeat' split) <;> simp

@[simp] theorem shell_statusState (inService : Bool) (p : PrinterId) (f : StatusFrame) (s : State) : (statusState inService p f s).shell = s.shell := by
  simp only [statusState]
  simp

@[simp] theorem shell_statusArrived (p : PrinterId) (f : StatusFrame) (s : State) : (statusArrived p f s).shell = s.shell := by
  simp only [statusArrived]
  simp

@[simp] theorem shell_holdCopy (p : PrinterId) (s : State) : (holdCopy p s).shell = s.shell := by
  simp only [holdCopy]
  (repeat' split) <;> simp

@[simp] theorem shell_resumeCopy (p : PrinterId) (s : State) : (resumeCopy p s).shell = s.shell := by
  simp only [resumeCopy]
  (repeat' split) <;> simp

@[simp] theorem shell_copyDone (p : PrinterId) (id : W16) (result consumed : Byte) (s : State) : (copyDone p id result consumed s).shell = s.shell := by
  simp only [copyDone]
  (repeat' split) <;> simp

@[simp] theorem shell_linkSilent (p : PrinterId) (s : State) : (linkSilent p s).shell = s.shell := by
  simp only [linkSilent]
  simp

@[simp] theorem shell_linkLost (p : PrinterId) (s : State) : (linkLost p s).shell = s.shell := by
  simp only [linkLost]
  (repeat' split) <;> simp

@[simp] theorem shell_beginUnanswered (p : PrinterId) (c : Copy) (w : BeginWait) (s : State) : (beginUnanswered p c w s).shell = s.shell := by
  simp only [beginUnanswered]
  (repeat' split) <;> simp

@[simp] theorem shell_underrun (p : PrinterId) (n : Nat) (s : State) : (underrun p n s).shell = s.shell := by
  simp only [underrun]
  simp

@[simp] theorem shell_terminalBack (s : State) : (terminalBack s).shell = s.shell := by
  simp only [terminalBack]
  simp

@[simp] theorem shell_readyMeetsHolder (h : Holder) (s : State) : (readyMeetsHolder h s).shell = s.shell := by
  simp only [readyMeetsHolder]
  (repeat' split) <;> simp

@[simp] theorem shell_readyArrived (s : State) : (readyArrived s).shell = s.shell := by
  simp only [readyArrived]
  (repeat' split) <;> simp

theorem shell_exchangeFrame (ref : W16) (answer : Holder → State → Option State)
    (h : ∀ x t u, answer x t = some u → u.shell = t.shell) (s : State) : (exchangeFrame ref answer s).shell = s.shell := by
  unfold exchangeFrame
  simp only []
  split
  · rename_i x _
    cases e : answer x (terminalHeard s) with
    | none => simp
    | some u => simp [h _ _ _ e]
  · simp

@[simp] theorem shell_countLate (ref : W16) (s : State) : (countLate ref s).shell = s.shell := by
  simp only [countLate]
  (repeat' split) <;> simp

theorem shell_capturedAnswer (amount : Nat) (h : Holder) (s t : State) (e : capturedAnswer amount h s = some t) : t.shell = s.shell := by
  unfold capturedAnswer at e
  (repeat' split at e) <;> simp only [Option.some.injEq, reduceCtorEq] at e
  subst e
  simp

@[simp] theorem shell_capturedArrived (ref : W16) (amount : Nat) (s : State) : (capturedArrived ref amount s).shell = s.shell := by
  simp only [capturedArrived]
  split
  · rename_i u e
    obtain ⟨h, -, e⟩ := Option.bind_eq_some_iff.1 e
    simp [shell_capturedAnswer _ _ _ _ e]
  · simp

@[simp] theorem shell_terminalSilent (s : State) : (terminalSilent s).shell = s.shell := by
  simp only [terminalSilent]
  simp

@[simp] theorem shell_cardWaitExpires (h : Holder) (s : State) : (cardWaitExpires h s).shell = s.shell := by
  simp only [cardWaitExpires]
  (repeat' split) <;> simp

@[simp] theorem shell_authorizationTimesOut (h : Holder) (n : SlotId) (o : OrderId) (s : State) : (authorizationTimesOut h n o s).shell = s.shell := by
  simp only [authorizationTimesOut]
  simp

@[simp] theorem shell_authorizationExpires (h : Holder) (s : State) : (authorizationExpires h s).shell = s.shell := by
  simp only [authorizationExpires]
  (repeat' split) <;> simp

@[simp] theorem shell_abortUnanswered (h : Holder) (s : State) : (abortUnanswered h s).shell = s.shell := by
  simp only [abortUnanswered]
  (repeat' split) <;> simp

@[simp] theorem shell_settlementUnanswered (h : Holder) (o : OrderId) (s : State) : (settlementUnanswered h o s).shell = s.shell := by
  simp only [settlementUnanswered]
  (repeat' split) <;> simp

@[simp] theorem shell_answerLate (h : Holder) (s : State) : (answerLate h s).shell = s.shell := by
  simp only [answerLate]
  (repeat' split) <;> simp

@[simp] theorem shell_handOverHolder (s : State) : (handOverHolder s).shell = s.shell := by
  simp only [handOverHolder]
  (repeat' split) <;> simp

@[simp] theorem shell_handOverOrder (o : OrderId) (s : State) : (handOverOrder o s).shell = s.shell := by
  simp only [handOverOrder]
  (repeat' split) <;> simp

@[simp] theorem shell_handOver (s : State) : (handOver s).shell = s.shell := by
  simp only [handOver]
  simp

@[simp] theorem shell_readContact (b : BayId) (s : State) : (readContact b s).shell = s.shell := by
  simp only [readContact]
  (repeat' split) <;> simp

end Sys2Proof.Machine
end

