-- ==== Sys2Proof/Laws/Event.lean ====
section
/-! SUPPORT. What the frame of an event adds: change bits and the interrupt message (R173, R175), the settling, the taking of the request
at the head of the intake list (R170), and the completion of a slot (R171). -/

namespace Sys2Proof.Machine

/-! ## The end of an event -/

theorem sendMessage_cases (s : State) : sendMessage s = s ∨ sendMessage s = s.emit .interruptMessage := by
  unfold sendMessage
  split
  · exact Or.inr rfl
  · exact Or.inl rfl

theorem interruptOnEdge_cases (b s : State) : interruptOnEdge b s = s ∨ interruptOnEdge b s = s.emit .interruptMessage := by
  unfold interruptOnEdge
  split
  · exact sendMessage_cases s
  · exact Or.inl rfl

theorem interruptAfterWrite_cases (s : State) : interruptAfterWrite s = s ∨ interruptAfterWrite s = s.emit .interruptMessage := by
  unfold interruptAfterWrite
  split
  · exact sendMessage_cases s
  · exact Or.inl rfl

/-- The end of an event adds change bits and perhaps the interrupt message, and nothing else. -/
theorem marked_closeEvent (b u : State) : Marked u (closeEvent b u) := by
  unfold closeEvent
  obtain h | h := interruptOnEdge_cases b (markChanges b u) <;> rw [h]
  · exact ⟨rfl, and_or_self _ _, and_or_self _ _, Or.inl rfl⟩
  · exact ⟨rfl, and_or_self _ _, and_or_self _ _, Or.inr rfl⟩

/-- An event that settles at its end. -/
theorem settled_closeEvent (b c u : State) : Settled u (closeEvent b (settle c u)) := by
  refine (Moves.settle c u).trans ?_
  unfold closeEvent
  refine (Moves.markChanges b _).trans ?_
  obtain k | k := interruptOnEdge_cases b (markChanges b (settle c u)) <;> rw [k]
  · exact Moves.refl _
  · exact Moves.emit _ _

theorem event_endsAs (f : State → State) (s : State) (h : s.part = .run) : EndsAs (event f s) (f s.quiet) :=
  ⟨closeEvent s.quiet (f s.quiet), by simp [event, h], marked_closeEvent _ _⟩

theorem event_settlesAs (f : State → State) (s u b : State) (h : s.part = .run) (e : f s.quiet = settle b u) : SettlesAs (event f s) u :=
  ⟨closeEvent s.quiet (settle b u), by simp [event, h, e], settled_closeEvent _ _ _⟩

theorem settlingEvent_settlesAs (f : State → State) (s : State) (h : s.part = .run) : SettlesAs (settlingEvent f s) (f s.quiet) :=
  event_settlesAs _ s _ s.quiet h rfl

theorem hostEvent_endsAs (f : State → State) (s : State) (h : s.part = .run) (k : s.pcieUp = true) : EndsAs (hostEvent f s) (f s.quiet) :=
  ⟨closeEvent s.quiet (f s.quiet), by simp [hostEvent, h, k], marked_closeEvent _ _⟩

theorem hostEvent_settlesAs (f : State → State) (s u b : State) (h : s.part = .run) (k : s.pcieUp = true) (e : f s.quiet = settle b u) :
    SettlesAs (hostEvent f s) u :=
  ⟨closeEvent s.quiet (settle b u), by simp [hostEvent, h, k, e], settled_closeEvent _ _ _⟩

/-- A host write to a control word. -/
theorem controlWrite_next (f : State → State) (s : State) (h : s.part = .run) (k : s.pcieUp = true) :
    controlWrite f s = .next (interruptAfterWrite (f s.quiet)) := by simp [controlWrite, h, k]

/-- Every event completes, and what it keeps of the state its work keeps. -/
theorem event_keeps {α : Type} (view : State → α) (f : State → State) (s t : State) (hf : view (f s.quiet) = view s.quiet)
    (hc : ∀ b u, view (closeEvent b u) = view u) (hq : view s.quiet = view s) (h : event f s = .next t) : view t = view s := by
  unfold event at h
  injection h with h
  subst h
  split
  · rw [hc, hf, hq]
  · exact hq

theorem event_shell (f : State → State) (s t : State) (hf : ∀ u, (f u).shell = u.shell) (h : event f s = .next t) : t.shell = s.shell :=
  event_keeps State.shell f s t (hf _) shell_closeEvent rfl h

theorem hostEvent_shell (f : State → State) (s t : State) (hf : ∀ u, (f u).shell = u.shell) (h : hostEvent f s = .next t) :
    t.shell = s.shell := by
  unfold hostEvent at h
  injection h with h
  subst h
  split
  · rw [shell_closeEvent, hf, shell_quiet]
  · rfl

/-! ## An event that changes nothing -/

theorem bitsOf_false : ∀ n : Nat, bitsOf n (fun _ => false) = 0#n := by
  intro n
  induction n with
  | zero => rfl
  | succ n ih =>
    ext i hi
    simp [bitsOf, ih]

/-- R173: no record differs from itself. -/
theorem markChanges_self (s : State) : markChanges s s = s := by
  have hu : unitDiff s s = 0 := by
    refine Eq.trans ?_ (bitsOf_false 12)
    unfold unitDiff
    congr 1
    funext n
    split <;> simp
  have ho : orderDiff s s = 0 := by
    refine Eq.trans ?_ (bitsOf_false 32)
    unfold orderDiff
    congr 1
    funext n
    split <;> simp
  unfold markChanges
  rw [hu, ho]
  simp

theorem closeEvent_self (s : State) : closeEvent s s = s := by
  unfold closeEvent interruptOnEdge
  rw [markChanges_self]
  cases attnPending s <;> simp

theorem event_none (f : State → State) (s : State) (h : s.part = .run → f s.quiet = s.quiet) : event f s = .next s.quiet := by
  unfold event
  split
  · rename_i k
    rw [h k, closeEvent_self]
  · rfl

theorem hostEvent_none (f : State → State) (s : State) (h : f s.quiet = s.quiet) : hostEvent f s = .next s.quiet := by
  unfold hostEvent
  rw [h, closeEvent_self]
  split <;> rfl

/-! ## Takings -/

/-- The taking of a request that heads the intake list and passes the first two checks. -/
theorem taking_of_heads {s : State} {k : Kind} {n : SlotId} {rest : List SlotId} (h : Heads s k n rest) (work : SlotId → State → State) :
    taking k work s.quiet = work n (takeSlot n rest s.quiet) := by
  obtain ⟨-, hi, hk, hf, hp⟩ := h
  have req : ∀ c : Slot, formatGood k { c with state := .taken, tagEcho := hostTag c } = formatGood k c := fun c => by cases k <;> rfl
  have hf' : formatGood k ((takeSlot n rest s.quiet).slot n) = true := by
    rw [← hf]
    show formatGood k ((s.quiet.onSlot n _).slot n) = _
    rw [slot_onSlot_same, req]
    rfl
  unfold taking
  rw [show s.quiet.intake = n :: rest from hi]
  simp only [show s.quiet.slot n = s.slot n from rfl, hk, if_true]
  unfold dispatch
  rw [hf']
  by_cases c : k.service = true
  · simp [c, hp c]
  · simp [c]

/-- The slot of a request just taken. -/
theorem slot_takeSlot (n : SlotId) (rest : List SlotId) (s : State) :
    (takeSlot n rest s).slot n = { s.slot n with state := .taken, tagEcho := hostTag (s.slot n) } := slot_onSlot_same _ _ _

/-- A taking of a kind that names an order, once the handle is found current. -/
theorem withOrder_of_names {s : State} {n : SlotId} {o : OrderId} (rest : List SlotId) (h : Names s n o)
    (work : OrderId → SlotId → State → State) :
    withOrder work n (takeSlot n rest s.quiet) = work o n (restartForOrder o (takeSlot n rest s.quiet)) := by
  obtain ⟨x, hx, hc, rfl⟩ := h
  unfold withOrder
  rw [slot_takeSlot]
  rw [show handleField { s.quiet.slot n with state := .taken, tagEcho := hostTag (s.quiet.slot n) } = some x from hx]
  simp only
  rw [if_pos]
  exact hc

/-- A taking of a kind that carries a station in its header. -/
theorem withStation_of_station {s : State} {n : SlotId} {i : StationId} (rest : List SlotId) (h : stationField (s.slot n) = i.val)
    (work : StationId → SlotId → State → State) :
    withStation work n (takeSlot n rest s.quiet) = work i n (restartForStation i (takeSlot n rest s.quiet)) := by
  have e : stationField ((takeSlot n rest s.quiet).slot n) = i.val := by rw [slot_takeSlot]; exact h
  have e' : (⟨stationField ((takeSlot n rest s.quiet).slot n), by rw [e]; exact i.isLt⟩ : StationId) = i := Fin.ext e
  unfold withStation
  rw [dif_pos (by rw [e]; exact i.isLt), e']

/-- R171: what a completion does to a TAKEN slot. -/
theorem complete_of_taken (n : SlotId) (st : Status) (why : Reason) (body : Body) (s : State) (h : (s.slot n).state = .taken) :
    complete n st why body s =
      { (s.onSlot n fun c => { c with state := .done, status := st, reason := why, completedAt := s.clock, body := body }) with
        attnDone := true } := by
  unfold complete
  rw [if_pos h]

/-- A completion reaches only a TAKEN slot. -/
theorem complete_of_not_taken (n : SlotId) (st : Status) (why : Reason) (body : Body) (s : State) (h : (s.slot n).state ≠ .taken) :
    complete n st why body s = s := by
  unfold complete
  rw [if_neg h]

theorem upd_upd {α : Type} {n : Nat} (t : Vector α n) (i : Fin n) (f g : α → α) : upd (upd t i f) i g = upd t i fun a => g (f a) := by
  apply table_ext
  intro j
  by_cases e : i = j
  · subst e; simp
  · simp [e]

theorem upd_congr {α : Type} {n : Nat} (t : Vector α n) (i : Fin n) (f g : α → α) (h : f (look t i) = g (look t i)) : upd t i f = upd t i g := by
  unfold upd
  rw [show f t[i.val] = g t[i.val] from h]

/-- Two changes of a slot that agree on its present contents. -/
theorem onSlot_congr (s : State) (n : SlotId) (f g : Slot → Slot) (h : f (s.slot n) = g (s.slot n)) : s.onSlot n f = s.onSlot n g := by
  unfold State.onSlot
  rw [upd_congr _ _ _ _ h]

/-- R170: a taking that ends at once, with nothing changed besides. -/
theorem complete_takeSlot (n : SlotId) (rest : List SlotId) (st : Status) (why : Reason) (body : Body) (s : State) :
    complete n st why body (takeSlot n rest s) = answered n rest st why body s := by
  rw [complete_of_taken _ _ _ _ _ (by rw [slot_takeSlot])]
  simp only [takeSlot, answered, State.onSlot, upd_upd]

theorem endsAs_congr {r : Result} {u v : State} (h : EndsAs r u) (e : u = v) : EndsAs r v := e ▸ h

theorem settlesAs_congr {r : Result} {u v : State} (h : SettlesAs r u) (e : u = v) : SettlesAs r v := e ▸ h

end Sys2Proof.Machine
end

