-- ==== Sys2Proof/Laws/Commands.lean ====
section
/-! SUPPORT. What each command does to the shell of State: the events of the blocks keep it whole; the takings change it by `takeSlot`, and
beside that only OPEN_ORDER, SET_APERTURE and SET_TIMERS change it. -/

namespace Sys2Proof.Machine

/-! ## Answers to terminal frames -/

theorem shell_cardWaited (h : Holder) (s u : State) (e : cardWaited h s = some u) : u.shell = s.shell := by
  unfold cardWaited at e
  split at e <;> simp only [Option.some.injEq, reduceCtorEq] at e
  subst e
  simp

theorem shell_approvedAnswer (amount : Nat) (code : List Byte) (h : Holder) (s u : State) (e : approvedAnswer amount code h s = some u) :
    u.shell = s.shell := by
  unfold approvedAnswer at e
  (repeat' split at e) <;> simp only [Option.some.injEq, reduceCtorEq] at e <;> subst e <;> simp

theorem shell_outcomeAnswer (outcome : Holder → PayOutcome) (reason : Holder → Option Byte) (h : Holder) (s u : State)
    (e : outcomeAnswer outcome reason h s = some u) : u.shell = s.shell := by
  unfold outcomeAnswer at e
  split at e <;> simp only [Option.some.injEq, reduceCtorEq] at e <;> subst e <;> simp

theorem shell_voidedAnswer (h : Holder) (s u : State) (e : voidedAnswer h s = some u) : u.shell = s.shell := by
  unfold voidedAnswer at e
  (repeat' split at e) <;> simp only [Option.some.injEq, reduceCtorEq] at e <;> subst e <;> simp

theorem shell_refusedAnswer (reason : Byte) (h : Holder) (s u : State) (e : refusedAnswer reason h s = some u) : u.shell = s.shell := by
  unfold refusedAnswer at e
  split at e
  · exact shell_outcomeAnswer _ _ _ _ _ e
  all_goals (try (simp only [Option.some.injEq, reduceCtorEq] at e))
  all_goals (subst e; (try split) <;> simp)

/-! ## Takings -/

/-- What the work of a kind keeps, its taking keeps from the state with the slot taken; with no such request nothing is taken. -/
theorem taking_keeps {α : Type} (view : State → α) (k : Kind) (work : SlotId → State → State) (h : ∀ n s, view (work n s) = view s)
    (hc : ∀ n st s, view (refuseSlot n st s) = view s) (s : State) :
    view (taking k work s) = view s ∨ ∃ n rest, s.intake = n :: rest ∧ view (taking k work s) = view (takeSlot n rest s) := by
  unfold taking
  split
  · exact Or.inl rfl
  · rename_i n rest e
    split
    · refine Or.inr ⟨n, rest, e, ?_⟩
      unfold dispatch
      split
      · rw [hc]
      · split
        · rw [hc]
        · rw [h]
    · exact Or.inl rfl

theorem withStation_keeps {α : Type} (view : State → α) (work : StationId → SlotId → State → State) (h : ∀ i n s, view (work i n s) = view s)
    (hc : ∀ n st s, view (refuseSlot n st s) = view s) (hr : ∀ i s, view (restartForStation i s) = view s) (n : SlotId) (s : State) :
    view (withStation work n s) = view s := by
  unfold withStation
  split
  · rw [h, hr]
  · exact hc _ _ _

theorem withOrder_keeps {α : Type} (view : State → α) (work : OrderId → SlotId → State → State) (h : ∀ o n s, view (work o n s) = view s)
    (hc : ∀ n st s, view (refuseSlot n st s) = view s) (hr : ∀ o s, view (restartForOrder o s) = view s) (n : SlotId) (s : State) :
    view (withOrder work n s) = view s := by
  unfold withOrder
  split
  · split
    · rw [h, hr]
    · exact hc _ _ _
  · exact hc _ _ _

theorem shell_withStation (work : StationId → SlotId → State → State) (h : ∀ i n s, (work i n s).shell = s.shell) (n : SlotId) (s : State) :
    (withStation work n s).shell = s.shell := withStation_keeps State.shell work h shell_refuseSlot shell_restartForStation n s

theorem shell_withOrder (work : OrderId → SlotId → State → State) (h : ∀ o n s, (work o n s).shell = s.shell) (n : SlotId) (s : State) :
    (withOrder work n s).shell = s.shell := withOrder_keeps State.shell work h shell_refuseSlot shell_restartForOrder n s

/-- A taking whose work keeps the shell changes it by the taking of the slot alone. -/
theorem taking_shell (k : Kind) (work : SlotId → State → State) (h : ∀ n s, (work n s).shell = s.shell) (s : State) :
    (taking k work s).shell = s.shell ∨ ∃ n rest, s.intake = n :: rest ∧ (taking k work s).shell = (takeSlot n rest s).shell :=
  taking_keeps State.shell k work h shell_refuseSlot s

/-! ## Events of the blocks -/

theorem settlingEvent_shell (f : State → State) (s t : State) (hf : ∀ u, (f u).shell = u.shell) (h : settlingEvent f s = .next t) :
    t.shell = s.shell := by
  unfold settlingEvent at h
  refine event_shell _ s t (fun u => ?_) h
  rw [shell_settle, hf]

theorem execIdleExpiry_shell (k : SessionId) (s t : State) (h : execIdleExpiry k s = .next t) : t.shell = s.shell := by
  unfold execIdleExpiry at h
  refine event_shell _ s t (fun u => ?_) h
  simp

theorem execPaymentNoticeExpiry_shell (i : StationId) (s t : State) (h : execPaymentNoticeExpiry i s = .next t) : t.shell = s.shell := by
  unfold execPaymentNoticeExpiry at h
  refine event_shell _ s t (fun u => ?_) h
  (repeat' split) <;> simp

theorem execMinimumOnTimeExpiry_shell (i : StationId) (s t : State) (h : execMinimumOnTimeExpiry i s = .next t) : t.shell = s.shell := by
  unfold execMinimumOnTimeExpiry at h
  refine event_shell _ s t (fun u => ?_) h
  (repeat' split) <;> simp

theorem execBlinkToggle_shell (i : StationId) (s t : State) (h : execBlinkToggle i s = .next t) : t.shell = s.shell := by
  unfold execBlinkToggle at h
  refine event_shell _ s t (fun u => ?_) h
  (repeat' split) <;> simp

theorem execQuoteHoldExpiry_shell (o : OrderId) (s t : State) (h : execQuoteHoldExpiry o s = .next t) : t.shell = s.shell := by
  unfold execQuoteHoldExpiry at h
  refine event_shell _ s t (fun u => ?_) h
  (repeat' split) <;> simp

theorem execFaultGraceExpiry_shell (p : PrinterId) (s t : State) (h : execFaultGraceExpiry p s = .next t) : t.shell = s.shell := by
  unfold execFaultGraceExpiry at h
  refine event_shell _ s t (fun u => ?_) h
  (repeat' split) <;> simp

theorem execStatus_shell (p : PrinterId) (f : StatusFrame) (s t : State) (h : execStatus p f s = .next t) : t.shell = s.shell := by
  unfold execStatus at h
  exact settlingEvent_shell _ s t (by simp) h

theorem execNextStripe_shell (p : PrinterId) (n : W16) (s t : State) (h : execNextStripe p n s = .next t) : t.shell = s.shell := by
  unfold execNextStripe at h
  exact settlingEvent_shell _ s t (fun _ => shell_goodFrame _ _ (shell_nextStripe _ _) _) h

theorem execHold_shell (p : PrinterId) (s t : State) (h : execHold p s = .next t) : t.shell = s.shell := by
  unfold execHold at h
  exact event_shell _ s t (fun _ => shell_goodFrame _ _ (shell_holdCopy _) _) h

theorem execResume_shell (p : PrinterId) (s t : State) (h : execResume p s = .next t) : t.shell = s.shell := by
  unfold execResume at h
  exact event_shell _ s t (fun _ => shell_goodFrame _ _ (shell_resumeCopy _) _) h

theorem execCopyDone_shell (p : PrinterId) (id : W16) (result consumed : Byte) (s t : State)
    (h : execCopyDone p id result consumed s = .next t) : t.shell = s.shell := by
  unfold execCopyDone at h
  exact settlingEvent_shell _ s t (fun _ => shell_goodFrame _ _ (shell_copyDone _ _ _ _) _) h

theorem execPrinterFrameDiscarded_shell (p : PrinterId) (raw : List Byte) (s t : State)
    (h : execPrinterFrameDiscarded p raw s = .next t) : t.shell = s.shell := by
  unfold execPrinterFrameDiscarded at h
  refine event_shell _ s t (fun u => ?_) h
  simp

theorem execPrinterLinkWatchExpiry_shell (p : PrinterId) (s t : State) (h : execPrinterLinkWatchExpiry p s = .next t) : t.shell = s.shell := by
  unfold execPrinterLinkWatchExpiry at h
  refine event_shell _ s t (fun u => ?_) h
  (repeat' split) <;> simp

theorem execBeginAnswerLimitExpiry_shell (p : PrinterId) (s t : State) (h : execBeginAnswerLimitExpiry p s = .next t) : t.shell = s.shell := by
  unfold execBeginAnswerLimitExpiry at h
  refine event_shell _ s t (fun u => ?_) h
  (repeat' split) <;> simp

theorem execAbortAnswerLimitExpiry_shell (p : PrinterId) (s t : State) (h : execAbortAnswerLimitExpiry p s = .next t) : t.shell = s.shell := by
  unfold execAbortAnswerLimitExpiry at h
  refine event_shell _ s t (fun u => ?_) h
  (repeat' split) <;> simp

theorem execUnderrunTimerExpiry_shell (p : PrinterId) (n : Nat) (s t : State)
    (h : execUnderrunTimerExpiry p n s = .next t) : t.shell = s.shell := by
  unfold execUnderrunTimerExpiry at h
  refine event_shell _ s t (fun u => ?_) h
  (repeat' split) <;> simp

theorem execStripeSent_shell (p : PrinterId) (s t : State) (h : execStripeSent p s = .next t) : t.shell = s.shell := by
  unfold execStripeSent at h
  refine event_shell _ s t (fun u => ?_) h
  simp

theorem execTransferEnd_shell (index : Nat) (report : TransferReport) (s t : State)
    (h : execTransferEnd index report s = .next t) : t.shell = s.shell := by
  unfold execTransferEnd at h
  refine event_shell _ s t (fun u => ?_) h
  simp

theorem execTransferNoCompletion_shell (index : Nat) (s t : State) (h : execTransferNoCompletion index s = .next t) : t.shell = s.shell := by
  unfold execTransferNoCompletion at h
  refine event_shell _ s t (fun u => ?_) h
  simp

theorem execSettleTimerExpiry_shell (b : BayId) (s t : State) (h : execSettleTimerExpiry b s = .next t) : t.shell = s.shell := by
  unfold execSettleTimerExpiry at h
  refine event_shell _ s t (fun u => ?_) h
  (repeat' split) <;> simp

theorem execIdentifyAnswer_shell (b : BayId) (capacity serial : W32) (check : W16) (s t : State)
    (h : execIdentifyAnswer b capacity serial check s = .next t) : t.shell = s.shell := by
  unfold execIdentifyAnswer at h
  refine event_shell _ s t (fun u => ?_) h
  (repeat' split) <;> simp

theorem execIdentifyLimitExpiry_shell (b : BayId) (s t : State) (h : execIdentifyLimitExpiry b s = .next t) : t.shell = s.shell := by
  unfold execIdentifyLimitExpiry at h
  refine event_shell _ s t (fun u => ?_) h
  (repeat' split) <;> simp

theorem execBlockArrival_shell (b : BayId) (data : List Byte) (check : W16) (s t : State)
    (h : execBlockArrival b data check s = .next t) : t.shell = s.shell := by
  unfold execBlockArrival at h
  refine event_shell _ s t (fun u => ?_) h
  simp

theorem execBlockLimitExpiry_shell (b : BayId) (s t : State) (h : execBlockLimitExpiry b s = .next t) : t.shell = s.shell := by
  unfold execBlockLimitExpiry at h
  refine event_shell _ s t (fun u => ?_) h
  (repeat' split) <;> simp

theorem execGiveBackWaitExpiry_shell (b : BayId) (s t : State) (h : execGiveBackWaitExpiry b s = .next t) : t.shell = s.shell := by
  unfold execGiveBackWaitExpiry at h
  refine event_shell _ s t (fun u => ?_) h
  (repeat' split) <;> simp

theorem execStallLimitExpiry_shell (b : BayId) (s t : State) (h : execStallLimitExpiry b s = .next t) : t.shell = s.shell := by
  unfold execStallLimitExpiry at h
  refine event_shell _ s t (fun u => ?_) h
  (repeat' split) <;> simp

theorem execReady_shell (s t : State) (h : execReady s = .next t) : t.shell = s.shell := by
  unfold execReady at h
  exact settlingEvent_shell _ s t (by simp) h

theorem execCardWait_shell (ref : W16) (s t : State) (h : execCardWait ref s = .next t) : t.shell = s.shell := by
  unfold execCardWait at h
  exact event_shell _ s t (fun _ => shell_exchangeFrame _ _ shell_cardWaited _) h

theorem execApproved_shell (ref : W16) (amount : W32) (code : List Byte) (s t : State)
    (h : execApproved ref amount code s = .next t) : t.shell = s.shell := by
  unfold execApproved at h
  exact settlingEvent_shell _ s t (fun _ => shell_exchangeFrame _ _ (shell_approvedAnswer _ _) _) h

theorem execDeclined_shell (ref : W16) (reason : Byte) (s t : State) (h : execDeclined ref reason s = .next t) : t.shell = s.shell := by
  unfold execDeclined at h
  exact settlingEvent_shell _ s t (fun _ => shell_exchangeFrame _ _ (shell_outcomeAnswer _ _) _) h

theorem execTimedOut_shell (ref : W16) (s t : State) (h : execTimedOut ref s = .next t) : t.shell = s.shell := by
  unfold execTimedOut at h
  exact settlingEvent_shell _ s t (fun _ => shell_exchangeFrame _ _ (shell_outcomeAnswer _ _) _) h

theorem execAborted_shell (ref : W16) (s t : State) (h : execAborted ref s = .next t) : t.shell = s.shell := by
  unfold execAborted at h
  exact settlingEvent_shell _ s t (fun _ => shell_exchangeFrame _ _ (shell_outcomeAnswer _ _) _) h

theorem execCaptured_shell (ref : W16) (amount : W32) (s t : State) (h : execCaptured ref amount s = .next t) : t.shell = s.shell := by
  unfold execCaptured at h
  exact settlingEvent_shell _ s t (by simp) h

theorem execVoided_shell (ref : W16) (s t : State) (h : execVoided ref s = .next t) : t.shell = s.shell := by
  unfold execVoided at h
  exact settlingEvent_shell _ s t (fun _ => shell_exchangeFrame _ _ shell_voidedAnswer _) h

theorem execRefused_shell (ref : W16) (reason : Byte) (s t : State) (h : execRefused ref reason s = .next t) : t.shell = s.shell := by
  unfold execRefused at h
  exact settlingEvent_shell _ s t (fun _ => shell_exchangeFrame _ _ (shell_refusedAnswer _) _) h

theorem execTerminalFrameDiscarded_shell (raw : List Byte) (gap : Bool) (s t : State)
    (h : execTerminalFrameDiscarded raw gap s = .next t) : t.shell = s.shell := by
  unfold execTerminalFrameDiscarded at h
  refine event_shell _ s t (fun u => ?_) h
  simp

theorem execTerminalLinkWatchExpiry_shell (s t : State) (h : execTerminalLinkWatchExpiry s = .next t) : t.shell = s.shell := by
  unfold execTerminalLinkWatchExpiry at h
  refine event_shell _ s t (fun u => ?_) h
  (repeat' split) <;> simp

theorem execCardWaitLimitExpiry_shell (s t : State) (h : execCardWaitLimitExpiry s = .next t) : t.shell = s.shell := by
  unfold execCardWaitLimitExpiry at h
  refine event_shell _ s t (fun u => ?_) h
  (repeat' split) <;> simp

theorem execAuthorizationLimitExpiry_shell (s t : State) (h : execAuthorizationLimitExpiry s = .next t) : t.shell = s.shell := by
  unfold execAuthorizationLimitExpiry at h
  refine event_shell _ s t (fun u => ?_) h
  (repeat' split) <;> simp

theorem execTerminalAbortAnswerExpiry_shell (s t : State) (h : execTerminalAbortAnswerExpiry s = .next t) : t.shell = s.shell := by
  unfold execTerminalAbortAnswerExpiry at h
  refine event_shell _ s t (fun u => ?_) h
  (repeat' split) <;> simp

theorem execAnswerLimitExpiry_shell (s t : State) (h : execAnswerLimitExpiry s = .next t) : t.shell = s.shell := by
  unfold execAnswerLimitExpiry at h
  refine event_shell _ s t (fun u => ?_) h
  (repeat' split) <;> simp

/-! ## All commands at once -/

/-- The commands that change the shell by more than the taking of a slot. -/
def changesShell : Instr → Bool
  | .powerOn | .resetNHigh | .partReset | .linkDown | .hotReset | .enterRun | .clockTick | .slotRequestWrite _ _ _ | .attn _
  | .attnEnable _ | .post _ | .cancel _ | .release _ | .giveBack _ | .stripWriteRefused _ _ | .openOrder | .setAperture | .setTimers | .contactClose _ | .contactOpen _
  | .msiEnable _ | .pcieLinkUp => true
  | _ => false

theorem shell_ackUnits (v : W32) (s : State) : (ackUnits v s).shell = s.shell := by
  unfold ackUnits
  rw [shell_unitChanged]
  refine shell_forEach _ (fun n u => ?_) _ s
  split
  · simp only [ackUnit]
    (repeat' split) <;> simp
  · rfl

theorem controlWrite_shell (f : State → State) (s t : State) (hf : ∀ u, (f u).shell = u.shell) (h : controlWrite f s = .next t) :
    t.shell = s.shell := by
  unfold controlWrite at h
  injection h with h
  subst h
  split
  · rw [shell_interruptAfterWrite, hf, shell_quiet]
  · rfl

/-- A taking whose work keeps the shell, as a command. -/
theorem taking_event (k : Kind) (work : SlotId → State → State) (hw : ∀ n s, (work n s).shell = s.shell) (s t : State)
    (h : event (taking k work) s = .next t) :
    t.shell = s.shell ∨ ∃ n rest, s.intake = n :: rest ∧ t.shell = (takeSlot n rest s).shell := by
  unfold event at h
  injection h with h
  subst h
  split
  · rw [shell_closeEvent]
    exact taking_shell k work hw s.quiet
  · exact Or.inl rfl

theorem execOpenSession_shell (s t : State) (h : execOpenSession s = .next t) :
    t.shell = s.shell ∨ ∃ n rest, s.intake = n :: rest ∧ t.shell = (takeSlot n rest s).shell := by
  unfold execOpenSession at h
  exact taking_event .openSession _ (shell_withStation _ fun _ _ _ => by simp) s t h

theorem execCloseSession_shell (s t : State) (h : execCloseSession s = .next t) :
    t.shell = s.shell ∨ ∃ n rest, s.intake = n :: rest ∧ t.shell = (takeSlot n rest s).shell := by
  unfold execCloseSession at h
  exact taking_event .closeSession _ (shell_withStation _ fun _ _ _ => by simp) s t h

theorem execAddItem_shell (s t : State) (h : execAddItem s = .next t) :
    t.shell = s.shell ∨ ∃ n rest, s.intake = n :: rest ∧ t.shell = (takeSlot n rest s).shell := by
  unfold execAddItem at h
  exact taking_event .addItem _ (shell_withOrder _ fun _ _ _ => by simp) s t h

theorem execChangeItem_shell (s t : State) (h : execChangeItem s = .next t) :
    t.shell = s.shell ∨ ∃ n rest, s.intake = n :: rest ∧ t.shell = (takeSlot n rest s).shell := by
  unfold execChangeItem at h
  exact taking_event .changeItem _ (shell_withOrder _ fun _ _ _ => by simp) s t h

theorem execRemoveItem_shell (s t : State) (h : execRemoveItem s = .next t) :
    t.shell = s.shell ∨ ∃ n rest, s.intake = n :: rest ∧ t.shell = (takeSlot n rest s).shell := by
  unfold execRemoveItem at h
  exact taking_event .removeItem _ (shell_withOrder _ fun _ _ _ => by simp) s t h

theorem execSetPromo_shell (s t : State) (h : execSetPromo s = .next t) :
    t.shell = s.shell ∨ ∃ n rest, s.intake = n :: rest ∧ t.shell = (takeSlot n rest s).shell := by
  unfold execSetPromo at h
  exact taking_event .setPromo _ (shell_withOrder _ fun _ _ _ => by simp) s t h

theorem execQuote_shell (s t : State) (h : execQuote s = .next t) :
    t.shell = s.shell ∨ ∃ n rest, s.intake = n :: rest ∧ t.shell = (takeSlot n rest s).shell := by
  unfold execQuote at h
  exact taking_event .quote _ (shell_withOrder _ fun _ _ _ => by simp) s t h

theorem execPay_shell (s t : State) (h : execPay s = .next t) :
    t.shell = s.shell ∨ ∃ n rest, s.intake = n :: rest ∧ t.shell = (takeSlot n rest s).shell := by
  unfold execPay at h
  exact taking_event .pay _ (shell_withOrder _ fun _ _ _ => by simp) s t h

theorem execCancelOrder_shell (s t : State) (h : execCancelOrder s = .next t) :
    t.shell = s.shell ∨ ∃ n rest, s.intake = n :: rest ∧ t.shell = (takeSlot n rest s).shell := by
  unfold execCancelOrder at h
  exact taking_event .cancelOrder _ (shell_withOrder _ fun _ _ _ => by simp) s t h

theorem execRetireOrder_shell (s t : State) (h : execRetireOrder s = .next t) :
    t.shell = s.shell ∨ ∃ n rest, s.intake = n :: rest ∧ t.shell = (takeSlot n rest s).shell := by
  unfold execRetireOrder at h
  exact taking_event .retireOrder _ (shell_withOrder _ fun _ _ _ => by simp) s t h

theorem execReadCard_shell (s t : State) (h : execReadCard s = .next t) :
    t.shell = s.shell ∨ ∃ n rest, s.intake = n :: rest ∧ t.shell = (takeSlot n rest s).shell := by
  unfold execReadCard at h
  exact taking_event .readCard readCardTaken (fun _ _ => by simp) s t h

theorem execLoadPrices_shell (s t : State) (h : execLoadPrices s = .next t) :
    t.shell = s.shell ∨ ∃ n rest, s.intake = n :: rest ∧ t.shell = (takeSlot n rest s).shell := by
  unfold execLoadPrices at h
  exact taking_event .loadPrices loadPricesWork (fun _ _ => by simp) s t h

theorem execShiftClose_shell (s t : State) (h : execShiftClose s = .next t) :
    t.shell = s.shell ∨ ∃ n rest, s.intake = n :: rest ∧ t.shell = (takeSlot n rest s).shell := by
  unfold execShiftClose at h
  exact taking_event .shiftClose shiftCloseWork (fun _ _ => by simp) s t h

theorem execResetUnit_shell (s t : State) (h : execResetUnit s = .next t) :
    t.shell = s.shell ∨ ∃ n rest, s.intake = n :: rest ∧ t.shell = (takeSlot n rest s).shell := by
  unfold execResetUnit at h
  exact taking_event .resetUnit resetUnitWork (fun _ _ => by simp) s t h

theorem execPrinterService_shell (s t : State) (h : execPrinterService s = .next t) :
    t.shell = s.shell ∨ ∃ n rest, s.intake = n :: rest ∧ t.shell = (takeSlot n rest s).shell := by
  unfold execPrinterService at h
  exact taking_event .printerService printerServiceWork (fun _ _ => by simp) s t h

theorem execUnknownKind_shell (s t : State) (h : execUnknownKind s = .next t) :
    t.shell = s.shell ∨ ∃ n rest, s.intake = n :: rest ∧ t.shell = (takeSlot n rest s).shell := by
  unfold execUnknownKind event at h
  injection h with h
  subst h
  split
  · rw [shell_closeEvent]
    unfold takeUnknown
    split
    · exact Or.inl rfl
    · rename_i n rest e
      split
      · exact Or.inl rfl
      · exact Or.inr ⟨n, rest, e, by rw [shell_refuseSlot]; rfl⟩
  · exact Or.inl rfl

/-- Every other command keeps the shell, or takes a slot and keeps the rest of it. -/
theorem exec_shell (c : Instr) (s t : State) (hc : changesShell c = false) (h : exec c s = .next t) :
    t.shell = s.shell ∨ ∃ n rest, s.intake = n :: rest ∧ t.shell = (takeSlot n rest s).shell := by
  cases c <;> first | (cases hc; done) | simp only [exec] at h
  case windowWriteDiscarded => injection h with h; subst h; exact Or.inl rfl
  case unitChanged v =>
    unfold execUnitChanged at h
    exact Or.inl (controlWrite_shell (ackUnits v) s t (shell_ackUnits v) h)
  case orderChanged v =>
    unfold execOrderChanged at h
    exact Or.inl (controlWrite_shell (fun t => { t with orderChanged := t.orderChanged &&& ~~~v }) s t (fun _ => rfl) h)
  case unknownKind => exact execUnknownKind_shell s t h
  case openSession => exact execOpenSession_shell s t h
  case closeSession => exact execCloseSession_shell s t h
  case addItem => exact execAddItem_shell s t h
  case changeItem => exact execChangeItem_shell s t h
  case removeItem => exact execRemoveItem_shell s t h
  case setPromo => exact execSetPromo_shell s t h
  case quote => exact execQuote_shell s t h
  case pay => exact execPay_shell s t h
  case cancelOrder => exact execCancelOrder_shell s t h
  case retireOrder => exact execRetireOrder_shell s t h
  case readCard => exact execReadCard_shell s t h
  case loadPrices => exact execLoadPrices_shell s t h
  case shiftClose => exact execShiftClose_shell s t h
  case resetUnit => exact execResetUnit_shell s t h
  case printerService => exact execPrinterService_shell s t h
  case idleExpiry => exact Or.inl (execIdleExpiry_shell _ s t h)
  case paymentNoticeExpiry => exact Or.inl (execPaymentNoticeExpiry_shell _ s t h)
  case minimumOnTimeExpiry => exact Or.inl (execMinimumOnTimeExpiry_shell _ s t h)
  case blinkToggle => exact Or.inl (execBlinkToggle_shell _ s t h)
  case quoteHoldExpiry => exact Or.inl (execQuoteHoldExpiry_shell _ s t h)
  case faultGraceExpiry => exact Or.inl (execFaultGraceExpiry_shell _ s t h)
  case status => exact Or.inl (execStatus_shell _ _ s t h)
  case nextStripe => exact Or.inl (execNextStripe_shell _ _ s t h)
  case hold => exact Or.inl (execHold_shell _ s t h)
  case resume => exact Or.inl (execResume_shell _ s t h)
  case copyDone => exact Or.inl (execCopyDone_shell _ _ _ _ s t h)
  case printerFrameDiscarded => exact Or.inl (execPrinterFrameDiscarded_shell _ _ s t h)
  case printerLinkWatchExpiry => exact Or.inl (execPrinterLinkWatchExpiry_shell _ s t h)
  case beginAnswerLimitExpiry => exact Or.inl (execBeginAnswerLimitExpiry_shell _ s t h)
  case abortAnswerLimitExpiry => exact Or.inl (execAbortAnswerLimitExpiry_shell _ s t h)
  case underrunTimerExpiry => exact Or.inl (execUnderrunTimerExpiry_shell _ _ s t h)
  case stripeSent => exact Or.inl (execStripeSent_shell _ s t h)
  case transferEnd => exact Or.inl (execTransferEnd_shell _ _ s t h)
  case transferNoCompletion => exact Or.inl (execTransferNoCompletion_shell _ s t h)
  case settleTimerExpiry => exact Or.inl (execSettleTimerExpiry_shell _ s t h)
  case identifyAnswer => exact Or.inl (execIdentifyAnswer_shell _ _ _ _ s t h)
  case identifyLimitExpiry => exact Or.inl (execIdentifyLimitExpiry_shell _ s t h)
  case blockArrival => exact Or.inl (execBlockArrival_shell _ _ _ s t h)
  case blockLimitExpiry => exact Or.inl (execBlockLimitExpiry_shell _ s t h)
  case giveBackWaitExpiry => exact Or.inl (execGiveBackWaitExpiry_shell _ s t h)
  case stallLimitExpiry => exact Or.inl (execStallLimitExpiry_shell _ s t h)
  case ready => exact Or.inl (execReady_shell s t h)
  case cardWait => exact Or.inl (execCardWait_shell _ s t h)
  case approved => exact Or.inl (execApproved_shell _ _ _ s t h)
  case declined => exact Or.inl (execDeclined_shell _ _ s t h)
  case timedOut => exact Or.inl (execTimedOut_shell _ s t h)
  case aborted => exact Or.inl (execAborted_shell _ s t h)
  case captured => exact Or.inl (execCaptured_shell _ _ s t h)
  case voided => exact Or.inl (execVoided_shell _ s t h)
  case refused => exact Or.inl (execRefused_shell _ _ s t h)
  case terminalFrameDiscarded => exact Or.inl (execTerminalFrameDiscarded_shell _ _ s t h)
  case terminalLinkWatchExpiry => exact Or.inl (execTerminalLinkWatchExpiry_shell s t h)
  case cardWaitLimitExpiry => exact Or.inl (execCardWaitLimitExpiry_shell s t h)
  case authorizationLimitExpiry => exact Or.inl (execAuthorizationLimitExpiry_shell s t h)
  case terminalAbortAnswerExpiry => exact Or.inl (execTerminalAbortAnswerExpiry_shell s t h)
  case answerLimitExpiry => exact Or.inl (execAnswerLimitExpiry_shell s t h)

end Sys2Proof.Machine
end

