-- ==== Sys2Proof/Laws/Holding.lean ====
section
/-! SUPPORT. Who holds the terminal (R130): only the payment controller's grants and ends of holdings change the terminal's state and its
holder, and each keeps the law that the terminal is AUTHORIZING or SETTLING exactly while a party holds it. -/

namespace Sys2Proof.Machine

@[simp] theorem holds_quiet (s : State) : (s.quiet).terminal.state = s.terminal.state ∧ (s.quiet).terminal.holder = s.terminal.holder := ⟨rfl, rfl⟩
@[simp] theorem holds_present (s : State) (t : Transfer) : (s.present t).terminal.state = s.terminal.state ∧ (s.present t).terminal.holder = s.terminal.holder := ⟨rfl, rfl⟩
@[simp] theorem holds_withdraw (s : State) (r : Requester) : (s.withdraw r).terminal.state = s.terminal.state ∧ (s.withdraw r).terminal.holder = s.terminal.holder := ⟨rfl, rfl⟩
@[simp] theorem holds_markUnit (s : State) (n : UnitId) : (s.markUnit n).terminal.state = s.terminal.state ∧ (s.markUnit n).terminal.holder = s.terminal.holder := ⟨rfl, rfl⟩
@[simp] theorem holds_markOrder (s : State) (o : OrderId) : (s.markOrder o).terminal.state = s.terminal.state ∧ (s.markOrder o).terminal.holder = s.terminal.holder := ⟨rfl, rfl⟩
@[simp] theorem holds_onItem (s : State) (o : OrderId) (i : Nat) (f : Item → Item) : (s.onItem o i f).terminal.state = s.terminal.state ∧ (s.onItem o i f).terminal.holder = s.terminal.holder := ⟨rfl, rfl⟩
@[simp] theorem holds_onCopy (s : State) (p : PrinterId) (f : Copy → Copy) : (s.onCopy p f).terminal.state = s.terminal.state ∧ (s.onCopy p f).terminal.holder = s.terminal.holder := ⟨rfl, rfl⟩
@[simp] theorem holds_onActive (s : State) (b : BayId) (f : Read → Read) : (s.onActive b f).terminal.state = s.terminal.state ∧ (s.onActive b f).terminal.holder = s.terminal.holder := ⟨rfl, rfl⟩
@[simp] theorem holds_onTill (s : State) (f : Till → Till) : (s.onTill f).terminal.state = s.terminal.state ∧ (s.onTill f).terminal.holder = s.terminal.holder := ⟨rfl, rfl⟩

@[simp] theorem holds_forEach {α : Type} (f : α → State → State)
    (h : ∀ a s, (f a s).terminal.state = s.terminal.state ∧ (f a s).terminal.holder = s.terminal.holder) (l : List α) (s : State) :
    (forEach l f s).terminal.state = s.terminal.state ∧ (forEach l f s).terminal.holder = s.terminal.holder :=
  ⟨forEach_keeps (fun s => s.terminal.state) f (fun a s => (h a s).1) l s, forEach_keeps (fun s => s.terminal.holder) f (fun a s => (h a s).2) l s⟩

@[simp] theorem holds_sendMessage (s : State) : (sendMessage s).terminal.state = s.terminal.state ∧ (sendMessage s).terminal.holder = s.terminal.holder := by
  simp only [sendMessage]
  (repeat' split) <;> simp

@[simp] theorem holds_interruptAfterWrite (s : State) : (interruptAfterWrite s).terminal.state = s.terminal.state ∧ (interruptAfterWrite s).terminal.holder = s.terminal.holder := by
  simp only [interruptAfterWrite]
  (repeat' split) <;> simp

@[simp] theorem holds_interruptOnEdge (before s : State) : (interruptOnEdge before s).terminal.state = s.terminal.state ∧ (interruptOnEdge before s).terminal.holder = s.terminal.holder := by
  simp only [interruptOnEdge]
  (repeat' split) <;> simp

@[simp] theorem holds_markChanges (before s : State) : (markChanges before s).terminal.state = s.terminal.state ∧ (markChanges before s).terminal.holder = s.terminal.holder := ⟨rfl, rfl⟩

@[simp] theorem holds_closeEvent (before s : State) : (closeEvent before s).terminal.state = s.terminal.state ∧ (closeEvent before s).terminal.holder = s.terminal.holder := by
  simp only [closeEvent]
  simp

@[simp] theorem holds_complete (n : SlotId) (st : Status) (why : Reason) (body : Body) (s : State) : (complete n st why body s).terminal.state = s.terminal.state ∧ (complete n st why body s).terminal.holder = s.terminal.holder := by
  simp only [complete]
  (repeat' split) <;> simp

@[simp] theorem holds_completeKeeping (n : SlotId) (st : Status) (s : State) : (completeKeeping n st s).terminal.state = s.terminal.state ∧ (completeKeeping n st s).terminal.holder = s.terminal.holder := by
  simp only [completeKeeping]
  simp

@[simp] theorem holds_advanceProgress (n : SlotId) (s : State) : (advanceProgress n s).terminal.state = s.terminal.state ∧ (advanceProgress n s).terminal.holder = s.terminal.holder := by
  simp only [advanceProgress]
  (repeat' split) <;> simp

@[simp] theorem holds_writeBody (n : SlotId) (body : Body) (s : State) : (writeBody n body s).terminal.state = s.terminal.state ∧ (writeBody n body s).terminal.holder = s.terminal.holder := by
  simp only [writeBody]
  (repeat' split) <;> simp

@[simp] theorem holds_evalLamps (i : StationId) (s : State) : (evalLamps i s).terminal.state = s.terminal.state ∧ (evalLamps i s).terminal.holder = s.terminal.holder := by
  simp only [evalLamps]
  simp

@[simp] theorem holds_evalAllLamps (s : State) : (evalAllLamps s).terminal.state = s.terminal.state ∧ (evalAllLamps s).terminal.holder = s.terminal.holder := by
  simp only [evalAllLamps]
  simp

@[simp] theorem holds_openSessionAt (i : StationId) (k : SessionId) (s : State) : (openSessionAt i k s).terminal.state = s.terminal.state ∧ (openSessionAt i k s).terminal.holder = s.terminal.holder := by
  simp only [openSessionAt]
  simp

@[simp] theorem holds_restartSession (k : SessionId) (s : State) : (restartSession k s).terminal.state = s.terminal.state ∧ (restartSession k s).terminal.holder = s.terminal.holder := by
  simp only [restartSession]
  (repeat' split) <;> simp

@[simp] theorem holds_restartForStation (i : StationId) (s : State) : (restartForStation i s).terminal.state = s.terminal.state ∧ (restartForStation i s).terminal.holder = s.terminal.holder := by
  simp only [restartForStation]
  (repeat' split) <;> simp

@[simp] theorem holds_restartForOrder (o : OrderId) (s : State) : (restartForOrder o s).terminal.state = s.terminal.state ∧ (restartForOrder o s).terminal.holder = s.terminal.holder := by
  simp only [restartForOrder]
  (repeat' split) <;> simp

@[simp] theorem holds_clearNoRoom (s : State) :
    (clearNoRoom s).terminal.state = s.terminal.state ∧ (clearNoRoom s).terminal.holder = s.terminal.holder := by
  unfold clearNoRoom
  apply holds_forEach
  intro i t
  split <;> exact ⟨rfl, rfl⟩

@[simp] theorem holds_freeEntry (k : SessionId) (s : State) : (freeEntry k s).terminal.state = s.terminal.state ∧ (freeEntry k s).terminal.holder = s.terminal.holder := by
  simp only [freeEntry]
  simp

@[simp] theorem holds_cardArrival (i : StationId) (s : State) : (cardArrival i s).terminal.state = s.terminal.state ∧ (cardArrival i s).terminal.holder = s.terminal.holder := by
  simp only [cardArrival]
  (repeat' split) <;> simp

@[simp] theorem holds_reportFinal (o : OrderId) (s : State) : (reportFinal o s).terminal.state = s.terminal.state ∧ (reportFinal o s).terminal.holder = s.terminal.holder := by
  simp only [reportFinal]
  (repeat' split) <;> simp

@[simp] theorem holds_stopWatch (o : OrderId) (s : State) : (stopWatch o s).terminal.state = s.terminal.state ∧ (stopWatch o s).terminal.holder = s.terminal.holder := by
  simp only [stopWatch]
  (repeat' split) <;> simp

@[simp] theorem holds_restartWatch (o : OrderId) (s : State) : (restartWatch o s).terminal.state = s.terminal.state ∧ (restartWatch o s).terminal.holder = s.terminal.holder := by
  simp only [restartWatch]
  (repeat' split) <;> simp

@[simp] theorem holds_startNotice (i : StationId) (s : State) : (startNotice i s).terminal.state = s.terminal.state ∧ (startNotice i s).terminal.holder = s.terminal.holder := by
  simp only [startNotice]
  simp

@[simp] theorem holds_leaveQueues (o : OrderId) (s : State) : (leaveQueues o s).terminal.state = s.terminal.state ∧ (leaveQueues o s).terminal.holder = s.terminal.holder := by
  simp only [leaveQueues]
  simp

@[simp] theorem holds_joinQueue (o : OrderId) (p : PrinterId) (s : State) : (joinQueue o p s).terminal.state = s.terminal.state ∧ (joinQueue o p s).terminal.holder = s.terminal.holder := by
  simp only [joinQueue]
  simp

@[simp] theorem holds_leaveHeld (o : OrderId) (s : State) : (leaveHeld o s).terminal.state = s.terminal.state ∧ (leaveHeld o s).terminal.holder = s.terminal.holder := ⟨rfl, rfl⟩

@[simp] theorem holds_markHeldList (s : State) : (markHeldList s).terminal.state = s.terminal.state ∧ (markHeldList s).terminal.holder = s.terminal.holder := ⟨rfl, rfl⟩

@[simp] theorem holds_toDraft (o : OrderId) (why : DraftReason) (s : State) : (toDraft o why s).terminal.state = s.terminal.state ∧ (toDraft o why s).terminal.holder = s.terminal.holder := by
  simp only [toDraft]
  simp

@[simp] theorem holds_makePaid (o : OrderId) (p : PrinterId) (s : State) : (makePaid o p s).terminal.state = s.terminal.state ∧ (makePaid o p s).terminal.holder = s.terminal.holder := by
  simp only [makePaid]
  simp

@[simp] theorem holds_enterHeld (o : OrderId) (s : State) : (enterHeld o s).terminal.state = s.terminal.state ∧ (enterHeld o s).terminal.holder = s.terminal.holder := by
  simp only [enterHeld]
  simp

@[simp] theorem holds_placeHeld (o : OrderId) (p : PrinterId) (s : State) : (placeHeld o p s).terminal.state = s.terminal.state ∧ (placeHeld o p s).terminal.holder = s.terminal.holder := by
  simp only [placeHeld]
  simp

@[simp] theorem holds_makeCancelled (o : OrderId) (s : State) : (makeCancelled o s).terminal.state = s.terminal.state ∧ (makeCancelled o s).terminal.holder = s.terminal.holder := by
  simp only [makeCancelled]
  simp

@[simp] theorem holds_addSettlement (o : OrderId) (attempts : Nat) (s : State) : (addSettlement o attempts s).terminal.state = s.terminal.state ∧ (addSettlement o attempts s).terminal.holder = s.terminal.holder := by
  simp only [addSettlement]
  simp

@[simp] theorem holds_settlementTrigger (o : OrderId) (s : State) : (settlementTrigger o s).terminal.state = s.terminal.state ∧ (settlementTrigger o s).terminal.holder = s.terminal.holder := by
  simp only [settlementTrigger]
  (repeat' split) <;> simp

@[simp] theorem holds_settlementCheck (o : OrderId) (s : State) : (settlementCheck o s).terminal.state = s.terminal.state ∧ (settlementCheck o s).terminal.holder = s.terminal.holder := by
  simp only [settlementCheck]
  (repeat' split) <;> simp

@[simp] theorem holds_closeOrder (o : OrderId) (how : SettleStatus) (s : State) : (closeOrder o how s).terminal.state = s.terminal.state ∧ (closeOrder o how s).terminal.holder = s.terminal.holder := by
  simp only [closeOrder]
  (repeat' split) <;> simp

@[simp] theorem holds_dropCopies (o : OrderId) (s : State) : (dropCopies o s).terminal.state = s.terminal.state ∧ (dropCopies o s).terminal.holder = s.terminal.holder := by
  simp only [dropCopies]
  simp

@[simp] theorem holds_copyBegins (o : OrderId) (i : Nat) (s : State) : (copyBegins o i s).terminal.state = s.terminal.state ∧ (copyBegins o i s).terminal.holder = s.terminal.holder := by
  simp only [copyBegins]
  simp

@[simp] theorem holds_copyEnded (p : PrinterId) (c : Copy) (result : CopyResult) (s : State) : (copyEnded p c result s).terminal.state = s.terminal.state ∧ (copyEnded p c result s).terminal.holder = s.terminal.holder := by
  simp only [copyEnded]
  (repeat' split) <;> simp

@[simp] theorem holds_retireOrder (o : OrderId) (s : State) : (retireOrder o s).terminal.state = s.terminal.state ∧ (retireOrder o s).terminal.holder = s.terminal.holder := by
  simp only [retireOrder]
  simp

@[simp] theorem holds_setPrinterState (p : PrinterId) (new : PrinterState) (s : State) : (setPrinterState p new s).terminal.state = s.terminal.state ∧ (setPrinterState p new s).terminal.holder = s.terminal.holder := by
  simp only [setPrinterState]
  (repeat' split) <;> simp

@[simp] theorem holds_enterService (p : PrinterId) (s : State) : (enterService p s).terminal.state = s.terminal.state ∧ (enterService p s).terminal.holder = s.terminal.holder := by
  simp only [enterService]
  simp

@[simp] theorem holds_abortCopy (p : PrinterId) (cause : CopyResult) (s : State) : (abortCopy p cause s).terminal.state = s.terminal.state ∧ (abortCopy p cause s).terminal.holder = s.terminal.holder := by
  simp only [abortCopy]
  (repeat' split) <;> simp

@[simp] theorem holds_endCopy (p : PrinterId) (result : CopyResult) (consumed : Nat) (s : State) : (endCopy p result consumed s).terminal.state = s.terminal.state ∧ (endCopy p result consumed s).terminal.holder = s.terminal.holder := by
  simp only [endCopy]
  (repeat' split) <;> simp

@[simp] theorem holds_endCopyFull (p : PrinterId) (result : CopyResult) (s : State) : (endCopyFull p result s).terminal.state = s.terminal.state ∧ (endCopyFull p result s).terminal.holder = s.terminal.holder := by
  simp only [endCopyFull]
  simp

@[simp] theorem holds_beginCopy (p : PrinterId) (o : OrderId) (i : Nat) (item : Item) (s : State) : (beginCopy p o i item s).terminal.state = s.terminal.state ∧ (beginCopy p o i item s).terminal.holder = s.terminal.holder := by
  simp only [beginCopy]
  (repeat' split) <;> simp

@[simp] theorem holds_beginCheck (p : PrinterId) (s : State) : (beginCheck p s).terminal.state = s.terminal.state ∧ (beginCheck p s).terminal.holder = s.terminal.holder := by
  simp only [beginCheck]
  (repeat' split) <;> simp

@[simp] theorem holds_trySend (p : PrinterId) (s : State) : (trySend p s).terminal.state = s.terminal.state ∧ (trySend p s).terminal.holder = s.terminal.holder := by
  simp only [trySend]
  (repeat' split) <;> simp

@[simp] theorem holds_newStripe (p : PrinterId) (n : Nat) (s : State) : (newStripe p n s).terminal.state = s.terminal.state ∧ (newStripe p n s).terminal.holder = s.terminal.holder := by
  simp only [newStripe]
  (repeat' split) <;> simp

@[simp] theorem holds_nextStripe (p : PrinterId) (n : Nat) (s : State) : (nextStripe p n s).terminal.state = s.terminal.state ∧ (nextStripe p n s).terminal.holder = s.terminal.holder := by
  simp only [nextStripe]
  (repeat' split) <;> simp

@[simp] theorem holds_stripeArrived (p : PrinterId) (copyId : W16) (n : Nat) (side : Target) (last : Bool) (data : List Byte) (s : State) : (stripeArrived p copyId n side last data s).terminal.state = s.terminal.state ∧ (stripeArrived p copyId n side last data s).terminal.holder = s.terminal.holder := by
  simp only [stripeArrived]
  (repeat' split) <;> simp

@[simp] theorem holds_stripeFailed (p : PrinterId) (copyId : W16) (n : Nat) (side : Target) (s : State) : (stripeFailed p copyId n side s).terminal.state = s.terminal.state ∧ (stripeFailed p copyId n side s).terminal.holder = s.terminal.holder := by
  simp only [stripeFailed]
  (repeat' split) <;> simp

@[simp] theorem holds_frameSent (p : PrinterId) (s : State) : (frameSent p s).terminal.state = s.terminal.state ∧ (frameSent p s).terminal.holder = s.terminal.holder := by
  simp only [frameSent]
  (repeat' split) <;> simp

@[simp] theorem holds_heard (p : PrinterId) (s : State) : (heard p s).terminal.state = s.terminal.state ∧ (heard p s).terminal.holder = s.terminal.holder := by
  simp only [heard]
  simp

@[simp] theorem holds_linkHeard (p : PrinterId) (s : State) : (linkHeard p s).terminal.state = s.terminal.state ∧ (linkHeard p s).terminal.holder = s.terminal.holder := by
  simp only [linkHeard]
  simp

theorem holds_goodFrame (p : PrinterId) (f : State → State)
    (h : ∀ s, (f s).terminal.state = s.terminal.state ∧ (f s).terminal.holder = s.terminal.holder) (s : State) :
    (goodFrame p f s).terminal.state = s.terminal.state ∧ (goodFrame p f s).terminal.holder = s.terminal.holder := by
  unfold goodFrame
  split <;> simp [h]

@[simp] theorem holds_countStray (p : PrinterId) (s : State) : (countStray p s).terminal.state = s.terminal.state ∧ (countStray p s).terminal.holder = s.terminal.holder := by
  simp only [countStray]
  simp

@[simp] theorem holds_releaseOrder (p : PrinterId) (o : OrderId) (s : State) : (releaseOrder p o s).terminal.state = s.terminal.state ∧ (releaseOrder p o s).terminal.holder = s.terminal.holder := by
  simp only [releaseOrder]
  (repeat' split) <;> simp

@[simp] theorem holds_releaseStep (p : PrinterId) (o : OrderId) (s : State) : (releaseStep p o s).terminal.state = s.terminal.state ∧ (releaseStep p o s).terminal.holder = s.terminal.holder := by
  simp only [releaseStep]
  (repeat' split) <;> simp

@[simp] theorem holds_releaseCopy (p : PrinterId) (s : State) : (releaseCopy p s).terminal.state = s.terminal.state ∧ (releaseCopy p s).terminal.holder = s.terminal.holder := by
  simp only [releaseCopy]
  (repeat' split) <;> simp

@[simp] theorem holds_release (p : PrinterId) (s : State) : (release p s).terminal.state = s.terminal.state ∧ (release p s).terminal.holder = s.terminal.holder := by
  simp only [release]
  simp

@[simp] theorem holds_scanStep (o : OrderId) (s : State) : (scanStep o s).terminal.state = s.terminal.state ∧ (scanStep o s).terminal.holder = s.terminal.holder := by
  simp only [scanStep]
  (repeat' split) <;> simp

@[simp] theorem holds_scanHeld (s : State) : (scanHeld s).terminal.state = s.terminal.state ∧ (scanHeld s).terminal.holder = s.terminal.holder := by
  simp only [scanHeld]
  simp

@[simp] theorem holds_placeQuoted (o : OrderId) (p : PrinterId) (s : State) : (placeQuoted o p s).terminal.state = s.terminal.state ∧ (placeQuoted o p s).terminal.holder = s.terminal.holder := by
  simp only [placeQuoted]
  simp

@[simp] theorem holds_countApproval (amount : Nat) (s : State) : (countApproval amount s).terminal.state = s.terminal.state ∧ (countApproval amount s).terminal.holder = s.terminal.holder := by
  simp only [countApproval]
  simp

@[simp] theorem holds_countCapture (amount : Nat) (s : State) : (countCapture amount s).terminal.state = s.terminal.state ∧ (countCapture amount s).terminal.holder = s.terminal.holder := by
  simp only [countCapture]
  simp

@[simp] theorem holds_countVoid (amount : Nat) (s : State) : (countVoid amount s).terminal.state = s.terminal.state ∧ (countVoid amount s).terminal.holder = s.terminal.holder := by
  simp only [countVoid]
  simp

@[simp] theorem holds_countUncollected (h : Holder) (s : State) : (countUncollected h s).terminal.state = s.terminal.state ∧ (countUncollected h s).terminal.holder = s.terminal.holder := by
  simp only [countUncollected]
  simp

@[simp] theorem holds_countAbandoned (amount : Nat) (s : State) : (countAbandoned amount s).terminal.state = s.terminal.state ∧ (countAbandoned amount s).terminal.holder = s.terminal.holder := by
  simp only [countAbandoned]
  simp

@[simp] theorem holds_leaveVoidList (ref : W16) (s : State) : (leaveVoidList ref s).terminal.state = s.terminal.state ∧ (leaveVoidList ref s).terminal.holder = s.terminal.holder := by
  simp only [leaveVoidList]
  simp

@[simp] theorem holds_dropOldestVoid (s : State) : (dropOldestVoid s).terminal.state = s.terminal.state ∧ (dropOldestVoid s).terminal.holder = s.terminal.holder := by
  simp only [dropOldestVoid]
  (repeat' split) <;> simp

@[simp] theorem holds_joinVoid (ref : W16) (amount attempts : Nat) (s : State) : (joinVoid ref amount attempts s).terminal.state = s.terminal.state ∧ (joinVoid ref amount attempts s).terminal.holder = s.terminal.holder := by
  simp only [joinVoid]
  (repeat' split) <;> simp

@[simp] theorem holds_approveOrder (o : OrderId) (code : List Byte) (s : State) : (approveOrder o code s).terminal.state = s.terminal.state ∧ (approveOrder o code s).terminal.holder = s.terminal.holder := by
  simp only [approveOrder]
  (repeat' split) <;> simp

@[simp] theorem holds_failOrder (o : OrderId) (outcome : PayOutcome) (s : State) : (failOrder o outcome s).terminal.state = s.terminal.state ∧ (failOrder o outcome s).terminal.holder = s.terminal.holder := by
  simp only [failOrder]
  (repeat' split) <;> simp

@[simp] theorem holds_reportPayEnd (o : OrderId) (outcome : PayOutcome) (s : State) : (reportPayEnd o outcome s).terminal.state = s.terminal.state ∧ (reportPayEnd o outcome s).terminal.holder = s.terminal.holder := by
  simp only [reportPayEnd]
  (repeat' split) <;> simp

@[simp] theorem holds_endPay (n : SlotId) (o : OrderId) (outcome : PayOutcome) (approved : Option Nat) (code : Option (List Byte)) (reason : Option Byte) (s : State) : (endPay n o outcome approved code reason s).terminal.state = s.terminal.state ∧ (endPay n o outcome approved code reason s).terminal.holder = s.terminal.holder := by
  simp only [endPay]
  (repeat' split) <;> simp

@[simp] theorem holds_loseAuthorization (h : Holder) (n : SlotId) (o : OrderId) (s : State) : (loseAuthorization h n o s).terminal.state = s.terminal.state ∧ (loseAuthorization h n o s).terminal.holder = s.terminal.holder := by
  simp only [loseAuthorization]
  simp

@[simp] theorem holds_abandonAuthorization (h : Holder) (n : SlotId) (o : OrderId) (s : State) : (abandonAuthorization h n o s).terminal.state = s.terminal.state ∧ (abandonAuthorization h n o s).terminal.holder = s.terminal.holder := by
  simp only [abandonAuthorization]
  simp

@[simp] theorem holds_endWaiting (s : State) : (endWaiting s).terminal.state = s.terminal.state ∧ (endWaiting s).terminal.holder = s.terminal.holder := by
  simp only [endWaiting]
  simp

@[simp] theorem holds_terminalStray (s : State) : (terminalStray s).terminal.state = s.terminal.state ∧ (terminalStray s).terminal.holder = s.terminal.holder := by
  simp only [terminalStray]
  simp

@[simp] theorem holds_terminalHeard (s : State) : (terminalHeard s).terminal.state = s.terminal.state ∧ (terminalHeard s).terminal.holder = s.terminal.holder := by
  simp only [terminalHeard]
  (repeat' split) <;> simp

@[simp] theorem holds_syncRead (b : BayId) (s : State) : (syncRead b s).terminal.state = s.terminal.state ∧ (syncRead b s).terminal.holder = s.terminal.holder := by
  simp only [syncRead]
  (repeat' split) <;> simp

@[simp] theorem holds_recordRead (b : BayId) (n : SlotId) (st : Status) (s : State) : (recordRead b n st s).terminal.state = s.terminal.state ∧ (recordRead b n st s).terminal.holder = s.terminal.holder := by
  simp only [recordRead]
  (repeat' split) <;> simp

@[simp] theorem holds_activateNext (b : BayId) (s : State) : (activateNext b s).terminal.state = s.terminal.state ∧ (activateNext b s).terminal.holder = s.terminal.holder := by
  simp only [activateNext]
  (repeat' split) <;> simp

@[simp] theorem holds_queueMovesOn (b : BayId) (s : State) : (queueMovesOn b s).terminal.state = s.terminal.state ∧ (queueMovesOn b s).terminal.holder = s.terminal.holder := by
  simp only [queueMovesOn]
  (repeat' split) <;> simp

@[simp] theorem holds_finishRead (b : BayId) (r : Read) (st : Status) (s : State) : (finishRead b r st s).terminal.state = s.terminal.state ∧ (finishRead b r st s).terminal.holder = s.terminal.holder := by
  simp only [finishRead]
  simp

@[simp] theorem holds_finishEnded (b : BayId) (s : State) : (finishEnded b s).terminal.state = s.terminal.state ∧ (finishEnded b s).terminal.holder = s.terminal.holder := by
  simp only [finishEnded]
  (repeat' split) <;> simp

@[simp] theorem holds_startWait (b : BayId) (s : State) : (startWait b s).terminal.state = s.terminal.state ∧ (startWait b s).terminal.holder = s.terminal.holder := by
  simp only [startWait]
  simp

@[simp] theorem holds_requestWrite (b : BayId) (s : State) : (requestWrite b s).terminal.state = s.terminal.state ∧ (requestWrite b s).terminal.holder = s.terminal.holder := by
  simp only [requestWrite]
  (repeat' split) <;> simp

@[simp] theorem holds_restartClock (b : BayId) (s : State) : (restartClock b s).terminal.state = s.terminal.state ∧ (restartClock b s).terminal.holder = s.terminal.holder := by
  simp only [restartClock]
  simp

@[simp] theorem holds_restartRun (b : BayId) (s : State) : (restartRun b s).terminal.state = s.terminal.state ∧ (restartRun b s).terminal.holder = s.terminal.holder := by
  simp only [restartRun]
  (repeat' split) <;> simp

@[simp] theorem holds_bayAdvance (b : BayId) (s : State) : (bayAdvance b s).terminal.state = s.terminal.state ∧ (bayAdvance b s).terminal.holder = s.terminal.holder := by
  simp only [bayAdvance]
  (repeat' split) <;> simp

@[simp] theorem holds_windDown (b : BayId) (cause : EndCause) (s : State) : (windDown b cause s).terminal.state = s.terminal.state ∧ (windDown b cause s).terminal.holder = s.terminal.holder := by
  simp only [windDown]
  (repeat' split) <;> simp

@[simp] theorem holds_endAtBoundary (b : BayId) (cause : EndCause) (s : State) : (endAtBoundary b cause s).terminal.state = s.terminal.state ∧ (endAtBoundary b cause s).terminal.holder = s.terminal.holder := by
  simp only [endAtBoundary]
  (repeat' split) <;> simp

@[simp] theorem holds_endAtOnce (b : BayId) (cause : EndCause) (s : State) : (endAtOnce b cause s).terminal.state = s.terminal.state ∧ (endAtOnce b cause s).terminal.holder = s.terminal.holder := by
  simp only [endAtOnce]
  (repeat' split) <;> simp

@[simp] theorem holds_endWaitingRead (b : BayId) (cause : EndCause) (r : Read) (s : State) : (endWaitingRead b cause r s).terminal.state = s.terminal.state ∧ (endWaitingRead b cause r s).terminal.holder = s.terminal.holder := by
  simp only [endWaitingRead]
  simp

@[simp] theorem holds_endWaitingReads (b : BayId) (cause : EndCause) (s : State) : (endWaitingReads b cause s).terminal.state = s.terminal.state ∧ (endWaitingReads b cause s).terminal.holder = s.terminal.holder := by
  simp only [endWaitingReads]
  simp

@[simp] theorem holds_closeReads (b : BayId) (s : State) : (closeReads b s).terminal.state = s.terminal.state ∧ (closeReads b s).terminal.holder = s.terminal.holder := by
  simp only [closeReads]
  simp

@[simp] theorem holds_acceptBlock (b : BayId) (r : Read) (data : List Byte) (s : State) : (acceptBlock b r data s).terminal.state = s.terminal.state ∧ (acceptBlock b r data s).terminal.holder = s.terminal.holder := by
  simp only [acceptBlock]
  (repeat' split) <;> simp

@[simp] theorem holds_countRetry (b : BayId) (s : State) : (countRetry b s).terminal.state = s.terminal.state ∧ (countRetry b s).terminal.holder = s.terminal.holder := by
  simp only [countRetry]
  simp

@[simp] theorem holds_blockFailed (b : BayId) (r : Read) (s : State) : (blockFailed b r s).terminal.state = s.terminal.state ∧ (blockFailed b r s).terminal.holder = s.terminal.holder := by
  simp only [blockFailed]
  (repeat' split) <;> simp

@[simp] theorem holds_blockEnd (b : BayId) (r : Read) (good : Option (List Byte)) (s : State) : (blockEnd b r good s).terminal.state = s.terminal.state ∧ (blockEnd b r good s).terminal.holder = s.terminal.holder := by
  simp only [blockEnd]
  (repeat' split) <;> simp

@[simp] theorem holds_halfWritten (b : BayId) (h : Fin 2) (blocks : Nat) (s : State) : (halfWritten b h blocks s).terminal.state = s.terminal.state ∧ (halfWritten b h blocks s).terminal.holder = s.terminal.holder := by
  simp only [halfWritten]
  (repeat' split) <;> simp

@[simp] theorem holds_halfFailed (b : BayId) (h : Fin 2) (s : State) : (halfFailed b h s).terminal.state = s.terminal.state ∧ (halfFailed b h s).terminal.holder = s.terminal.holder := by
  simp only [halfFailed]
  simp

@[simp] theorem holds_giveBackBuffer (b : BayId) (r : Read) (s : State) : (giveBackBuffer b r s).terminal.state = s.terminal.state ∧ (giveBackBuffer b r s).terminal.holder = s.terminal.holder := by
  simp only [giveBackBuffer]
  simp

@[simp] theorem holds_startSettling (b : BayId) (s : State) : (startSettling b s).terminal.state = s.terminal.state ∧ (startSettling b s).terminal.holder = s.terminal.holder := by
  simp only [startSettling]
  simp

@[simp] theorem holds_removeCard (b : BayId) (s : State) : (removeCard b s).terminal.state = s.terminal.state ∧ (removeCard b s).terminal.holder = s.terminal.holder := by
  simp only [removeCard]
  (repeat' split) <;> simp

@[simp] theorem holds_sendIdentify (b : BayId) (s : State) : (sendIdentify b s).terminal.state = s.terminal.state ∧ (sendIdentify b s).terminal.holder = s.terminal.holder := by
  simp only [sendIdentify]
  simp

@[simp] theorem holds_identifyFailed (b : BayId) (s : State) : (identifyFailed b s).terminal.state = s.terminal.state ∧ (identifyFailed b s).terminal.holder = s.terminal.holder := by
  simp only [identifyFailed]
  (repeat' split) <;> simp

@[simp] theorem holds_endLoad (l : Load) (outcome : LoadOutcome) (st : Status) (failure : Option (Nat × Violation)) (body : Body) (s : State) : (endLoad l outcome st failure body s).terminal.state = s.terminal.state ∧ (endLoad l outcome st failure body s).terminal.holder = s.terminal.holder := by
  simp only [endLoad]
  simp

@[simp] theorem holds_faultLoad (l : Load) (s : State) : (faultLoad l s).terminal.state = s.terminal.state ∧ (faultLoad l s).terminal.holder = s.terminal.holder := by
  simp only [faultLoad]
  simp

@[simp] theorem holds_installTable (t : PriceTable) (s : State) : (installTable t s).terminal.state = s.terminal.state ∧ (installTable t s).terminal.holder = s.terminal.holder := by
  simp only [installTable]
  simp

@[simp] theorem holds_judgeImage (l : Load) (image : List Byte) (s : State) : (judgeImage l image s).terminal.state = s.terminal.state ∧ (judgeImage l image s).terminal.holder = s.terminal.holder := by
  simp only [judgeImage]
  (repeat' split) <;> simp

@[simp] theorem holds_imageArrived (image : List Byte) (s : State) : (imageArrived image s).terminal.state = s.terminal.state ∧ (imageArrived image s).terminal.holder = s.terminal.holder := by
  simp only [imageArrived]
  (repeat' split) <;> simp

@[simp] theorem holds_imageFailed (s : State) : (imageFailed s).terminal.state = s.terminal.state ∧ (imageFailed s).terminal.holder = s.terminal.holder := by
  simp only [imageFailed]
  (repeat' split) <;> simp

@[simp] theorem holds_cancelLoad (l : Load) (s : State) : (cancelLoad l s).terminal.state = s.terminal.state ∧ (cancelLoad l s).terminal.holder = s.terminal.holder := by
  simp only [cancelLoad]
  (repeat' split) <;> simp

@[simp] theorem holds_grantNote (t : Transfer) (s : State) : (grantNote t s).terminal.state = s.terminal.state ∧ (grantNote t s).terminal.holder = s.terminal.holder := by
  simp only [grantNote]
  (repeat' split) <;> simp

@[simp] theorem holds_sendTransfer (t : Transfer) (s : State) : (sendTransfer t s).terminal.state = s.terminal.state ∧ (sendTransfer t s).terminal.holder = s.terminal.holder := by
  simp only [sendTransfer]
  (repeat' split) <;> simp

@[simp] theorem holds_grantTo (i : Fin 7) (s : State) : (grantTo i s).terminal.state = s.terminal.state ∧ (grantTo i s).terminal.holder = s.terminal.holder := by
  simp only [grantTo]
  (repeat' split) <;> simp

@[simp] theorem holds_grantOne (s : State) : (grantOne s).terminal.state = s.terminal.state ∧ (grantOne s).terminal.holder = s.terminal.holder := by
  simp only [grantOne]
  (repeat' split) <;> simp

@[simp] theorem holds_grantLoop (s : State) : (grantLoop s).terminal.state = s.terminal.state ∧ (grantLoop s).terminal.holder = s.terminal.holder := by
  simp only [grantLoop]
  simp

@[simp] theorem holds_tellOne (t : Transfer) (o : TransferOutcome) (s : State) : (tellOne t o s).terminal.state = s.terminal.state ∧ (tellOne t o s).terminal.holder = s.terminal.holder := by
  simp only [tellOne]
  (repeat' split) <;> simp

@[simp] theorem holds_tellRequester (r : Requester) (s : State) : (tellRequester r s).terminal.state = s.terminal.state ∧ (tellRequester r s).terminal.holder = s.terminal.holder := by
  simp only [tellRequester]
  simp

@[simp] theorem holds_abortMarked (p : PrinterId) (o : OrderId) (marked : List Nat) (s : State) : (abortMarked p o marked s).terminal.state = s.terminal.state ∧ (abortMarked p o marked s).terminal.holder = s.terminal.holder := by
  simp only [abortMarked]
  (repeat' split) <;> simp

@[simp] theorem holds_dropNote (o : OrderId) (marked : List Nat) (s : State) : (dropNote o marked s).terminal.state = s.terminal.state ∧ (dropNote o marked s).terminal.holder = s.terminal.holder := by
  simp only [dropNote]
  simp

@[simp] theorem holds_markEffect (x : OrderId × List Nat) (s : State) : (markEffect x s).terminal.state = s.terminal.state ∧ (markEffect x s).terminal.holder = s.terminal.holder := by
  simp only [markEffect]
  (repeat' split) <;> simp

@[simp] theorem holds_killRasters (a : ApertureId) (s : State) : (killRasters a s).terminal.state = s.terminal.state ∧ (killRasters a s).terminal.holder = s.terminal.holder := by
  simp only [killRasters]
  simp

@[simp] theorem holds_killReads (a : ApertureId) (b : BayId) (s : State) : (killReads a b s).terminal.state = s.terminal.state ∧ (killReads a b s).terminal.holder = s.terminal.holder := by
  simp only [killReads]
  (repeat' split) <;> simp

@[simp] theorem holds_killLoad (a : ApertureId) (s : State) : (killLoad a s).terminal.state = s.terminal.state ∧ (killLoad a s).terminal.holder = s.terminal.holder := by
  simp only [killLoad]
  (repeat' split) <;> simp

@[simp] theorem holds_withdrawUnder (a : ApertureId) (s : State) : (withdrawUnder a s).terminal.state = s.terminal.state ∧ (withdrawUnder a s).terminal.holder = s.terminal.holder := by
  simp only [withdrawUnder]
  simp

@[simp] theorem holds_killAll (a : ApertureId) (s : State) : (killAll a s).terminal.state = s.terminal.state ∧ (killAll a s).terminal.holder = s.terminal.holder := by
  simp only [killAll]
  simp

@[simp] theorem holds_faultAperture (t : Transfer) (cause : FaultCause) (s : State) : (faultAperture t cause s).terminal.state = s.terminal.state ∧ (faultAperture t cause s).terminal.holder = s.terminal.holder := by
  simp only [faultAperture]
  (repeat' split) <;> simp

@[simp] theorem holds_endTransfer (index : Nat) (outcome : TransferOutcome) (s : State) : (endTransfer index outcome s).terminal.state = s.terminal.state ∧ (endTransfer index outcome s).terminal.holder = s.terminal.holder := by
  simp only [endTransfer]
  (repeat' split) <;> simp

@[simp] theorem holds_cancelForClose (o : OrderId) (s : State) : (cancelForClose o s).terminal.state = s.terminal.state ∧ (cancelForClose o s).terminal.holder = s.terminal.holder := by
  simp only [cancelForClose]
  (repeat' split) <;> simp

@[simp] theorem holds_closeEntry (k : SessionId) (i : StationId) (s : State) : (closeEntry k i s).terminal.state = s.terminal.state ∧ (closeEntry k i s).terminal.holder = s.terminal.holder := by
  simp only [closeEntry]
  (repeat' split) <;> simp

@[simp] theorem holds_closeSession (i : StationId) (k : SessionId) (cause : CloseCause) (s : State) : (closeSession i k cause s).terminal.state = s.terminal.state ∧ (closeSession i k cause s).terminal.holder = s.terminal.holder := by
  simp only [closeSession]
  simp

@[simp] theorem holds_takeSlot (n : SlotId) (rest : List SlotId) (s : State) : (takeSlot n rest s).terminal.state = s.terminal.state ∧ (takeSlot n rest s).terminal.holder = s.terminal.holder := by
  simp only [takeSlot]
  simp

@[simp] theorem holds_refuseSlot (n : SlotId) (st : Status) (s : State) : (refuseSlot n st s).terminal.state = s.terminal.state ∧ (refuseSlot n st s).terminal.holder = s.terminal.holder := by
  simp only [refuseSlot]
  simp

@[simp] theorem holds_refuseState (o : OrderId) (n : SlotId) (s : State) : (refuseState o n s).terminal.state = s.terminal.state ∧ (refuseState o n s).terminal.holder = s.terminal.holder := by
  simp only [refuseState]
  simp

@[simp] theorem holds_writeRequest (n : SlotId) (offset : Nat) (data : List Byte) (s : State) : (writeRequest n offset data s).terminal.state = s.terminal.state ∧ (writeRequest n offset data s).terminal.holder = s.terminal.holder := by
  simp only [writeRequest]
  (repeat' split) <;> simp

@[simp] theorem holds_clearAttn (v : W32) (s : State) : (clearAttn v s).terminal.state = s.terminal.state ∧ (clearAttn v s).terminal.holder = s.terminal.holder := ⟨rfl, rfl⟩

@[simp] theorem holds_ackUnit (n : UnitId) (s : State) :
    (ackUnit n s).terminal.state = s.terminal.state ∧ (ackUnit n s).terminal.holder = s.terminal.holder := by
  simp only [ackUnit]
  (repeat' split) <;> simp [ackTerminal]

@[simp] theorem holds_ackUnits (v : W32) (s : State) :
    (ackUnits v s).terminal.state = s.terminal.state ∧ (ackUnits v s).terminal.holder = s.terminal.holder := by
  refine holds_forEach _ (fun n u => ?_) _ s
  split <;> simp

@[simp] theorem holds_misuse (s : State) : (misuse s).terminal.state = s.terminal.state ∧ (misuse s).terminal.holder = s.terminal.holder := ⟨rfl, rfl⟩

@[simp] theorem holds_postSlot (n : SlotId) (s : State) : (postSlot n s).terminal.state = s.terminal.state ∧ (postSlot n s).terminal.holder = s.terminal.holder := by
  simp only [postSlot]
  (repeat' split) <;> simp

@[simp] theorem holds_cancelPosted (n : SlotId) (s : State) : (cancelPosted n s).terminal.state = s.terminal.state ∧ (cancelPosted n s).terminal.holder = s.terminal.holder := by
  simp only [cancelPosted]
  simp

@[simp] theorem holds_cancelRead (n : SlotId) (b : BayId) (s : State) : (cancelRead n b s).terminal.state = s.terminal.state ∧ (cancelRead n b s).terminal.holder = s.terminal.holder := by
  simp only [cancelRead]
  (repeat' split) <;> simp

@[simp] theorem holds_cancelPriceLoad (n : SlotId) (s : State) : (cancelPriceLoad n s).terminal.state = s.terminal.state ∧ (cancelPriceLoad n s).terminal.holder = s.terminal.holder := by
  simp only [cancelPriceLoad]
  (repeat' split) <;> simp

@[simp] theorem holds_releaseSlot (n : SlotId) (s : State) : (releaseSlot n s).terminal.state = s.terminal.state ∧ (releaseSlot n s).terminal.holder = s.terminal.holder := by
  simp only [releaseSlot]
  (repeat' split) <;> simp

@[simp] theorem holds_takeUnknown (s : State) : (takeUnknown s).terminal.state = s.terminal.state ∧ (takeUnknown s).terminal.holder = s.terminal.holder := by
  simp only [takeUnknown]
  (repeat' split) <;> simp

@[simp] theorem holds_openSessionWork (i : StationId) (n : SlotId) (s : State) : (openSessionWork i n s).terminal.state = s.terminal.state ∧ (openSessionWork i n s).terminal.holder = s.terminal.holder := by
  simp only [openSessionWork]
  (repeat' split) <;> simp

@[simp] theorem holds_createOrder (i : StationId) (k : SessionId) (o : OrderId) (s : State) : (createOrder i k o s).terminal.state = s.terminal.state ∧ (createOrder i k o s).terminal.holder = s.terminal.holder := by
  simp only [createOrder]
  simp

@[simp] theorem holds_openOrderWork (i : StationId) (n : SlotId) (s : State) : (openOrderWork i n s).terminal.state = s.terminal.state ∧ (openOrderWork i n s).terminal.holder = s.terminal.holder := by
  simp only [openOrderWork]
  (repeat' split) <;> simp

@[simp] theorem holds_applyEdit (o : OrderId) (f : Order → Order) (s : State) : (applyEdit o f s).terminal.state = s.terminal.state ∧ (applyEdit o f s).terminal.holder = s.terminal.holder := by
  simp only [applyEdit]
  (repeat' split) <;> simp

@[simp] theorem holds_priceOrder (o : OrderId) (prices : FixedPrices) (p : PrinterId) (s : State) : (priceOrder o prices p s).terminal.state = s.terminal.state ∧ (priceOrder o prices p s).terminal.holder = s.terminal.holder := by
  simp only [priceOrder]
  simp

@[simp] theorem holds_quoteWork (o : OrderId) (n : SlotId) (s : State) : (quoteWork o n s).terminal.state = s.terminal.state ∧ (quoteWork o n s).terminal.holder = s.terminal.holder := by
  simp only [quoteWork]
  (repeat' split) <;> simp

@[simp] theorem holds_payNothing (o : OrderId) (s : State) : (payNothing o s).terminal.state = s.terminal.state ∧ (payNothing o s).terminal.holder = s.terminal.holder := by
  simp only [payNothing]
  (repeat' split) <;> simp

@[simp] theorem holds_acceptPay (o : OrderId) (n : SlotId) (s : State) : (acceptPay o n s).terminal.state = s.terminal.state ∧ (acceptPay o n s).terminal.holder = s.terminal.holder := by
  simp only [acceptPay]
  simp

@[simp] theorem holds_retireOrderWork (o : OrderId) (n : SlotId) (s : State) : (retireOrderWork o n s).terminal.state = s.terminal.state ∧ (retireOrderWork o n s).terminal.holder = s.terminal.holder := by
  simp only [retireOrderWork]
  (repeat' split) <;> simp

@[simp] theorem holds_acceptRead (i : StationId) (r : Read) (s : State) : (acceptRead i r s).terminal.state = s.terminal.state ∧ (acceptRead i r s).terminal.holder = s.terminal.holder := by
  simp only [acceptRead]
  (repeat' split) <;> simp

@[simp] theorem holds_readCardWork (i : StationId) (n : SlotId) (s : State) : (readCardWork i n s).terminal.state = s.terminal.state ∧ (readCardWork i n s).terminal.holder = s.terminal.holder := by
  simp only [readCardWork]
  (repeat' split) <;> simp

@[simp] theorem holds_readCardTaken (n : SlotId) (s : State) :
    (readCardTaken n s).terminal.state = s.terminal.state ∧ (readCardTaken n s).terminal.holder = s.terminal.holder := by
  unfold readCardTaken withStation
  split
  · simp
  · split <;> simp

@[simp] theorem holds_closeContact (b : BayId) (s : State) : (closeContact b s).terminal.state = s.terminal.state ∧ (closeContact b s).terminal.holder = s.terminal.holder := by
  simp only [closeContact]
  (repeat' split) <;> simp

@[simp] theorem holds_acceptArrival (b : BayId) (s : State) : (acceptArrival b s).terminal.state = s.terminal.state ∧ (acceptArrival b s).terminal.holder = s.terminal.holder := by
  simp only [acceptArrival]
  simp

@[simp] theorem holds_identityAnswer (b : BayId) (capacity serial : W32) (check : W16) (s : State) : (identityAnswer b capacity serial check s).terminal.state = s.terminal.state ∧ (identityAnswer b capacity serial check s).terminal.holder = s.terminal.holder := by
  simp only [identityAnswer]
  (repeat' split) <;> simp

@[simp] theorem holds_waitTooLong (b : BayId) (s : State) : (waitTooLong b s).terminal.state = s.terminal.state ∧ (waitTooLong b s).terminal.holder = s.terminal.holder := by
  simp only [waitTooLong]
  (repeat' split) <;> simp

@[simp] theorem holds_stallRead (b : BayId) (s : State) : (stallRead b s).terminal.state = s.terminal.state ∧ (stallRead b s).terminal.holder = s.terminal.holder := by
  simp only [stallRead]
  simp

@[simp] theorem holds_acceptLoad (n : SlotId) (tag : W32) (address : Nat) (a : ApertureId) (s : State) : (acceptLoad n tag address a s).terminal.state = s.terminal.state ∧ (acceptLoad n tag address a s).terminal.holder = s.terminal.holder := by
  simp only [acceptLoad]
  simp

@[simp] theorem holds_rewriteAperture (a : ApertureId) (access : Access) (base limit : Nat) (s : State) : (rewriteAperture a access base limit s).terminal.state = s.terminal.state ∧ (rewriteAperture a access base limit s).terminal.holder = s.terminal.holder := by
  simp only [rewriteAperture]
  (repeat' split) <;> simp

@[simp] theorem holds_apertureChecked (a : ApertureId) (n : SlotId) (s : State) : (apertureChecked a n s).terminal.state = s.terminal.state ∧ (apertureChecked a n s).terminal.holder = s.terminal.holder := by
  simp only [apertureChecked]
  (repeat' split) <;> simp

@[simp] theorem holds_setApertureWork (n : SlotId) (s : State) : (setApertureWork n s).terminal.state = s.terminal.state ∧ (setApertureWork n s).terminal.holder = s.terminal.holder := by
  simp only [setApertureWork]
  (repeat' split) <;> simp

@[simp] theorem holds_setTimersWork (n : SlotId) (s : State) : (setTimersWork n s).terminal.state = s.terminal.state ∧ (setTimersWork n s).terminal.holder = s.terminal.holder := by
  simp only [setTimersWork]
  simp

@[simp] theorem holds_shiftCloseWork (n : SlotId) (s : State) : (shiftCloseWork n s).terminal.state = s.terminal.state ∧ (shiftCloseWork n s).terminal.holder = s.terminal.holder := by
  simp only [shiftCloseWork]
  simp

@[simp] theorem holds_resetBay (b : BayId) (s : State) : (resetBay b s).terminal.state = s.terminal.state ∧ (resetBay b s).terminal.holder = s.terminal.holder := by
  simp only [resetBay]
  (repeat' split) <;> simp

@[simp] theorem holds_resetPrinter (p : PrinterId) (s : State) : (resetPrinter p s).terminal.state = s.terminal.state ∧ (resetPrinter p s).terminal.holder = s.terminal.holder := by
  simp only [resetPrinter]
  simp

@[simp] theorem holds_graceExpires (p : PrinterId) (s : State) : (graceExpires p s).terminal.state = s.terminal.state ∧ (graceExpires p s).terminal.holder = s.terminal.holder := by
  simp only [graceExpires]
  simp

@[simp] theorem holds_statusCompletion (p : PrinterId) (f : StatusFrame) (s : State) : (statusCompletion p f s).terminal.state = s.terminal.state ∧ (statusCompletion p f s).terminal.holder = s.terminal.holder := by
  simp only [statusCompletion]
  (repeat' split) <;> simp

@[simp] theorem holds_faultCopy (p : PrinterId) (f : StatusFrame) (s : State) : (faultCopy p f s).terminal.state = s.terminal.state ∧ (faultCopy p f s).terminal.holder = s.terminal.holder := by
  simp only [faultCopy]
  (repeat' split) <;> simp

@[simp] theorem holds_statusState (inService : Bool) (p : PrinterId) (f : StatusFrame) (s : State) : (statusState inService p f s).terminal.state = s.terminal.state ∧ (statusState inService p f s).terminal.holder = s.terminal.holder := by
  simp only [statusState]
  simp

@[simp] theorem holds_statusArrived (p : PrinterId) (f : StatusFrame) (s : State) : (statusArrived p f s).terminal.state = s.terminal.state ∧ (statusArrived p f s).terminal.holder = s.terminal.holder := by
  simp only [statusArrived]
  simp

@[simp] theorem holds_holdCopy (p : PrinterId) (s : State) : (holdCopy p s).terminal.state = s.terminal.state ∧ (holdCopy p s).terminal.holder = s.terminal.holder := by
  simp only [holdCopy]
  (repeat' split) <;> simp

@[simp] theorem holds_resumeCopy (p : PrinterId) (s : State) : (resumeCopy p s).terminal.state = s.terminal.state ∧ (resumeCopy p s).terminal.holder = s.terminal.holder := by
  simp only [resumeCopy]
  (repeat' split) <;> simp

@[simp] theorem holds_copyDone (p : PrinterId) (id : W16) (result consumed : Byte) (s : State) : (copyDone p id result consumed s).terminal.state = s.terminal.state ∧ (copyDone p id result consumed s).terminal.holder = s.terminal.holder := by
  simp only [copyDone]
  (repeat' split) <;> simp

@[simp] theorem holds_linkSilent (p : PrinterId) (s : State) : (linkSilent p s).terminal.state = s.terminal.state ∧ (linkSilent p s).terminal.holder = s.terminal.holder := by
  simp only [linkSilent]
  simp

@[simp] theorem holds_linkLost (p : PrinterId) (s : State) : (linkLost p s).terminal.state = s.terminal.state ∧ (linkLost p s).terminal.holder = s.terminal.holder := by
  simp only [linkLost]
  (repeat' split) <;> simp

@[simp] theorem holds_beginUnanswered (p : PrinterId) (c : Copy) (w : BeginWait) (s : State) : (beginUnanswered p c w s).terminal.state = s.terminal.state ∧ (beginUnanswered p c w s).terminal.holder = s.terminal.holder := by
  simp only [beginUnanswered]
  (repeat' split) <;> simp

@[simp] theorem holds_underrun (p : PrinterId) (n : Nat) (s : State) : (underrun p n s).terminal.state = s.terminal.state ∧ (underrun p n s).terminal.holder = s.terminal.holder := by
  simp only [underrun]
  simp

@[simp] theorem holds_countLate (ref : W16) (s : State) : (countLate ref s).terminal.state = s.terminal.state ∧ (countLate ref s).terminal.holder = s.terminal.holder := by
  simp only [countLate]
  (repeat' split) <;> simp

@[simp] theorem holds_handOverOrder (o : OrderId) (s : State) : (handOverOrder o s).terminal.state = s.terminal.state ∧ (handOverOrder o s).terminal.holder = s.terminal.holder := by
  simp only [handOverOrder]
  (repeat' split) <;> simp

@[simp] theorem holds_readContact (b : BayId) (s : State) : (readContact b s).terminal.state = s.terminal.state ∧ (readContact b s).terminal.holder = s.terminal.holder := by
  simp only [readContact]
  (repeat' split) <;> simp

/-! ## The law of the holder -/

theorem holding_of {s t : State} (h : t.terminal.state = s.terminal.state ∧ t.terminal.holder = s.terminal.holder) (k : HoldingLaw s) :
    HoldingLaw t := by
  unfold HoldingLaw
  rw [h.1, h.2]
  exact k

theorem holding_arbiter (s : State) (h : HoldingLaw s) : HoldingLaw (arbiter s) := by
  unfold arbiter
  split
  · split
    · simp [HoldingLaw, grantSettlement]
    · simp [HoldingLaw, grantVoid]
    · simp [HoldingLaw, grantPay]
    · exact h
  · exact h

theorem holding_settle (b s : State) (h : HoldingLaw s) : HoldingLaw (settle b s) := by
  unfold settle
  refine holding_of (holds_evalAllLamps _) (holding_of (holds_grantLoop _) (holding_arbiter _ (holding_of ?_ h)))
  rw [(holds_beginCheck 1 _).1, (holds_beginCheck 1 _).2, (holds_beginCheck 0 _).1, (holds_beginCheck 0 _).2]
  have e : (releaseBoth (noteChanges b s)).terminal.state = s.terminal.state
      ∧ (releaseBoth (noteChanges b s)).terminal.holder = s.terminal.holder := by
    simp [releaseBoth, noteChanges]
  split <;> simp [e]

theorem holding_endHolding (s : State) : HoldingLaw (endHolding s) := by simp [HoldingLaw, endHolding]

theorem holding_startFollowUp (ref : W16) (amount : Nat) (s : State) : HoldingLaw (startFollowUp ref amount s) := by
  simp [HoldingLaw, startFollowUp]

/-- A holding that goes on with the terminal's state as it was. -/
theorem holding_newHolder {s t : State} (h : Holder) (k : HoldingLaw s) (e : s.terminal.holder.isSome = true)
    (ht : t.terminal.state = s.terminal.state) (hh : t.terminal.holder = some h) : HoldingLaw t := by
  unfold HoldingLaw at *
  rw [ht, hh]
  simpa [e] using k

theorem holder_clearHolder (s : State) : (clearHolder s).terminal.holder = none := rfl

theorem holder_loseHolding (s : State) : (loseHolding s).terminal.holder = none := by
  unfold loseHolding
  split
  · assumption
  · split <;> first | exact holder_clearHolder _ | simp [holder_clearHolder]

/-- Link loss leaves no holder and a terminal that is neither AUTHORIZING nor SETTLING. -/
theorem holding_linkLoss (new : TerminalState) (h : new ≠ .authorizing) (k : new ≠ .settling) (s : State) : HoldingLaw (linkLoss new s) := by
  unfold linkLoss
  refine holding_of (holds_endWaiting _) ?_
  simp [HoldingLaw, holder_loseHolding, h, k]

theorem holding_endSettlement (o : OrderId) (how : SettleStatus) (s : State) : HoldingLaw (endSettlement o how s) := holding_endHolding _

theorem holding_voidAttemptFailed (h : Holder) (s : State) : HoldingLaw (voidAttemptFailed h s) := holding_endHolding _

end Sys2Proof.Machine
end

