-- ==== Sys2Proof/Laws/Memory.lean ====
section
/-! SUPPORT. The laws of a request part's bytes: a write is read back, leaves every other byte alone and keeps the canonical form. -/

namespace Sys2Proof.Machine

theorem Mem.wf_cons (a : Nat) (v : Byte) (l : List Host.Cell) :
    Mem.wf ((a, v) :: l) = true ↔ v ≠ 0#8 ∧ (∀ c ∈ l, a < c.1) ∧ Mem.wf l = true := by
  simp [Mem.wf, and_assoc]

/-- An address below every listed one reads zero. -/
theorem Mem.read_below (l : List Host.Cell) (a : Nat) (h : ∀ c ∈ l, a < c.1) : Mem.read l a = 0 := by
  induction l with
  | nil => rfl
  | cons c rest ih =>
    obtain ⟨b, w⟩ := c
    have hb : a < b := h (b, w) (by simp)
    unfold Mem.read
    rw [if_neg (Nat.ne_of_lt hb)]
    exact ih fun c hc => h c (by simp [hc])

/-- The addresses of a memory after a write: those before, and perhaps the one written. -/
theorem Mem.mem_write (l : List Host.Cell) (a : Nat) (v : Byte) : ∀ c ∈ Mem.write l a v, c ∈ l ∨ c = (a, v) := by
  induction l with
  | nil =>
    intro c hc
    unfold Mem.write at hc
    split at hc <;> simp_all
  | cons d rest ih =>
    obtain ⟨b, w⟩ := d
    intro c hc
    unfold Mem.write at hc
    (repeat' split at hc) <;> simp only [List.mem_cons] at hc ⊢
    all_goals (try have := ih c); grind

/-- A write keeps the canonical form. -/
theorem Mem.write_wf (l : List Host.Cell) (a : Nat) (v : Byte) (h : Mem.wf l = true) : Mem.wf (Mem.write l a v) = true := by
  induction l with
  | nil =>
    unfold Mem.write
    split
    · rfl
    · simp_all [Mem.wf]
  | cons d rest ih =>
    obtain ⟨b, w⟩ := d
    obtain ⟨hw, hb, hr⟩ := (Mem.wf_cons b w rest).1 h
    unfold Mem.write
    split
    · rename_i lt
      split
      · exact h
      · rename_i nz
        refine (Mem.wf_cons _ _ _).2 ⟨nz, ?_, h⟩
        intro c hc
        rcases List.mem_cons.1 hc with e | e
        · subst e; exact lt
        · exact Nat.lt_trans lt (hb c e)
    · split
      · rename_i e
        subst e
        split
        · exact hr
        · rename_i nz
          exact (Mem.wf_cons _ _ _).2 ⟨nz, hb, hr⟩
      · rename_i nl ne
        refine (Mem.wf_cons _ _ _).2 ⟨hw, fun c hc => ?_, ih hr⟩
        rcases Mem.mem_write rest a v c hc with e | e
        · exact hb c e
        · subst e
          exact Nat.lt_of_le_of_ne (Nat.le_of_not_lt nl) fun e => ne e.symm

/-- The byte written is read back, and every other byte reads as before. -/
theorem Mem.read_write (l : List Host.Cell) (a x : Nat) (v : Byte) (h : Mem.wf l = true) :
    Mem.read (Mem.write l a v) x = if x = a then v else Mem.read l x := by
  induction l with
  | nil =>
    unfold Mem.write
    split
    · rename_i e
      subst e
      split <;> rfl
    · rfl
  | cons d rest ih =>
    obtain ⟨b, w⟩ := d
    obtain ⟨hw, hb, hr⟩ := (Mem.wf_cons b w rest).1 h
    unfold Mem.write
    split
    · rename_i lt
      split
      · rename_i e
        split
        · rename_i ex
          subst ex e
          exact Mem.read_below _ _ fun c hc => by
            rcases List.mem_cons.1 hc with e | e
            · subst e; exact lt
            · exact Nat.lt_trans lt (hb c e)
        · rfl
      · rfl
    · split
      · rename_i e
        subst e
        split
        · rename_i e
          subst e
          split
          · rename_i ex
            subst ex
            exact Mem.read_below _ _ hb
          · rename_i ne
            simp [Mem.read, ne]
        · by_cases ex : x = a <;> simp [Mem.read, ex]
      · rename_i nl ne
        by_cases ex : x = b
        · subst ex
          simp [Mem.read, Ne.symm ne]
        · simp [Mem.read, ex, ih hr]

/-- A host write keeps the canonical form. -/
theorem Mem.store_wf (data : List Byte) : ∀ (l : List Host.Cell) (offset : Nat), Mem.wf l = true → Mem.wf (Mem.store l offset data) = true := by
  induction data with
  | nil => intro l _ h; exact h
  | cons b rest ih =>
    intro l offset h
    unfold Mem.store
    apply ih
    split
    · exact Mem.write_wf _ _ _ h
    · exact h

/-- A host write lists no byte outside the request part. -/
theorem Mem.store_bound (data : List Byte) : ∀ (l : List Host.Cell) (offset : Nat), (∀ c ∈ l, c.1 < requestBytes) →
    ∀ c ∈ Mem.store l offset data, c.1 < requestBytes := by
  induction data with
  | nil => intro l _ h; exact h
  | cons b rest ih =>
    intro l offset h
    unfold Mem.store
    apply ih
    intro c hc
    split at hc
    · rename_i lt
      rcases Mem.mem_write _ _ _ c hc with e | e
      · exact h c e
      · subst e; exact lt
    · exact h c hc

/-- The bytes of a host write that lie in the request part are read back; every other byte reads as before. -/
theorem Mem.read_store (data : List Byte) : ∀ (l : List Host.Cell) (offset x : Nat), Mem.wf l = true → x < requestBytes →
    Mem.read (Mem.store l offset data) x =
      if offset ≤ x ∧ x < offset + data.length then data.getD (x - offset) 0 else Mem.read l x := by
  induction data with
  | nil => intro l offset x _ _; exact (if_neg (by simp only [List.length_nil]; omega)).symm
  | cons b rest ih =>
    intro l offset x h hx
    unfold Mem.store
    have hwf : Mem.wf (if offset < requestBytes then Mem.write l offset b else l) = true := by
      split
      · exact Mem.write_wf _ _ _ h
      · exact h
    rw [ih _ _ _ hwf hx]
    by_cases e : x = offset
    · subst e
      have h1 : ¬(x + 1 ≤ x ∧ x < x + 1 + rest.length) := by omega
      have h2 : x ≤ x ∧ x < x + (b :: rest).length := by simp
      rw [if_neg h1, if_pos h2, if_pos hx, Mem.read_write _ _ _ _ h, if_pos rfl]
      simp
    · have hr : Mem.read (if offset < requestBytes then Mem.write l offset b else l) x = Mem.read l x := by
        split
        · rw [Mem.read_write _ _ _ _ h, if_neg e]
        · rfl
      rw [hr]
      by_cases c : offset + 1 ≤ x ∧ x < offset + 1 + rest.length
      · have c' : offset ≤ x ∧ x < offset + (b :: rest).length := by simp; omega
        rw [if_pos c, if_pos c']
        obtain ⟨k, rfl⟩ : ∃ k, x = offset + 1 + k := ⟨x - (offset + 1), by omega⟩
        rw [show offset + 1 + k - offset = k + 1 by omega, show offset + 1 + k - (offset + 1) = k by omega]
        simp
      · have c' : ¬(offset ≤ x ∧ x < offset + (b :: rest).length) := by simp; omega
        rw [if_neg c, if_neg c']

/-- Right after reset no byte is listed: the form holds. -/
theorem reset_requests_wf (n : SlotId) : Mem.wf (State.reset.slot n).request = true := by
  simp [State.slot, State.reset, Slot.reset, Mem.wf]

end Sys2Proof.Machine
end

