-- ==== Sys2Proof/Laws/Port.lean ====
section
/-! SUPPORT. The transfers granted (R156): the arbiter's grants and the end of a transfer change them, no other operation does; and no grant
takes the port past its limit. -/

namespace Sys2Proof.Machine

@[simp] theorem granted_forEach {α : Type} (f : α → State → State) (h : ∀ a s, (f a s).port.granted = s.port.granted) (l : List α) (s : State) :
    (forEach l f s).port.granted = s.port.granted := forEach_keeps (fun s => s.port.granted) f h l s

@[simp] theorem granted_markUnit (s : State) (n : UnitId) : (s.markUnit n).port.granted = s.port.granted := rfl
@[simp] theorem granted_markOrder (s : State) (o : OrderId) : (s.markOrder o).port.granted = s.port.granted := rfl
@[simp] theorem granted_onItem (s : State) (o : OrderId) (i : Nat) (f : Item → Item) : (s.onItem o i f).port.granted = s.port.granted := rfl
@[simp] theorem granted_onCopy (s : State) (p : PrinterId) (f : Copy → Copy) : (s.onCopy p f).port.granted = s.port.granted := rfl
@[simp] theorem granted_onActive (s : State) (b : BayId) (f : Read → Read) : (s.onActive b f).port.granted = s.port.granted := rfl
@[simp] theorem granted_onTill (s : State) (f : Till → Till) : (s.onTill f).port.granted = s.port.granted := rfl

@[simp] theorem granted_present (s : State) (t : Transfer) : (State.present s t).port.granted = s.port.granted := by
  simp only [State.present]
  simp

@[simp] theorem granted_withdraw (s : State) (r : Requester) : (State.withdraw s r).port.granted = s.port.granted := by
  simp only [State.withdraw]
  simp

@[simp] theorem granted_sendMessage (s : State) : (sendMessage s).port.granted = s.port.granted := by
  simp only [sendMessage]
  (repeat' split) <;> simp

@[simp] theorem granted_interruptAfterWrite (s : State) : (interruptAfterWrite s).port.granted = s.port.granted := by
  simp only [interruptAfterWrite]
  (repeat' split) <;> simp

@[simp] theorem granted_interruptOnEdge (before s : State) : (interruptOnEdge before s).port.granted = s.port.granted := by
  simp only [interruptOnEdge]
  (repeat' split) <;> simp

@[simp] theorem granted_markChanges (before s : State) : (markChanges before s).port.granted = s.port.granted := by
  simp only [markChanges]

@[simp] theorem granted_closeEvent (before s : State) : (closeEvent before s).port.granted = s.port.granted := by
  simp only [closeEvent]
  simp

@[simp] theorem granted_complete (n : SlotId) (st : Status) (why : Reason) (body : Body) (s : State) : (complete n st why body s).port.granted = s.port.granted := by
  simp only [complete]
  (repeat' split) <;> simp

@[simp] theorem granted_completeKeeping (n : SlotId) (st : Status) (s : State) : (completeKeeping n st s).port.granted = s.port.granted := by
  simp only [completeKeeping]
  simp

@[simp] theorem granted_advanceProgress (n : SlotId) (s : State) : (advanceProgress n s).port.granted = s.port.granted := by
  simp only [advanceProgress]
  (repeat' split) <;> simp

@[simp] theorem granted_writeBody (n : SlotId) (body : Body) (s : State) : (writeBody n body s).port.granted = s.port.granted := by
  simp only [writeBody]
  (repeat' split) <;> simp

@[simp] theorem granted_evalLamps (i : StationId) (s : State) : (evalLamps i s).port.granted = s.port.granted := by
  simp only [evalLamps]
  simp

@[simp] theorem granted_evalAllLamps (s : State) : (evalAllLamps s).port.granted = s.port.granted := by
  simp only [evalAllLamps]
  simp

@[simp] theorem granted_openSessionAt (i : StationId) (k : SessionId) (s : State) : (openSessionAt i k s).port.granted = s.port.granted := by
  simp only [openSessionAt]
  simp

@[simp] theorem granted_restartSession (k : SessionId) (s : State) : (restartSession k s).port.granted = s.port.granted := by
  simp only [restartSession]
  (repeat' split) <;> simp

@[simp] theorem granted_restartForStation (i : StationId) (s : State) : (restartForStation i s).port.granted = s.port.granted := by
  simp only [restartForStation]
  (repeat' split) <;> simp

@[simp] theorem granted_restartForOrder (o : OrderId) (s : State) : (restartForOrder o s).port.granted = s.port.granted := by
  simp only [restartForOrder]
  (repeat' split) <;> simp

@[simp] theorem granted_clearNoRoom (s : State) : (clearNoRoom s).port.granted = s.port.granted := by
  unfold clearNoRoom
  apply granted_forEach
  intro i t
  split <;> rfl

@[simp] theorem granted_freeEntry (k : SessionId) (s : State) : (freeEntry k s).port.granted = s.port.granted := by
  simp only [freeEntry]
  simp

@[simp] theorem granted_cardArrival (i : StationId) (s : State) : (cardArrival i s).port.granted = s.port.granted := by
  simp only [cardArrival]
  (repeat' split) <;> simp

@[simp] theorem granted_reportFinal (o : OrderId) (s : State) : (reportFinal o s).port.granted = s.port.granted := by
  simp only [reportFinal]
  (repeat' split) <;> simp

@[simp] theorem granted_stopWatch (o : OrderId) (s : State) : (stopWatch o s).port.granted = s.port.granted := by
  simp only [stopWatch]
  (repeat' split) <;> simp

@[simp] theorem granted_restartWatch (o : OrderId) (s : State) : (restartWatch o s).port.granted = s.port.granted := by
  simp only [restartWatch]
  (repeat' split) <;> simp

@[simp] theorem granted_startNotice (i : StationId) (s : State) : (startNotice i s).port.granted = s.port.granted := by
  simp only [startNotice]
  simp

@[simp] theorem granted_leaveQueues (o : OrderId) (s : State) : (leaveQueues o s).port.granted = s.port.granted := by
  simp only [leaveQueues]
  simp

@[simp] theorem granted_joinQueue (o : OrderId) (p : PrinterId) (s : State) : (joinQueue o p s).port.granted = s.port.granted := by
  simp only [joinQueue]
  simp

@[simp] theorem granted_leaveHeld (o : OrderId) (s : State) : (leaveHeld o s).port.granted = s.port.granted := by
  simp only [leaveHeld]

@[simp] theorem granted_markHeldList (s : State) : (markHeldList s).port.granted = s.port.granted := rfl

@[simp] theorem granted_toDraft (o : OrderId) (why : DraftReason) (s : State) : (toDraft o why s).port.granted = s.port.granted := by
  simp only [toDraft]
  simp

@[simp] theorem granted_makePaid (o : OrderId) (p : PrinterId) (s : State) : (makePaid o p s).port.granted = s.port.granted := by
  simp only [makePaid]
  simp

@[simp] theorem granted_enterHeld (o : OrderId) (s : State) : (enterHeld o s).port.granted = s.port.granted := by
  simp only [enterHeld]
  simp

@[simp] theorem granted_placeHeld (o : OrderId) (p : PrinterId) (s : State) : (placeHeld o p s).port.granted = s.port.granted := by
  simp only [placeHeld]
  simp

@[simp] theorem granted_makeCancelled (o : OrderId) (s : State) : (makeCancelled o s).port.granted = s.port.granted := by
  simp only [makeCancelled]
  simp

@[simp] theorem granted_addSettlement (o : OrderId) (attempts : Nat) (s : State) : (addSettlement o attempts s).port.granted = s.port.granted := by
  simp only [addSettlement]
  simp

@[simp] theorem granted_settlementTrigger (o : OrderId) (s : State) : (settlementTrigger o s).port.granted = s.port.granted := by
  simp only [settlementTrigger]
  (repeat' split) <;> simp

@[simp] theorem granted_settlementCheck (o : OrderId) (s : State) : (settlementCheck o s).port.granted = s.port.granted := by
  simp only [settlementCheck]
  (repeat' split) <;> simp

@[simp] theorem granted_closeOrder (o : OrderId) (how : SettleStatus) (s : State) : (closeOrder o how s).port.granted = s.port.granted := by
  simp only [closeOrder]
  (repeat' split) <;> simp

@[simp] theorem granted_dropCopies (o : OrderId) (s : State) : (dropCopies o s).port.granted = s.port.granted := by
  simp only [dropCopies]
  simp

@[simp] theorem granted_copyBegins (o : OrderId) (i : Nat) (s : State) : (copyBegins o i s).port.granted = s.port.granted := by
  simp only [copyBegins]
  simp

@[simp] theorem granted_copyEnded (p : PrinterId) (c : Copy) (result : CopyResult) (s : State) : (copyEnded p c result s).port.granted = s.port.granted := by
  simp only [copyEnded]
  (repeat' split) <;> simp

@[simp] theorem granted_retireOrder (o : OrderId) (s : State) : (retireOrder o s).port.granted = s.port.granted := by
  simp only [retireOrder]
  simp

@[simp] theorem granted_setPrinterState (p : PrinterId) (new : PrinterState) (s : State) : (setPrinterState p new s).port.granted = s.port.granted := by
  simp only [setPrinterState]
  (repeat' split) <;> simp

@[simp] theorem granted_enterService (p : PrinterId) (s : State) : (enterService p s).port.granted = s.port.granted := by
  simp only [enterService]
  simp

@[simp] theorem granted_abortCopy (p : PrinterId) (cause : CopyResult) (s : State) : (abortCopy p cause s).port.granted = s.port.granted := by
  simp only [abortCopy]
  (repeat' split) <;> simp

@[simp] theorem granted_endCopy (p : PrinterId) (result : CopyResult) (consumed : Nat) (s : State) : (endCopy p result consumed s).port.granted = s.port.granted := by
  simp only [endCopy]
  (repeat' split) <;> simp

@[simp] theorem granted_endCopyFull (p : PrinterId) (result : CopyResult) (s : State) : (endCopyFull p result s).port.granted = s.port.granted := by
  simp only [endCopyFull]
  simp

@[simp] theorem granted_beginCopy (p : PrinterId) (o : OrderId) (i : Nat) (item : Item) (s : State) : (beginCopy p o i item s).port.granted = s.port.granted := by
  simp only [beginCopy]
  (repeat' split) <;> simp

@[simp] theorem granted_beginCheck (p : PrinterId) (s : State) : (beginCheck p s).port.granted = s.port.granted := by
  simp only [beginCheck]
  (repeat' split) <;> simp

@[simp] theorem granted_trySend (p : PrinterId) (s : State) : (trySend p s).port.granted = s.port.granted := by
  simp only [trySend]
  (repeat' split) <;> simp

@[simp] theorem granted_newStripe (p : PrinterId) (n : Nat) (s : State) : (newStripe p n s).port.granted = s.port.granted := by
  simp only [newStripe]
  (repeat' split) <;> simp

@[simp] theorem granted_nextStripe (p : PrinterId) (n : Nat) (s : State) : (nextStripe p n s).port.granted = s.port.granted := by
  simp only [nextStripe]
  (repeat' split) <;> simp

@[simp] theorem granted_stripeArrived (p : PrinterId) (copyId : W16) (n : Nat) (side : Target) (last : Bool) (data : List Byte) (s : State) : (stripeArrived p copyId n side last data s).port.granted = s.port.granted := by
  simp only [stripeArrived]
  (repeat' split) <;> simp

@[simp] theorem granted_stripeFailed (p : PrinterId) (copyId : W16) (n : Nat) (side : Target) (s : State) : (stripeFailed p copyId n side s).port.granted = s.port.granted := by
  simp only [stripeFailed]
  (repeat' split) <;> simp

@[simp] theorem granted_frameSent (p : PrinterId) (s : State) : (frameSent p s).port.granted = s.port.granted := by
  simp only [frameSent]
  (repeat' split) <;> simp

@[simp] theorem granted_heard (p : PrinterId) (s : State) : (heard p s).port.granted = s.port.granted := by
  simp only [heard]
  simp

@[simp] theorem granted_linkHeard (p : PrinterId) (s : State) : (linkHeard p s).port.granted = s.port.granted := by
  simp only [linkHeard]
  simp

theorem granted_goodFrame (p : PrinterId) (f : State → State) (h : ∀ t, (f t).port.granted = t.port.granted) (s : State) :
    (goodFrame p f s).port.granted = s.port.granted := by
  unfold goodFrame
  split <;> simp [h]

@[simp] theorem granted_countStray (p : PrinterId) (s : State) : (countStray p s).port.granted = s.port.granted := by
  simp only [countStray]
  simp

@[simp] theorem granted_releaseOrder (p : PrinterId) (o : OrderId) (s : State) : (releaseOrder p o s).port.granted = s.port.granted := by
  simp only [releaseOrder]
  (repeat' split) <;> simp

@[simp] theorem granted_releaseStep (p : PrinterId) (o : OrderId) (s : State) : (releaseStep p o s).port.granted = s.port.granted := by
  simp only [releaseStep]
  (repeat' split) <;> simp

@[simp] theorem granted_releaseCopy (p : PrinterId) (s : State) : (releaseCopy p s).port.granted = s.port.granted := by
  simp only [releaseCopy]
  (repeat' split) <;> simp

@[simp] theorem granted_release (p : PrinterId) (s : State) : (release p s).port.granted = s.port.granted := by
  simp only [release]
  simp

@[simp] theorem granted_scanStep (o : OrderId) (s : State) : (scanStep o s).port.granted = s.port.granted := by
  simp only [scanStep]
  (repeat' split) <;> simp

@[simp] theorem granted_scanHeld (s : State) : (scanHeld s).port.granted = s.port.granted := by
  simp only [scanHeld]
  simp

@[simp] theorem granted_placeQuoted (o : OrderId) (p : PrinterId) (s : State) : (placeQuoted o p s).port.granted = s.port.granted := by
  simp only [placeQuoted]
  simp

@[simp] theorem granted_countApproval (amount : Nat) (s : State) : (countApproval amount s).port.granted = s.port.granted := by
  simp only [countApproval]
  simp

@[simp] theorem granted_countCapture (amount : Nat) (s : State) : (countCapture amount s).port.granted = s.port.granted := by
  simp only [countCapture]
  simp

@[simp] theorem granted_countVoid (amount : Nat) (s : State) : (countVoid amount s).port.granted = s.port.granted := by
  simp only [countVoid]
  simp

@[simp] theorem granted_countUncollected (h : Holder) (s : State) : (countUncollected h s).port.granted = s.port.granted := by
  simp only [countUncollected]
  simp

@[simp] theorem granted_countAbandoned (amount : Nat) (s : State) : (countAbandoned amount s).port.granted = s.port.granted := by
  simp only [countAbandoned]
  simp

@[simp] theorem granted_leaveVoidList (ref : W16) (s : State) : (leaveVoidList ref s).port.granted = s.port.granted := by
  simp only [leaveVoidList]
  simp

@[simp] theorem granted_dropOldestVoid (s : State) : (dropOldestVoid s).port.granted = s.port.granted := by
  simp only [dropOldestVoid]
  (repeat' split) <;> simp

@[simp] theorem granted_joinVoid (ref : W16) (amount attempts : Nat) (s : State) : (joinVoid ref amount attempts s).port.granted = s.port.granted := by
  simp only [joinVoid]
  (repeat' split) <;> simp

@[simp] theorem granted_grantPay (e : PayEntry) (s : State) : (grantPay e s).port.granted = s.port.granted := by
  simp only [grantPay]
  simp

@[simp] theorem granted_grantSettlement (e : PendingSettlement) (s : State) : (grantSettlement e s).port.granted = s.port.granted := by
  simp only [grantSettlement]
  (repeat' split) <;> simp

@[simp] theorem granted_grantVoid (e : VoidEntry) (s : State) : (grantVoid e s).port.granted = s.port.granted := by
  simp only [grantVoid]
  simp

@[simp] theorem granted_arbiter (s : State) : (arbiter s).port.granted = s.port.granted := by
  simp only [arbiter]
  (repeat' split) <;> simp

@[simp] theorem granted_approveOrder (o : OrderId) (code : List Byte) (s : State) : (approveOrder o code s).port.granted = s.port.granted := by
  simp only [approveOrder]
  (repeat' split) <;> simp

@[simp] theorem granted_failOrder (o : OrderId) (outcome : PayOutcome) (s : State) : (failOrder o outcome s).port.granted = s.port.granted := by
  simp only [failOrder]
  (repeat' split) <;> simp

@[simp] theorem granted_reportPayEnd (o : OrderId) (outcome : PayOutcome) (s : State) : (reportPayEnd o outcome s).port.granted = s.port.granted := by
  simp only [reportPayEnd]
  (repeat' split) <;> simp

@[simp] theorem granted_endPay (n : SlotId) (o : OrderId) (outcome : PayOutcome) (approved : Option Nat) (code : Option (List Byte)) (reason : Option Byte) (s : State) : (endPay n o outcome approved code reason s).port.granted = s.port.granted := by
  simp only [endPay]
  (repeat' split) <;> simp

@[simp] theorem granted_endHolding (s : State) : (endHolding s).port.granted = s.port.granted := by
  simp only [endHolding]
  simp

@[simp] theorem granted_clearHolder (s : State) : (clearHolder s).port.granted = s.port.granted := by
  simp only [clearHolder]
  simp

@[simp] theorem granted_startFollowUp (ref : W16) (amount : Nat) (s : State) : (startFollowUp ref amount s).port.granted = s.port.granted := by
  simp only [startFollowUp]
  simp

@[simp] theorem granted_loseAuthorization (h : Holder) (n : SlotId) (o : OrderId) (s : State) : (loseAuthorization h n o s).port.granted = s.port.granted := by
  simp only [loseAuthorization]
  simp

@[simp] theorem granted_abandonAuthorization (h : Holder) (n : SlotId) (o : OrderId) (s : State) : (abandonAuthorization h n o s).port.granted = s.port.granted := by
  simp only [abandonAuthorization]
  simp

@[simp] theorem granted_loseHolding (s : State) : (loseHolding s).port.granted = s.port.granted := by
  simp only [loseHolding]
  (repeat' split) <;> simp

@[simp] theorem granted_endWaiting (s : State) : (endWaiting s).port.granted = s.port.granted := by
  simp only [endWaiting]
  simp

@[simp] theorem granted_linkLoss (new : TerminalState) (s : State) : (linkLoss new s).port.granted = s.port.granted := by
  simp only [linkLoss]
  simp

@[simp] theorem granted_endSettlement (o : OrderId) (how : SettleStatus) (s : State) : (endSettlement o how s).port.granted = s.port.granted := by
  simp only [endSettlement]
  simp

@[simp] theorem granted_voidAttemptFailed (h : Holder) (s : State) : (voidAttemptFailed h s).port.granted = s.port.granted := by
  simp only [voidAttemptFailed]
  (repeat' split) <;> simp

@[simp] theorem granted_terminalStray (s : State) : (terminalStray s).port.granted = s.port.granted := by
  simp only [terminalStray]
  simp

@[simp] theorem granted_terminalHeard (s : State) : (terminalHeard s).port.granted = s.port.granted := by
  simp only [terminalHeard]
  (repeat' split) <;> simp

@[simp] theorem granted_syncRead (b : BayId) (s : State) : (syncRead b s).port.granted = s.port.granted := by
  simp only [syncRead]
  (repeat' split) <;> simp

@[simp] theorem granted_recordRead (b : BayId) (n : SlotId) (st : Status) (s : State) : (recordRead b n st s).port.granted = s.port.granted := by
  simp only [recordRead]
  (repeat' split) <;> simp

@[simp] theorem granted_activateNext (b : BayId) (s : State) : (activateNext b s).port.granted = s.port.granted := by
  simp only [activateNext]
  (repeat' split) <;> simp

@[simp] theorem granted_queueMovesOn (b : BayId) (s : State) : (queueMovesOn b s).port.granted = s.port.granted := by
  simp only [queueMovesOn]
  (repeat' split) <;> simp

@[simp] theorem granted_finishRead (b : BayId) (r : Read) (st : Status) (s : State) : (finishRead b r st s).port.granted = s.port.granted := by
  simp only [finishRead]
  simp

@[simp] theorem granted_finishEnded (b : BayId) (s : State) : (finishEnded b s).port.granted = s.port.granted := by
  simp only [finishEnded]
  (repeat' split) <;> simp

@[simp] theorem granted_startWait (b : BayId) (s : State) : (startWait b s).port.granted = s.port.granted := by
  simp only [startWait]
  simp

@[simp] theorem granted_requestWrite (b : BayId) (s : State) : (requestWrite b s).port.granted = s.port.granted := by
  simp only [requestWrite]
  (repeat' split) <;> simp

@[simp] theorem granted_restartClock (b : BayId) (s : State) : (restartClock b s).port.granted = s.port.granted := by
  simp only [restartClock]
  simp

@[simp] theorem granted_restartRun (b : BayId) (s : State) : (restartRun b s).port.granted = s.port.granted := by
  simp only [restartRun]
  (repeat' split) <;> simp

@[simp] theorem granted_bayAdvance (b : BayId) (s : State) : (bayAdvance b s).port.granted = s.port.granted := by
  simp only [bayAdvance]
  (repeat' split) <;> simp

@[simp] theorem granted_windDown (b : BayId) (cause : EndCause) (s : State) : (windDown b cause s).port.granted = s.port.granted := by
  simp only [windDown]
  (repeat' split) <;> simp

@[simp] theorem granted_endAtBoundary (b : BayId) (cause : EndCause) (s : State) : (endAtBoundary b cause s).port.granted = s.port.granted := by
  simp only [endAtBoundary]
  (repeat' split) <;> simp

@[simp] theorem granted_endAtOnce (b : BayId) (cause : EndCause) (s : State) : (endAtOnce b cause s).port.granted = s.port.granted := by
  simp only [endAtOnce]
  (repeat' split) <;> simp

@[simp] theorem granted_endWaitingRead (b : BayId) (cause : EndCause) (r : Read) (s : State) : (endWaitingRead b cause r s).port.granted = s.port.granted := by
  simp only [endWaitingRead]
  simp

@[simp] theorem granted_endWaitingReads (b : BayId) (cause : EndCause) (s : State) : (endWaitingReads b cause s).port.granted = s.port.granted := by
  simp only [endWaitingReads]
  simp

@[simp] theorem granted_closeReads (b : BayId) (s : State) : (closeReads b s).port.granted = s.port.granted := by
  simp only [closeReads]
  simp

@[simp] theorem granted_acceptBlock (b : BayId) (r : Read) (data : List Byte) (s : State) : (acceptBlock b r data s).port.granted = s.port.granted := by
  simp only [acceptBlock]
  (repeat' split) <;> simp

@[simp] theorem granted_countRetry (b : BayId) (s : State) : (countRetry b s).port.granted = s.port.granted := by
  simp only [countRetry]
  simp

@[simp] theorem granted_blockFailed (b : BayId) (r : Read) (s : State) : (blockFailed b r s).port.granted = s.port.granted := by
  simp only [blockFailed]
  (repeat' split) <;> simp

@[simp] theorem granted_blockEnd (b : BayId) (r : Read) (good : Option (List Byte)) (s : State) : (blockEnd b r good s).port.granted = s.port.granted := by
  simp only [blockEnd]
  (repeat' split) <;> simp

@[simp] theorem granted_halfWritten (b : BayId) (h : Fin 2) (blocks : Nat) (s : State) : (halfWritten b h blocks s).port.granted = s.port.granted := by
  simp only [halfWritten]
  (repeat' split) <;> simp

@[simp] theorem granted_halfFailed (b : BayId) (h : Fin 2) (s : State) : (halfFailed b h s).port.granted = s.port.granted := by
  simp only [halfFailed]
  simp

@[simp] theorem granted_giveBackBuffer (b : BayId) (r : Read) (s : State) : (giveBackBuffer b r s).port.granted = s.port.granted := by
  simp only [giveBackBuffer]
  simp

@[simp] theorem granted_startSettling (b : BayId) (s : State) : (startSettling b s).port.granted = s.port.granted := by
  simp only [startSettling]
  simp

@[simp] theorem granted_removeCard (b : BayId) (s : State) : (removeCard b s).port.granted = s.port.granted := by
  simp only [removeCard]
  (repeat' split) <;> simp

@[simp] theorem granted_sendIdentify (b : BayId) (s : State) : (sendIdentify b s).port.granted = s.port.granted := by
  simp only [sendIdentify]
  simp

@[simp] theorem granted_identifyFailed (b : BayId) (s : State) : (identifyFailed b s).port.granted = s.port.granted := by
  simp only [identifyFailed]
  (repeat' split) <;> simp

@[simp] theorem granted_endLoad (l : Load) (outcome : LoadOutcome) (st : Status) (failure : Option (Nat × Violation)) (body : Body) (s : State) : (endLoad l outcome st failure body s).port.granted = s.port.granted := by
  simp only [endLoad]
  simp

@[simp] theorem granted_faultLoad (l : Load) (s : State) : (faultLoad l s).port.granted = s.port.granted := by
  simp only [faultLoad]
  simp

@[simp] theorem granted_installTable (t : PriceTable) (s : State) : (installTable t s).port.granted = s.port.granted := by
  simp only [installTable]
  simp

@[simp] theorem granted_judgeImage (l : Load) (image : List Byte) (s : State) : (judgeImage l image s).port.granted = s.port.granted := by
  simp only [judgeImage]
  (repeat' split) <;> simp

@[simp] theorem granted_imageArrived (image : List Byte) (s : State) : (imageArrived image s).port.granted = s.port.granted := by
  simp only [imageArrived]
  (repeat' split) <;> simp

@[simp] theorem granted_imageFailed (s : State) : (imageFailed s).port.granted = s.port.granted := by
  simp only [imageFailed]
  (repeat' split) <;> simp

@[simp] theorem granted_cancelLoad (l : Load) (s : State) : (cancelLoad l s).port.granted = s.port.granted := by
  simp only [cancelLoad]
  (repeat' split) <;> simp

@[simp] theorem granted_grantNote (t : Transfer) (s : State) : (grantNote t s).port.granted = s.port.granted := by
  simp only [grantNote]
  (repeat' split) <;> simp

@[simp] theorem granted_sendTransfer (t : Transfer) (s : State) : (sendTransfer t s).port.granted = s.port.granted := by
  simp only [sendTransfer]
  (repeat' split) <;> simp

@[simp] theorem granted_tellOne (t : Transfer) (o : TransferOutcome) (s : State) : (tellOne t o s).port.granted = s.port.granted := by
  simp only [tellOne]
  (repeat' split) <;> simp

@[simp] theorem granted_abortMarked (p : PrinterId) (o : OrderId) (marked : List Nat) (s : State) : (abortMarked p o marked s).port.granted = s.port.granted := by
  simp only [abortMarked]
  (repeat' split) <;> simp

@[simp] theorem granted_dropNote (o : OrderId) (marked : List Nat) (s : State) : (dropNote o marked s).port.granted = s.port.granted := by
  simp only [dropNote]
  simp

@[simp] theorem granted_markEffect (x : OrderId × List Nat) (s : State) : (markEffect x s).port.granted = s.port.granted := by
  simp only [markEffect]
  (repeat' split) <;> simp

@[simp] theorem granted_killRasters (a : ApertureId) (s : State) : (killRasters a s).port.granted = s.port.granted := by
  simp only [killRasters]
  simp

@[simp] theorem granted_killReads (a : ApertureId) (b : BayId) (s : State) : (killReads a b s).port.granted = s.port.granted := by
  simp only [killReads]
  (repeat' split) <;> simp

@[simp] theorem granted_killLoad (a : ApertureId) (s : State) : (killLoad a s).port.granted = s.port.granted := by
  simp only [killLoad]
  (repeat' split) <;> simp

@[simp] theorem granted_withdrawUnder (a : ApertureId) (s : State) : (withdrawUnder a s).port.granted = s.port.granted := by
  simp only [withdrawUnder]
  simp

@[simp] theorem granted_killAll (a : ApertureId) (s : State) : (killAll a s).port.granted = s.port.granted := by
  simp only [killAll]
  simp

@[simp] theorem granted_faultAperture (t : Transfer) (cause : FaultCause) (s : State) : (faultAperture t cause s).port.granted = s.port.granted := by
  simp only [faultAperture]
  (repeat' split) <;> simp

/-! ## The limit -/

theorem busy_of_granted {s t : State} (h : t.port.granted = s.port.granted) : busyTransfers t = busyTransfers s := by simp [busyTransfers, h]

theorem within_of_granted {s t : State} (h : t.port.granted = s.port.granted) (k : PortWithinLimit s) : PortWithinLimit t := by
  unfold PortWithinLimit
  rw [busy_of_granted h]
  exact k

@[simp] theorem granted_grantNote' (t : Transfer) (s : State) : (sendTransfer t (grantNote t s)).port.granted = s.port.granted := by simp

/-- A grant puts one transfer in progress. -/
theorem busy_grantTo (i : Fin 7) (s : State) : busyTransfers (grantTo i s) ≤ busyTransfers s + 1 := by
  unfold grantTo
  split
  · exact Nat.le_succ _
  · rw [busy_of_granted (granted_grantNote' _ _)]
    simp only [busyTransfers, port_onPort, List.filter_append, List.length_append]
    exact Nat.add_le_add_left (List.length_filter_le _ _) _

/-- No grant takes the port past its limit. -/
theorem within_grantOne (s : State) (h : PortWithinLimit s) : PortWithinLimit (grantOne s) := by
  unfold grantOne
  split
  · rename_i lt
    split
    · exact Nat.le_trans (busy_grantTo _ _) lt
    · exact h
  · exact h

theorem within_grantLoop (s : State) (h : PortWithinLimit s) : PortWithinLimit (grantLoop s) :=
  within_grantOne _ (within_grantOne _ (within_grantOne _ (within_grantOne _ h)))

/-- Settling keeps the port within its limit. -/
theorem within_settle (b s : State) (h : PortWithinLimit s) : PortWithinLimit (settle b s) := by
  unfold settle
  refine within_of_granted (granted_evalAllLamps _) (within_grantLoop _ ?_)
  refine within_of_granted ?_ h
  rw [granted_arbiter, granted_beginCheck, granted_beginCheck]
  have e : (releaseBoth (noteChanges b s)).port.granted = s.port.granted := by
    simp [releaseBoth, noteChanges]
  split <;> simp [e]

theorem busy_dropTold (r : Requester) (l : List Granted) : ((dropTold r l).filter inProgress).length = (l.filter inProgress).length := by
  induction l with
  | nil => rfl
  | cons g rest ih =>
    unfold dropTold
    split
    · split
      · rename_i h
        rw [ih]
        simp [inProgress, h]
      · rfl
    · simp only [List.filter_cons]
      split
      · simp [ih]
      · exact ih

theorem granted_tellRequester (r : Requester) (s : State) : (tellRequester r s).port.granted = dropTold r s.port.granted := by
  unfold tellRequester
  rw [granted_forEach _ fun x t => granted_tellOne _ _ _]
  rfl

theorem busy_ended (index : Nat) (o : TransferOutcome) (l : List Granted) :
    ((l.modify index fun g => { g with timer := .stopped, outcome := some o }).filter inProgress).length ≤ (l.filter inProgress).length := by
  induction l generalizing index with
  | nil => cases index <;> simp
  | cons g rest ih =>
    cases index with
    | zero => simp [List.modify_cons, List.filter_cons, inProgress]; split <;> simp
    | succ k =>
      rw [List.modify_succ_cons, List.filter_cons, List.filter_cons]
      split
      · simpa using ih k
      · exact ih k

/-- The end of a transfer puts none in progress. -/
theorem within_endTransfer (index : Nat) (o : TransferOutcome) (s : State) (h : PortWithinLimit s) : PortWithinLimit (endTransfer index o s) := by
  unfold endTransfer
  split
  · exact h
  · split
    · exact h
    · rename_i g _ _
      unfold PortWithinLimit busyTransfers
      rw [granted_tellRequester, busy_dropTold]
      refine Nat.le_trans ?_ h
      cases o with
      | done d => exact busy_ended index _ _
      | error c => simp only [granted_faultAperture]; exact busy_ended index _ _

@[simp] theorem granted_cancelForClose (o : OrderId) (s : State) : (cancelForClose o s).port.granted = s.port.granted := by
  simp only [cancelForClose]
  (repeat' split) <;> simp

@[simp] theorem granted_closeEntry (k : SessionId) (i : StationId) (s : State) : (closeEntry k i s).port.granted = s.port.granted := by
  simp only [closeEntry]
  (repeat' split) <;> simp

@[simp] theorem granted_closeSession (i : StationId) (k : SessionId) (cause : CloseCause) (s : State) : (closeSession i k cause s).port.granted = s.port.granted := by
  simp only [closeSession]
  simp

@[simp] theorem granted_takeSlot (n : SlotId) (rest : List SlotId) (s : State) : (takeSlot n rest s).port.granted = s.port.granted := by
  simp only [takeSlot]
  simp

@[simp] theorem granted_refuseSlot (n : SlotId) (st : Status) (s : State) : (refuseSlot n st s).port.granted = s.port.granted := by
  simp only [refuseSlot]
  simp

@[simp] theorem granted_refuseState (o : OrderId) (n : SlotId) (s : State) : (refuseState o n s).port.granted = s.port.granted := by
  simp only [refuseState]
  simp

@[simp] theorem granted_writeRequest (n : SlotId) (offset : Nat) (data : List Byte) (s : State) : (writeRequest n offset data s).port.granted = s.port.granted := by
  simp only [writeRequest]
  (repeat' split) <;> simp

@[simp] theorem granted_clearAttn (v : W32) (s : State) : (clearAttn v s).port.granted = s.port.granted := by
  simp only [clearAttn]

@[simp] theorem granted_ackUnit (n : UnitId) (s : State) : (ackUnit n s).port.granted = s.port.granted := by
  simp only [ackUnit]
  (repeat' split) <;> simp

@[simp] theorem granted_ackUnits (v : W32) (s : State) : (ackUnits v s).port.granted = s.port.granted := by
  refine granted_forEach _ (fun n u => ?_) _ s
  split <;> simp

@[simp] theorem granted_misuse (s : State) : (misuse s).port.granted = s.port.granted := by
  simp only [misuse]

@[simp] theorem granted_postSlot (n : SlotId) (s : State) : (postSlot n s).port.granted = s.port.granted := by
  simp only [postSlot]
  (repeat' split) <;> simp

@[simp] theorem granted_cancelPosted (n : SlotId) (s : State) : (cancelPosted n s).port.granted = s.port.granted := by
  simp only [cancelPosted]
  simp

@[simp] theorem granted_abortExchange (h : Holder) (s : State) : (abortExchange h s).port.granted = s.port.granted := by
  simp only [abortExchange]
  simp

@[simp] theorem granted_cancelPay (n : SlotId) (s : State) : (cancelPay n s).port.granted = s.port.granted := by
  simp only [cancelPay]
  (repeat' split) <;> simp

@[simp] theorem granted_cancelRead (n : SlotId) (b : BayId) (s : State) : (cancelRead n b s).port.granted = s.port.granted := by
  simp only [cancelRead]
  (repeat' split) <;> simp

@[simp] theorem granted_cancelPriceLoad (n : SlotId) (s : State) : (cancelPriceLoad n s).port.granted = s.port.granted := by
  simp only [cancelPriceLoad]
  (repeat' split) <;> simp

@[simp] theorem granted_cancelTaken (n : SlotId) (s : State) : (cancelTaken n s).port.granted = s.port.granted := by
  simp only [cancelTaken]
  simp

@[simp] theorem granted_releaseSlot (n : SlotId) (s : State) : (releaseSlot n s).port.granted = s.port.granted := by
  simp only [releaseSlot]
  (repeat' split) <;> simp

@[simp] theorem granted_takeUnknown (s : State) : (takeUnknown s).port.granted = s.port.granted := by
  simp only [takeUnknown]
  (repeat' split) <;> simp

@[simp] theorem granted_openSessionWork (i : StationId) (n : SlotId) (s : State) : (openSessionWork i n s).port.granted = s.port.granted := by
  simp only [openSessionWork]
  (repeat' split) <;> simp

@[simp] theorem granted_createOrder (i : StationId) (k : SessionId) (o : OrderId) (s : State) : (createOrder i k o s).port.granted = s.port.granted := by
  simp only [createOrder]
  simp

@[simp] theorem granted_openOrderWork (i : StationId) (n : SlotId) (s : State) : (openOrderWork i n s).port.granted = s.port.granted := by
  simp only [openOrderWork]
  (repeat' split) <;> simp

@[simp] theorem granted_applyEdit (o : OrderId) (f : Order → Order) (s : State) : (applyEdit o f s).port.granted = s.port.granted := by
  simp only [applyEdit]
  (repeat' split) <;> simp

@[simp] theorem granted_priceOrder (o : OrderId) (prices : FixedPrices) (p : PrinterId) (s : State) : (priceOrder o prices p s).port.granted = s.port.granted := by
  simp only [priceOrder]
  simp

@[simp] theorem granted_quoteWork (o : OrderId) (n : SlotId) (s : State) : (quoteWork o n s).port.granted = s.port.granted := by
  simp only [quoteWork]
  (repeat' split) <;> simp

@[simp] theorem granted_payNothing (o : OrderId) (s : State) : (payNothing o s).port.granted = s.port.granted := by
  simp only [payNothing]
  (repeat' split) <;> simp

@[simp] theorem granted_acceptPay (o : OrderId) (n : SlotId) (s : State) : (acceptPay o n s).port.granted = s.port.granted := by
  simp only [acceptPay]
  simp

@[simp] theorem granted_retireOrderWork (o : OrderId) (n : SlotId) (s : State) : (retireOrderWork o n s).port.granted = s.port.granted := by
  simp only [retireOrderWork]
  (repeat' split) <;> simp

@[simp] theorem granted_acceptRead (i : StationId) (r : Read) (s : State) : (acceptRead i r s).port.granted = s.port.granted := by
  simp only [acceptRead]
  (repeat' split) <;> simp

@[simp] theorem granted_readCardWork (i : StationId) (n : SlotId) (s : State) : (readCardWork i n s).port.granted = s.port.granted := by
  simp only [readCardWork]
  (repeat' split) <;> simp

@[simp] theorem granted_readCardTaken (n : SlotId) (s : State) : (readCardTaken n s).port.granted = s.port.granted := by
  unfold readCardTaken withStation
  split
  · simp
  · split <;> simp

@[simp] theorem granted_closeContact (b : BayId) (s : State) : (closeContact b s).port.granted = s.port.granted := by
  simp only [closeContact]
  (repeat' split) <;> simp

@[simp] theorem granted_acceptArrival (b : BayId) (s : State) : (acceptArrival b s).port.granted = s.port.granted := by
  simp only [acceptArrival]
  simp

@[simp] theorem granted_identityAnswer (b : BayId) (capacity serial : W32) (check : W16) (s : State) : (identityAnswer b capacity serial check s).port.granted = s.port.granted := by
  simp only [identityAnswer]
  (repeat' split) <;> simp

@[simp] theorem granted_waitTooLong (b : BayId) (s : State) : (waitTooLong b s).port.granted = s.port.granted := by
  simp only [waitTooLong]
  (repeat' split) <;> simp

@[simp] theorem granted_stallRead (b : BayId) (s : State) : (stallRead b s).port.granted = s.port.granted := by
  simp only [stallRead]
  simp

@[simp] theorem granted_acceptLoad (n : SlotId) (tag : W32) (address : Nat) (a : ApertureId) (s : State) : (acceptLoad n tag address a s).port.granted = s.port.granted := by
  simp only [acceptLoad]
  simp

@[simp] theorem granted_rewriteAperture (a : ApertureId) (access : Access) (base limit : Nat) (s : State) : (rewriteAperture a access base limit s).port.granted = s.port.granted := by
  simp only [rewriteAperture]
  (repeat' split) <;> simp

@[simp] theorem granted_apertureChecked (a : ApertureId) (n : SlotId) (s : State) : (apertureChecked a n s).port.granted = s.port.granted := by
  simp only [apertureChecked]
  (repeat' split) <;> simp

@[simp] theorem granted_setApertureWork (n : SlotId) (s : State) : (setApertureWork n s).port.granted = s.port.granted := by
  simp only [setApertureWork]
  (repeat' split) <;> simp

@[simp] theorem granted_setTimersWork (n : SlotId) (s : State) : (setTimersWork n s).port.granted = s.port.granted := by
  simp only [setTimersWork]
  simp

@[simp] theorem granted_shiftCloseWork (n : SlotId) (s : State) : (shiftCloseWork n s).port.granted = s.port.granted := by
  simp only [shiftCloseWork]
  simp

@[simp] theorem granted_resetBay (b : BayId) (s : State) : (resetBay b s).port.granted = s.port.granted := by
  simp only [resetBay]
  (repeat' split) <;> simp

@[simp] theorem granted_resetPrinter (p : PrinterId) (s : State) : (resetPrinter p s).port.granted = s.port.granted := by
  simp only [resetPrinter]
  simp

@[simp] theorem granted_resetTerminal (s : State) : (resetTerminal s).port.granted = s.port.granted := by
  simp only [resetTerminal]
  simp

@[simp] theorem granted_graceExpires (p : PrinterId) (s : State) : (graceExpires p s).port.granted = s.port.granted := by
  simp only [graceExpires]
  simp

@[simp] theorem granted_statusCompletion (p : PrinterId) (f : StatusFrame) (s : State) : (statusCompletion p f s).port.granted = s.port.granted := by
  simp only [statusCompletion]
  (repeat' split) <;> simp

@[simp] theorem granted_faultCopy (p : PrinterId) (f : StatusFrame) (s : State) : (faultCopy p f s).port.granted = s.port.granted := by
  simp only [faultCopy]
  (repeat' split) <;> simp

@[simp] theorem granted_statusState (inService : Bool) (p : PrinterId) (f : StatusFrame) (s : State) : (statusState inService p f s).port.granted = s.port.granted := by
  simp only [statusState]
  simp

@[simp] theorem granted_statusArrived (p : PrinterId) (f : StatusFrame) (s : State) : (statusArrived p f s).port.granted = s.port.granted := by
  simp only [statusArrived]
  simp

@[simp] theorem granted_holdCopy (p : PrinterId) (s : State) : (holdCopy p s).port.granted = s.port.granted := by
  simp only [holdCopy]
  (repeat' split) <;> simp

@[simp] theorem granted_resumeCopy (p : PrinterId) (s : State) : (resumeCopy p s).port.granted = s.port.granted := by
  simp only [resumeCopy]
  (repeat' split) <;> simp

@[simp] theorem granted_copyDone (p : PrinterId) (id : W16) (result consumed : Byte) (s : State) : (copyDone p id result consumed s).port.granted = s.port.granted := by
  simp only [copyDone]
  (repeat' split) <;> simp

@[simp] theorem granted_linkSilent (p : PrinterId) (s : State) : (linkSilent p s).port.granted = s.port.granted := by
  simp only [linkSilent]
  simp

@[simp] theorem granted_linkLost (p : PrinterId) (s : State) : (linkLost p s).port.granted = s.port.granted := by
  simp only [linkLost]
  (repeat' split) <;> simp

@[simp] theorem granted_beginUnanswered (p : PrinterId) (c : Copy) (w : BeginWait) (s : State) : (beginUnanswered p c w s).port.granted = s.port.granted := by
  simp only [beginUnanswered]
  (repeat' split) <;> simp

@[simp] theorem granted_underrun (p : PrinterId) (n : Nat) (s : State) : (underrun p n s).port.granted = s.port.granted := by
  simp only [underrun]
  simp

@[simp] theorem granted_terminalBack (s : State) : (terminalBack s).port.granted = s.port.granted := by
  simp only [terminalBack]
  simp

@[simp] theorem granted_readyMeetsHolder (h : Holder) (s : State) : (readyMeetsHolder h s).port.granted = s.port.granted := by
  simp only [readyMeetsHolder]
  (repeat' split) <;> simp

@[simp] theorem granted_readyArrived (s : State) : (readyArrived s).port.granted = s.port.granted := by
  simp only [readyArrived]
  (repeat' split) <;> simp

theorem granted_exchangeFrame (ref : W16) (answer : Holder → State → Option State)
    (h : ∀ x t u, answer x t = some u → u.port.granted = t.port.granted) (s : State) :
    (exchangeFrame ref answer s).port.granted = s.port.granted := by
  unfold exchangeFrame
  simp only []
  split
  · rename_i x _
    cases e : answer x (terminalHeard s) with
    | none => simp
    | some u => simp [h _ _ _ e]
  · simp

@[simp] theorem granted_countLate (ref : W16) (s : State) : (countLate ref s).port.granted = s.port.granted := by
  simp only [countLate]
  (repeat' split) <;> simp

theorem granted_capturedAnswer (amount : Nat) (h : Holder) (s t : State) (e : capturedAnswer amount h s = some t) :
    t.port.granted = s.port.granted := by
  unfold capturedAnswer at e
  (repeat' split at e) <;> simp only [Option.some.injEq, reduceCtorEq] at e
  subst e
  simp

@[simp] theorem granted_capturedArrived (ref : W16) (amount : Nat) (s : State) :
    (capturedArrived ref amount s).port.granted = s.port.granted := by
  simp only [capturedArrived]
  split
  · rename_i u e
    obtain ⟨h, -, e⟩ := Option.bind_eq_some_iff.1 e
    simp [granted_capturedAnswer _ _ _ _ e]
  · simp

@[simp] theorem granted_terminalSilent (s : State) : (terminalSilent s).port.granted = s.port.granted := by
  simp only [terminalSilent]
  simp

@[simp] theorem granted_cardWaitExpires (h : Holder) (s : State) : (cardWaitExpires h s).port.granted = s.port.granted := by
  simp only [cardWaitExpires]
  (repeat' split) <;> simp

@[simp] theorem granted_authorizationTimesOut (h : Holder) (n : SlotId) (o : OrderId) (s : State) : (authorizationTimesOut h n o s).port.granted = s.port.granted := by
  simp only [authorizationTimesOut]
  simp

@[simp] theorem granted_authorizationExpires (h : Holder) (s : State) : (authorizationExpires h s).port.granted = s.port.granted := by
  simp only [authorizationExpires]
  (repeat' split) <;> simp

@[simp] theorem granted_abortUnanswered (h : Holder) (s : State) : (abortUnanswered h s).port.granted = s.port.granted := by
  simp only [abortUnanswered]
  (repeat' split) <;> simp

@[simp] theorem granted_settlementUnanswered (h : Holder) (o : OrderId) (s : State) : (settlementUnanswered h o s).port.granted = s.port.granted := by
  simp only [settlementUnanswered]
  (repeat' split) <;> simp

@[simp] theorem granted_answerLate (h : Holder) (s : State) : (answerLate h s).port.granted = s.port.granted := by
  simp only [answerLate]
  (repeat' split) <;> simp

@[simp] theorem granted_handOverHolder (s : State) : (handOverHolder s).port.granted = s.port.granted := by
  simp only [handOverHolder]
  (repeat' split) <;> simp

@[simp] theorem granted_handOverOrder (o : OrderId) (s : State) : (handOverOrder o s).port.granted = s.port.granted := by
  simp only [handOverOrder]
  (repeat' split) <;> simp

@[simp] theorem granted_handOver (s : State) : (handOver s).port.granted = s.port.granted := by
  simp only [handOver]
  simp

@[simp] theorem granted_readContact (b : BayId) (s : State) : (readContact b s).port.granted = s.port.granted := by
  simp only [readContact]
  (repeat' split) <;> simp

end Sys2Proof.Machine
end

