-- ==== Sys2Proof/Laws/Window.lean ====
section
/-! SUPPORT. Reading the exchange window (R161, R184): a number of the window is a number of one record, and a number of a record is the field
laid out there. -/

namespace Sys2Proof.Machine

/-! ## A number of a record -/

/-- The number in `n` bytes of a record from offset `k` on. -/
def recordField (l : List Field) (k n : Nat) : Nat := ofLeBytes ((List.range n).map fun j => fieldByte l (k + j))

/-- Every field of the list lies outside the `n` bytes from `k` on. -/
def FieldsApart (l : List Field) (k n : Nat) : Prop := ∀ f ∈ l, f.offset + f.size ≤ k ∨ k + n ≤ f.offset

theorem ofLeBytes_digits (v n : Nat) : ofLeBytes ((List.range n).map fun j => BitVec.ofNat 8 (v / 256 ^ j)) = v % 256 ^ n := by
  induction n generalizing v with
  | zero => simp [ofLeBytes, Nat.mod_one]
  | succ n ih =>
    have shift : ((fun j => BitVec.ofNat 8 (v / 256 ^ j)) ∘ Nat.succ) = fun j => BitVec.ofNat 8 ((v / 256) / 256 ^ j) := by
      funext j
      simp only [Function.comp, Nat.succ_eq_add_one, Nat.pow_succ, Nat.mul_comm _ 256, Nat.div_div_eq_div_mul]
    rw [List.range_succ_eq_map]
    simp only [List.map_cons, List.map_map, ofLeBytes]
    rw [shift, ih]
    simp only [Nat.pow_zero, Nat.div_one, BitVec.toNat_ofNat]
    rw [show (256 : Nat) ^ (n + 1) = 256 * 256 ^ n from Nat.pow_succ', Nat.mod_mul]

/-- The field at the head of the list is read back, cut to its size. -/
theorem recordField_head (o n v : Nat) (l : List Field) : recordField (⟨o, n, v⟩ :: l) o n = v % 256 ^ n := by
  unfold recordField
  rw [← ofLeBytes_digits]
  congr 1
  refine List.map_congr_left fun j hj => ?_
  have := List.mem_range.1 hj
  unfold fieldByte
  simp only
  rw [if_pos (by omega)]
  congr 2; congr 1; omega

/-- A field elsewhere is passed over. -/
theorem recordField_skip (o m v k n : Nat) (l : List Field) (h : o + m ≤ k ∨ k + n ≤ o) :
    recordField (⟨o, m, v⟩ :: l) k n = recordField l k n := by
  unfold recordField
  congr 1
  refine List.map_congr_left fun j hj => ?_
  have := List.mem_range.1 hj
  conv => lhs; unfold fieldByte
  simp only
  rw [if_neg (by omega)]

theorem recordField_append (l l' : List Field) (k n : Nat) (h : FieldsApart l k n) : recordField (l ++ l') k n = recordField l' k n := by
  induction l with
  | nil => rfl
  | cons f r ih =>
    rw [List.cons_append, recordField_skip _ _ _ _ _ _ (h f (by simp))]
    exact ih fun g hg => h g (by simp [hg])

/-! ## The lists of a record -/

theorem byteList_mem (o : Nat) (l : List Nat) : ∀ f ∈ byteList o l, o ≤ f.offset ∧ f.offset + f.size ≤ o + l.length := by
  induction l generalizing o with
  | nil => intro f h; cases h
  | cons v r ih =>
    intro f hf
    rcases List.mem_cons.1 hf with e | e
    · subst e; simp
    · have := ih (o + 1) f e; simp only [List.length_cons]; omega

theorem voidFields_mem (o : Nat) (l : List VoidEntry) : ∀ f ∈ voidFields o l, o ≤ f.offset ∧ f.offset + f.size ≤ o + 8 * l.length := by
  induction l generalizing o with
  | nil => intro f h; cases h
  | cons v r ih =>
    intro f hf
    simp only [voidFields, List.mem_cons] at hf
    simp only [List.length_cons]
    rcases hf with e | e | e | e
    iterate 3 · subst e; simp only; omega
    · have := ih (o + 8) f e; omega

theorem waitFields_mem (o : Nat) (l : List PayEntry) : ∀ f ∈ waitFields o l, o ≤ f.offset ∧ f.offset + f.size ≤ o + 4 * l.length := by
  induction l generalizing o with
  | nil => intro f h; cases h
  | cons v r ih =>
    intro f hf
    simp only [waitFields, List.mem_cons] at hf
    simp only [List.length_cons]
    rcases hf with e | e | e | e
    iterate 3 · subst e; simp only; omega
    · have := ih (o + 4) f e; omega

theorem recordField_byteList (o : Nat) (l : List Nat) (l' : List Field) (k n : Nat) (h : o + l.length ≤ k ∨ k + n ≤ o) :
    recordField (byteList o l ++ l') k n = recordField l' k n :=
  recordField_append _ _ _ _ fun f hf => by have := byteList_mem o l f hf; omega

theorem recordField_voidFields (o : Nat) (l : List VoidEntry) (l' : List Field) (k n : Nat) (h : o + 8 * l.length ≤ k ∨ k + n ≤ o) :
    recordField (voidFields o l ++ l') k n = recordField l' k n :=
  recordField_append _ _ _ _ fun f hf => by have := voidFields_mem o l f hf; omega

theorem recordField_waitFields (o : Nat) (l : List PayEntry) (l' : List Field) (k n : Nat) (h : o + 4 * l.length ≤ k ∨ k + n ≤ o) :
    recordField (waitFields o l ++ l') k n = recordField l' k n :=
  recordField_append _ _ _ _ fun f hf => by have := waitFields_mem o l f hf; omega

/-- An entry of the void list is read back from its eight bytes. -/
theorem recordField_voidEntry (l : List VoidEntry) (o k : Nat) (e : VoidEntry) (h : l[k]? = some e) (l' : List Field) :
    recordField (voidFields o l ++ l') (o + 8 * k) 2 = e.reference.toNat
      ∧ recordField (voidFields o l ++ l') (o + 2 + 8 * k) 1 = e.attempts % 256
      ∧ recordField (voidFields o l ++ l') (o + 4 + 8 * k) 4 = e.amount % 2 ^ 32 := by
  induction l generalizing o k with
  | nil => simp at h
  | cons v r ih =>
    simp only [voidFields, List.cons_append]
    cases k with
    | zero =>
      simp only [List.getElem?_cons_zero, Option.some.injEq] at h
      subst h
      simp only [Nat.mul_zero, Nat.add_zero]
      refine ⟨?_, ?_, ?_⟩
      · rw [recordField_head]; exact Nat.mod_eq_of_lt (by have := v.reference.isLt; omega)
      · rw [recordField_skip _ _ _ _ _ _ (by omega)]; exact recordField_head _ _ _ _
      · rw [recordField_skip _ _ _ _ _ _ (by omega), recordField_skip _ _ _ _ _ _ (by omega)]; exact recordField_head _ _ _ _
    | succ k =>
      obtain ⟨a, b, c⟩ := ih (o + 8) k (by simpa using h)
      refine ⟨?_, ?_, ?_⟩ <;>
        rw [recordField_skip _ _ _ _ _ _ (by omega), recordField_skip _ _ _ _ _ _ (by omega), recordField_skip _ _ _ _ _ _ (by omega)]
      · rw [← a]; congr 1; omega
      · rw [← b]; congr 1; omega
      · rw [← c]; congr 1; omega

/-- A presence or condition bit is the one of its place in the list. -/
theorem maskOf_testBit (l : List Bool) (i : Nat) : (maskOf l).testBit i = l.getD i false := by
  induction l generalizing i with
  | nil => simp [maskOf]
  | cons b r ih =>
    cases i with
    | zero => cases b <;> simp [maskOf, Nat.testBit_zero]
    | succ i =>
      rw [Nat.testBit_succ]
      have half : maskOf (b :: r) / 2 = maskOf r := by simp only [maskOf]; split <;> omega
      rw [half, ih]; simp

/-! ## Where a record stands in the window -/

theorem windowByte_run (s : State) (h : s.part = .run) (a : Nat) : windowByte s a = windowByteRun s a := by unfold windowByte; rw [h]

theorem windowByteRun_unit (s : State) (u : UnitId) (k : Nat) (h : k < 256) :
    windowByteRun s (0x1000 + 256 * u.val + k) = fieldByte (unitRecord s true u) k := by
  have := u.isLt
  have place : (⟨(0x1000 + 256 * u.val + k - 0x1000) / 256, by omega⟩ : UnitId) = u := Fin.ext (by simp only; omega)
  unfold windowByteRun
  rw [if_neg (by omega), dif_neg (by omega), dif_pos (by omega), place]
  exact congrArg _ (by omega)

theorem windowByteRun_order (s : State) (o : OrderId) (k : Nat) (h : k < 512) :
    windowByteRun s (0x2000 + 512 * o.val + k) = fieldByte (orderRecord s true o) k := by
  have := o.isLt
  have place : (⟨(0x2000 + 512 * o.val + k - 0x2000) / 512, by omega⟩ : OrderId) = o := Fin.ext (by simp only; omega)
  unfold windowByteRun
  rw [if_neg (by omega), dif_neg (by omega), dif_neg (by omega), dif_pos (by omega), place]
  exact congrArg _ (by omega)

theorem windowByteRun_slot (s : State) (n : SlotId) (k : Nat) (h : k < 512) :
    windowByteRun s (0x8000 + 512 * n.val + k) = slotByte (s.slot n) k := by
  have := n.isLt
  have place : (⟨(0x8000 + 512 * n.val + k - 0x8000) / 512, by omega⟩ : SlotId) = n := Fin.ext (by simp only; omega)
  unfold windowByteRun
  rw [if_neg (by omega), dif_neg (by omega), dif_neg (by omega), dif_neg (by omega), if_neg (by omega), dif_pos (by omega), place]
  exact congrArg _ (by omega)

theorem windowByteRun_strip (s : State) (n : SlotId) (k : Nat) (h : k < 4) :
    windowByteRun s (0x100 + 4 * n.val + k) = wordByte (stripWord (s.slot n)) k := by
  have := n.isLt
  have place : (⟨(0x100 + 4 * n.val + k - 0x100) / 4, by omega⟩ : SlotId) = n := Fin.ext (by simp only; omega)
  unfold windowByteRun
  rw [if_neg (by omega), dif_pos (by omega), place]
  unfold wordByte; congr 2; congr 1; omega

/-- Bytes of the window that are bytes of a record give the record's number. -/
theorem windowField_of_bytes (s : State) (hr : s.part = .run) (base k n : Nat) (l : List Field)
    (h : ∀ j, j < n → windowByteRun s (base + (k + j)) = fieldByte l (k + j)) : windowField s (base + k) n = recordField l k n := by
  unfold windowField recordField
  congr 1
  refine List.map_congr_left fun j hj => ?_
  rw [windowByte_run s hr, Nat.add_assoc, h j (List.mem_range.1 hj)]

theorem windowField_unit (s : State) (hr : s.part = .run) (u : UnitId) (k n : Nat) (h : k + n ≤ 256) :
    windowField s (0x1000 + 256 * u.val + k) n = recordField (unitRecord s true u) k n :=
  windowField_of_bytes s hr _ k n _ fun j hj => windowByteRun_unit s u (k + j) (by omega)

theorem windowField_order (s : State) (hr : s.part = .run) (o : OrderId) (k n : Nat) (h : k + n ≤ 512) :
    windowField s (0x2000 + 512 * o.val + k) n = recordField (orderRecord s true o) k n :=
  windowField_of_bytes s hr _ k n _ fun j hj => windowByteRun_order s o (k + j) (by omega)

/-- R165: the result part of a slot. -/
theorem windowField_result (s : State) (hr : s.part = .run) (n : SlotId) (k m : Nat) (h : k + m ≤ 512) (h1 : 384 ≤ k) :
    windowField s (0x8000 + 512 * n.val + k) m = recordField (resultFields (s.slot n)) k m :=
  windowField_of_bytes s hr _ k m _ fun j hj => by
    rw [windowByteRun_slot s n _ (by omega)]
    unfold slotByte
    rw [if_neg (by unfold requestBytes; omega)]

theorem windowField_station (s : State) (hr : s.part = .run) (i : StationId) (k n : Nat) (h : k + n ≤ 256) :
    windowField s (0x1000 + 256 * i.val + k) n = recordField (stationRecord s true i) k n := by
  rw [windowField_unit s hr ⟨i.val, by omega⟩ k n h]
  unfold unitRecord
  rw [dif_pos (by simp)]

theorem windowField_bay (s : State) (hr : s.part = .run) (b : BayId) (k n : Nat) (h : k + n ≤ 256) :
    windowField s (0x1400 + 256 * b.val + k) n = recordField (bayRecord s true b) k n := by
  have at_unit := windowField_unit s hr ⟨b.val + 4, by omega⟩ k n h
  rw [show 0x1400 + 256 * b.val + k = 0x1000 + 256 * (b.val + 4) + k by omega, at_unit]
  unfold unitRecord
  rw [dif_neg (by simp), dif_pos (by simp only; omega)]
  rfl

theorem windowField_printer (s : State) (hr : s.part = .run) (p : PrinterId) (k n : Nat) (h : k + n ≤ 256) :
    windowField s (0x1800 + 256 * p.val + k) n = recordField (printerRecord s true p) k n := by
  have at_unit := windowField_unit s hr ⟨p.val + 8, by omega⟩ k n h
  rw [show 0x1800 + 256 * p.val + k = 0x1000 + 256 * (p.val + 8) + k by omega, at_unit]
  unfold unitRecord
  rw [dif_neg (by simp only; omega), dif_neg (by simp only; omega), dif_pos (by simp only; omega)]
  rfl

theorem windowField_terminal (s : State) (hr : s.part = .run) (k n : Nat) (h : k + n ≤ 256) :
    windowField s (0x1A00 + k) n = recordField (terminalRecord s true) k n := windowField_unit s hr ⟨10, by omega⟩ k n h

theorem windowField_price (s : State) (hr : s.part = .run) (k n : Nat) (h : k + n ≤ 256) :
    windowField s (0x1B00 + k) n = recordField (priceRecord s) k n := windowField_unit s hr ⟨11, by omega⟩ k n h

end Sys2Proof.Machine
end

