-- ==== Sys2Proof/Machine/Wire.lean ====
section
/-! DEFINITION. The bytes on the wire of what the part sends (R80, R83, R86, R89, R107, R108, R127, R128, R185): each frame of a printer link
and of the terminal link, and each card command, as `out` holds it. -/

namespace Sys2Proof.Machine

/-- R185: the kind and payload of a frame the part sends to a printer. -/
def printerSends : Out → Option (PrinterId × Byte × List Byte)
  | .beginCopy p copyId size finish =>
    some (p, 0x81, leBytes 2 copyId.toNat ++ [BitVec.ofNat 8 (sizeCode size), BitVec.ofNat 8 (finishCode finish)])
  | .stripeFrame p stripe data => some (p, 0x82, leBytes 2 stripe ++ data)
  | .abortCopy p copyId => some (p, 0x83, leBytes 2 copyId.toNat)
  | _ => none

/-- R127, R185: a frame the part sends to the terminal; a field a kind does not use is zero. -/
def terminalSends : Out → Option (List Byte)
  | .authorize reference amount currency => some (terminalWire 0x20 reference (BitVec.ofNat 32 amount) 0 (currencyChars currency))
  | .abort reference => some (terminalWire 0x21 reference 0 0 [])
  | .capture reference amount => some (terminalWire 0x22 reference (BitVec.ofNat 32 amount) 0 [])
  | .void reference => some (terminalWire 0x23 reference 0 0 [])
  | _ => none

/-- R107, R108, R185: a command the part sends to a card. The first block goes most significant byte first, like the other numbers of the
card port (DESIGN CHOICE, unsafe: log entry 33). -/
def cardSends : Out → Option (BayId × List Byte)
  | .identify b => some (b, cardWire 0x01 [])
  | .readRun b first => some (b, cardWire 0x02 (beBytes 4 first))
  | .halt b => some (b, cardWire 0x03 [])
  | _ => none

/-- R80, R127, R185: the bytes of what the part sends on a frame link or card port; none for the PCIe link. -/
def Out.wire (o : Out) : Option (List Byte) :=
  match printerSends o with
  | some (_, kind, payload) => some (printerWire kind payload)
  | none =>
    match terminalSends o with
    | some bytes => some bytes
    | none => (cardSends o).map (·.2)

end Sys2Proof.Machine
end

