-- ==== Sys2Proof/Tests/Slice0.lean ====
section
/-! SUPPORT. Smoke tests: the manual's worked figures, the operands that cannot occur, and for each statement with hypotheses one theorem
that shows a concrete state and operands meeting them, clause by clause. -/

open Sys2Proof Sys2Proof.Machine

namespace Sys2Proof.Tests

set_option maxRecDepth 20000
-- One theorem at a time: the joined text is checked under a memory limit that many threads at once would pass.
set_option Elab.async false

/-! ## Operands that cannot occur -/

theorem test_wf_empty_write : wellFormed (.slotRequestWrite 0 0 []) = false := by decide
theorem test_wf_write_past_the_slot : wellFormed (.slotRequestWrite 0 511 [1, 2]) = false := by decide
theorem test_wf_write_not_discarded : wellFormed (.windowWriteDiscarded 0x04 [1, 0, 0, 0]) = false := by decide
theorem test_wf_known_strip_code : wellFormed (.stripWriteRefused 0 (.unknownCode 3)) = false := by decide
theorem test_wf_good_printer_frame : wellFormed (.printerFrameDiscarded 0 (printerWire 0x03 []).tail) = false := by decide +kernel
theorem test_wf_stripe_number : wellFormed (.underrunTimerExpiry 0 300) = false := by decide
theorem test_wf_transfer_data : wellFormed (.transferEnd 0 (.good (List.replicate 4097 0))) = false := by decide +kernel
theorem test_wf_block_length : wellFormed (.blockArrival 0 [] 0) = false := by decide
theorem test_wf_code_length : wellFormed (.approved 1 1 [48]) = false := by decide
theorem test_wf_good_terminal_frame :
    wellFormed (.terminalFrameDiscarded (terminalWire 0x10 0 0 0 []).tail false) = false := by decide +kernel

/-! ## Host writes and words (R161, R162, R166) -/

theorem test_part_reset_bit : decodeHostWrite 0 [4, 0, 0, 0] = .partReset := by decide
theorem test_strip_release : decodeHostWrite 0x110 [3, 0, 0, 0] = .release 4 := by decide
theorem test_strip_narrow : decodeHostWrite 0x110 [3] = .stripWriteRefused 4 .narrow := by decide
theorem test_no_word_spells_a_command : ∀ s : State, s.withFetchWord 8 1 = s := fun _ => rfl

/-! ## Frames the part sends, with check codes computed by hand from R80, R107 and R127 -/

theorem test_wire_begin_copy :
    (Out.beginCopy 0 412 .p2 .glossy).wire = some [0xA5, 0x81, 0x04, 0x00, 0x9C, 0x01, 0x00, 0x00, 0x5A, 0x6A] := by decide +kernel
theorem test_wire_escape : (Out.abortCopy 0 0x01A5).wire = some [0xA5, 0x83, 0x02, 0x00, 0xA6, 0x85, 0x01, 0xC2, 0xCC] := by decide +kernel
theorem test_wire_authorize :
    (Out.authorize 730 1061 978).wire
      = some [0x5A, 0x20, 0xDA, 0x02, 0x25, 0x04, 0x00, 0x00, 0x00, 0x39, 0x37, 0x38, 0x20, 0x20, 0x20, 0x1D] := by decide +kernel
theorem test_wire_capture : (Out.capture 702 244).wire = some [0x5A, 0x22, 0xBE, 0x02, 0xF4, 0, 0, 0, 0, 0x99] := by decide +kernel
theorem test_wire_void : (Out.void 730).wire = some [0x5A, 0x23, 0xDA, 0x02, 0, 0, 0, 0, 0, 0x9D] := by decide +kernel
theorem test_wire_identify : (Out.identify 0).wire = some [0x01, 0xF1, 0xD1] := by decide +kernel

/-! ## The manual's worked figures -/

/-- Price and Settlement Arithmetic, worked case: P4 with tiers 10 at 35 and 50 at 29 over 45, P8 at 299, matte 10, tax 825 bp, promotion 3. -/
def workedTable : PriceTable :=
  { sizes := #v[{ offered := false, base := 0, tiers := [] },
      { offered := true, base := 45, tiers := [{ threshold := 10, price := 35 }, { threshold := 50, price := 29 }] },
      { offered := false, base := 0, tiers := [] }, { offered := true, base := 299, tiers := [] }],
    surcharge := 10, taxRate := 825, currency := 978,
    promotions := (Vector.replicate 16 { rate := 0, minimum := 0 }).set 3 { rate := 1500, minimum := 500 }, tag := 0x41,
    installedAt := some 800 }

def anItem (size : Size) (finish : Finish) (quantity printed : Nat) : Item :=
  { size := size, finish := finish, quantity := quantity, address := 0x10000000, aperture := 0, printed := printed, failed := 0,
    inFlight := 0, state := .pending, dropped := false }

def workedItems : List Item := [anItem .p4 .glossy 12 11, anItem .p4 .matte 3 3, anItem .p8 .glossy 2 1]

def workedPrices : FixedPrices := fixedPrices workedTable workedItems (some 3)

theorem test_worked_quote :
    (workedPrices.subtotal, workedPrices.discount, workedPrices.tax, workedPrices.total) = (1153, 173, 81, 1061)
      ∧ quoteUnits workedItems = 76 := by decide
theorem test_worked_settlement : settlementOf workedPrices workedItems = 753 := by decide
theorem test_below_minimum : settlementOf workedPrices [anItem .p4 .matte 3 3] = 124 := by decide
theorem test_half_unit_rounds_up : rated 30 1500 = 5 ∧ rated 29 1500 = 4 := by decide

/-! ## A kiosk at work -/

/-- A running part at CLOCK 1000: aperture 0 open, both printers and the terminal there, a card in bay 0, and order 0 in DRAFT in the
session of station 0. -/
def kiosk : State :=
  { State.reset with
    part := .run, pcieUp := true, clock := 1000,
    apertures := (Vector.replicate 8 Aperture.reset).set 0
      { base := 0x10000000, limit := 0x10000000, access := .readWrite, state := .active, fault := none },
    price := { PriceUnit.reset with table := workedTable },
    stock := #v[{ StockEntry.reset with reported := 400 }, { StockEntry.reset with reported := 300 }],
    printers := #v[{ Printer.resetWith 1 with state := .ready, watch := some 1001, linkHeard := true, lastReport := some .ready },
      { Printer.resetWith 1 with state := .ready, watch := some 1001, linkHeard := true, lastReport := some .ready }],
    terminal := { Terminal.reset with state := .idle, watch := some 1003, linkHeard := true },
    stations := (Vector.replicate 4 Station.reset).set 0 { Station.reset with session := some 0, ready := .blink },
    sessions := (Vector.replicate 8 Session.reset).set 0
      { state := .active, station := 0, orders := [0], openedAt := 900, deadline := some 1180 },
    orders := (Vector.replicate 32 Order.reset).set 0 { Order.reset with state := .draft, serial := 1, items := [anItem .p4 .glossy 3 0] },
    bays := (Vector.replicate 4 (Bay.resetWith 0)).set 0
      { Bay.resetWith 1 with state := .ready, contact := true, card := some { capacity := 4096, serial := 77, identifiedAt := 990 } } }

/-- A request of a kind posted in a slot: its fields as offset and bytes. -/
def asked (n : SlotId) (k : Kind) (fields : List (Nat × List Byte)) (s : State) : State :=
  { (s.onSlot n fun c =>
      { c with state := .posted, request := ((0, leBytes 2 k.code) :: fields).foldl (fun m f => Mem.store m f.1 f.2) [] }) with
    intake := [n] }

/-- The handle of order 0. -/
def handle0 : List (Nat × List Byte) := [(16, [0]), (20, leBytes 4 1)]

/-- The kiosk with order 0 changed. -/
def withOrder0 (f : Order → Order) : State := kiosk.onOrder 0 f

/-- Order 0 PRICED on printer 0. -/
def priced : State := withOrder0 fun r =>
  { r with state := .priced, placement := some 0, prices := some (fixedPrices workedTable r.items none), hold := .running 1300 }

/-- A read of 100 blocks at bay 0 for slot 7. -/
def aRead (mode : ReadMode) : Read :=
  { slot := 7, mode := mode, generation := 1, serial := 77, first := 0, count := 100, addressA := 0x10000000, apertureA := 0, liveA := true,
    addressB := 0x11000000, apertureB := 0, liveB := true, chunk := 16384, accepted := 0, delivered := 0, filled := 0, givenBack := 0,
    waited := 0, failures := 0, mark := none, ended := none, failing := none, faultedAperture := none }

/-- Bay 0 running a read, its slot TAKEN. -/
def reading (r : Read) : State :=
  (kiosk.onBay 0 fun y => { y with state := .reading, active := some r, run := .running, block := .running 250 }).onSlot 7 fun c =>
    { c with state := .taken, body := .read (liveResult r) }

/-- A copy of order 0's item 0 in flight on printer 0. -/
def aCopy : Copy :=
  { id := 1, order := 0, item := 0, size := .p4, finish := .glossy, attempt := 1, highest := some 0, sent := 0,
    requests := [{ stripe := 0, started := false, timer := .running 500 }], held := false, abortCause := none, releasedEarly := false,
    beginWait := none, abortDeadline := none }

/-- Order 0 PRINTING on printer 0 with a copy in flight. -/
def printing (c : Copy) : State :=
  ((withOrder0 fun r =>
    { r with state := .printing, placement := some 0, prices := some (fixedPrices workedTable r.items none), reference := some 5,
             approved := some 146, items := r.items.map fun i => { i with state := .active, inFlight := 1 } }).onPrinter 0 fun q =>
    { q with state := .printing, queue := [0], copy := some c })

/-- The terminal AUTHORIZING for the PAY of slot 9 on order 0. -/
def authorizing (h : Holder) : State :=
  ((priced.onOrder 0 fun r => { r with state := .paying, hold := .stopped, reference := some 5 }).onSlot 9 fun c =>
    { c with state := .taken, body := .pay { reference := 5, asked := 146, approved := none, code := none, reason := none, granted := some 1000 } }
    ).onTerminal fun t => { t with state := .authorizing, holder := some h, nextReference := 6 }

def openHolder : Holder :=
  { kind := .authorization, reference := 5, amount := 146, exchange := .opened, order := some 0, slot := some 9, attempts := 0,
    cardSeen := false, cardWaitLimit := some 1002, authorizationLimit := some 1090, abortLimit := none, answerLimit := none }

def answering (kind : HolderKind) (amount : Nat) (order : Option OrderId) : Holder :=
  { kind := kind, reference := 5, amount := amount, exchange := .answerWait, order := order, slot := none, attempts := 0, cardSeen := false,
    cardWaitLimit := none, authorizationLimit := none, abortLimit := none, answerLimit := some 1005 }

/-- The terminal SETTLING. -/
def settling (h : Holder) : State :=
  (withOrder0 fun r => { r with state := .settling, reference := some 5, approved := some 146, settlement := some 146 }).onTerminal fun t =>
    { t with state := .settling, holder := some h }

/-- A granted transfer of aperture 0. -/
def granted (requester : Requester) (direction : Direction) (length : Nat) (purpose : Purpose) : Granted :=
  { transfer := { requester := requester, direction := direction, address := 0x10000000, length := length, aperture := 0, purpose := purpose,
                  data := [] }, timer := .running 50, outcome := none }

/-- Two transfers of bay 0: the earlier in progress, the later with an outcome that is not yet told. -/
def heldOutcome : State :=
  (reading (aRead .alternate)).onPort fun q =>
    { q with granted := [granted (.bay 0) .write 4096 (.half 0 8),
                         { granted (.bay 0) .write 4096 (.half 1 8) with outcome := some (.done []), timer := .stopped }] }

theorem heldOutcome_inOrder : OutcomesInOrder heldOutcome := by
  intro i g h o
  match i with
  | 0 => have : g = granted (.bay 0) .write 4096 (.half 0 8) := by
           injection (show some (granted (.bay 0) .write 4096 (.half 0 8)) = some g from h) with h; exact h.symm
         subst this; exact absurd o (by decide)
  | 1 => have : g = { granted (.bay 0) .write 4096 (.half 1 8) with outcome := some (.done []), timer := .stopped } := by
           injection (show some _ = some g from h) with h; exact h.symm
         subst this; exact ⟨0, _, by decide, rfl, rfl, rfl⟩
  | n + 2 => exact nomatch (show (none : Option Granted) = some g from h)

def aFault : FaultRecord :=
  { clock := 1, direction := .read, requester := .load, address := 0, cause := .poisoned, areasDied := 0 }

/-- No session entry is FREE. -/
def fullSessions : State := { kiosk with sessions := Vector.replicate 8 { Session.reset with state := .draining } }

/-! ## Witnesses: step, reset and invariants -/

theorem witness_StepRunsFrontCommand :
    { kiosk with pending := [.clockTick, .ready] }.pending = Instr.clockTick :: [.ready] := rfl

theorem witness_IntakeAndRequestPartsAreKept :
    IntakeLaw (asked 3 .quote handle0 kiosk) ∧ RequestsCanonical (asked 3 .quote handle0 kiosk)
      ∧ ∃ t, step { asked 3 .quote handle0 kiosk with pending := [.quote] } = .next t :=
  ⟨by unfold IntakeLaw; decide +kernel, by unfold RequestsCanonical; decide +kernel, _, rfl⟩

theorem witness_PortAndTimerSettingsStayInBounds :
    PortWithinLimit heldOutcome ∧ SettingsInRange heldOutcome ∧ OutcomesInOrder heldOutcome ∧ ∃ t, step heldOutcome = .next t :=
  ⟨by unfold PortWithinLimit; decide +kernel, by unfold SettingsInRange; decide +kernel, heldOutcome_inOrder, _, rfl⟩

theorem witness_TerminalHoldingLawIsKept :
    HoldingLaw (authorizing openHolder) ∧ ∃ t, step { authorizing openHolder with pending := [.timedOut 5] } = .next t :=
  ⟨by unfold HoldingLaw; decide +kernel, _, rfl⟩

theorem witness_ApertureInUseKeepsItsRange : 0 < kiosk.useCount 0 ∧ ∃ t, exec .clockTick kiosk = .next t := ⟨by decide +kernel, _, rfl⟩

theorem witness_ClockAndLinkCommands_tick : (Instr.ready ≠ .clockTick ∧ Instr.ready ≠ .powerOn ∧ Instr.ready ≠ .resetNHigh)
    ∧ ∃ t, exec .ready kiosk = .next t := ⟨by decide, _, rfl⟩

/-! ## Witnesses: resets, RUN, CLOCK and the window -/

/-- A void-list entry of each of 16 references. -/
def sixteen : List VoidEntry := (List.range 16).map fun k => { reference := BitVec.ofNat 16 (k + 20), amount := 100, attempts := 0 }

/-- A follow-up void holds the terminal, order 0 has a reference, and the void list holds 14 entries: the room of 16 is just enough. -/
def handingOver : State :=
  (printing aCopy).onTerminal fun t =>
    { t with state := .settling, holder := some { answering .followUpVoid 50 none with reference := 9 },
             voidList := (List.range 14).map fun k => { reference := BitVec.ofNat 16 (k + 20), amount := 100, attempts := 0 } }

theorem witness_PartResetKeepsAndHandsOver :
    handingOver.pcieUp = true ∧ handingOver.part = .run
      ∧ handingOver.terminal.holder = some { answering .followUpVoid 50 none with reference := 9 }
      ∧ handingOver.terminal.voidList.length + [((9#16 : W16), 50)].length
          + ((List.finRange 32).filter fun o => (handingOver.order o).reference.isSome).length ≤ 16
      ∧ (handingOver.order 0).reference = some 5 ∧ (printing aCopy).terminal.holder = none
      ∧ ({ kiosk with part := .starting }).part ≠ .held := by decide +kernel

/-- The hand-over of `handingOver` to a list of 16: the follow-up void's reference 9 and the 5 of order 0 join it. -/
def overflowing : State := handingOver.onTerminal fun t => { t with voidList := sixteen }

theorem witness_PartResetKeepsAndHandsOver_overflow :
    overflowing.terminal.voidList.length ≤ 16
      ∧ (List.finRange 32).filterMap (fun o => (overflowing.order o).reference.map fun ref =>
          (ref, if (overflowing.order o).state = .paying then orderTotal (overflowing.order o) else (overflowing.order o).approved.getD 0))
        = [(5, 146)]
      ∧ ((sixteen ++ [(9, 50), (5, 146)].map fun x => ({ reference := x.1, amount := x.2, attempts := 0 } : VoidEntry)).map
          (·.reference)).Nodup
      ∧ (sixteen ++ [(9, 50), (5, 146)].map fun x => ({ reference := x.1, amount := x.2, attempts := 0 } : VoidEntry)).length - 16 = 2 := by
  decide +kernel

/-- R143, R149: the two oldest entries, of 100 each, are dropped and counted abandoned. -/
theorem test_hand_over_to_a_full_list :
    (partResetState overflowing).terminal.voidList
        = sixteen.drop 2 ++ [{ reference := 9, amount := 50, attempts := 0 }, { reference := 5, amount := 146, attempts := 0 }]
      ∧ (partResetState overflowing).terminal.till.abandoned.count = 2 ∧ (partResetState overflowing).terminal.till.abandoned.sum = 200
      ∧ (partResetState overflowing).terminal.latched.voidAbandoned = true := by decide +kernel

theorem witness_EnterRunReadsTheContacts :
    State.reset.part = .starting ∧ BlocksAtReset State.reset ∧ State.reset.pin 0 = false
      ∧ ({ State.reset with contactPins := State.reset.contactPins.set 0 true }).pin 0 = true :=
  ⟨rfl, by unfold BlocksAtReset; and_intros <;> decide +kernel, by decide +kernel, by decide +kernel⟩

theorem witness_ClockAndLinkCommands :
    kiosk.part ≠ .held ∧ kiosk.pcieUp = true ∧ State.reset.part ≠ .held ∧ kiosk.pending = [] ∧ kiosk.part = .run ∧ State.reset.part ≠ .run
      ∧ (kiosk.bay 0).giveBackWait = false
      ∧ (((reading (aRead .alternate)).onBay 0 fun y => { y with giveBackWait := true }).bay 0).giveBackWait = true := by
  decide +kernel

theorem witness_RequestWritesAndDiscards :
    kiosk.part = .run ∧ kiosk.pcieUp = true ∧ (kiosk.slot 0).state = .free ∧ Mem.wf (kiosk.slot 0).request = true
      ∧ ((asked 3 .quote handle0 kiosk).slot 3).state ≠ .free ∧ hostWrite (.post 0) = true ∧ State.reset.part ≠ .run
      ∧ ({ kiosk with pcieUp := false }).pcieUp = false ∧ blockEvent .ready = true := by decide +kernel

theorem witness_ControlWordsTakeTheirWrites : kiosk.part = .run ∧ kiosk.pcieUp = true := by decide

theorem witness_StripWritesActByTheSlotState :
    kiosk.part = .run ∧ kiosk.pcieUp = true ∧ (kiosk.slot 0).state = .free ∧ ((asked 0 .quote handle0 kiosk).slot 0).state = .posted
      ∧ ((kiosk.onSlot 0 fun c => { c with state := .done }).slot 0).state = .done ∧ (kiosk.slot 0).state ≠ .taken
      ∧ ((reading (aRead .alternate)).slot 7).state = .taken
      ∧ (∀ b r, ((reading (aRead .single)).bay b).active = some r → r.slot = 7 → r.mode = .alternate → r.filled ≤ r.givenBack) := by
  refine ⟨by decide, by decide, by decide +kernel, by decide +kernel, by decide +kernel, by decide +kernel, by decide +kernel, ?_⟩
  intro b r h _ m
  match b with
  | 0 => have : r = aRead .single := by injection (show some (aRead .single) = some r from h) with h; exact h.symm
         subst this; cases m
  | 1 | 2 | 3 => cases (show (none : Option Read) = some r from h)

theorem witness_FormatAndPrivilegeComeFirst :
    (∀ k : Kind, kindCode ((asked 3 .quote [(0, [0x99, 0])] kiosk).slot 3) ≠ k.code)
      ∧ (asked 3 .quote [(0, [0x99, 0])] kiosk).intake = [3]
      ∧ kindCode ((asked 3 .quote [(2, [1])] kiosk).slot 3) = Kind.quote.code ∧ formatGood .quote ((asked 3 .quote [(2, [1])] kiosk).slot 3) = false
      ∧ kindCode ((asked 55 .shiftClose [] kiosk).slot 55) = Kind.shiftClose.code ∧ formatGood .shiftClose ((asked 55 .shiftClose [] kiosk).slot 55) = true
      ∧ Kind.shiftClose.service = true ∧ (55 : SlotId).val < 56 := by
  refine ⟨fun k => ?_, ?_⟩
  · have : kindCode ((asked 3 .quote [(0, [0x99, 0])] kiosk).slot 3) = 0x99 := by decide +kernel
    rw [this]; cases k <;> decide
  · decide +kernel

theorem witness_FormatAndPrivilegeComeFirst_reserved :
    Mem.wf ((asked 60 .setTimers [(16, [15])] kiosk).slot 60).request = true
      ∧ (∀ x ∈ ((asked 60 .setTimers [(16, [15])] kiosk).slot 60).request, x.1 < 384)
      ∧ formatGood .setTimers ((asked 60 .setTimers [(16, [15])] kiosk).slot 60) = true
      ∧ formatGood .setTimers ((asked 60 .setTimers [(16, [16])] kiosk).slot 60) = false
      ∧ formatGood .resetUnit ((asked 60 .resetUnit [(16, [3, 1])] kiosk).slot 60) = false
      ∧ formatGood .readCard ((asked 7 .readCard [(28, [1])] kiosk).slot 7) = false
      ∧ formatGood .readCard ((asked 7 .readCard [(17, [1]), (28, [1])] kiosk).slot 7) = true := by decide +kernel

theorem witness_ThirdCheckAndIdleWatch :
    (Heads (asked 3 .openOrder [(2, [4])] kiosk) .openOrder 3 [] ∧ 3 < stationField ((asked 3 .openOrder [(2, [4])] kiosk).slot 3))
      ∧ (Heads (asked 3 .quote [(16, [0]), (20, leBytes 4 2)] kiosk) .quote 3 []
          ∧ ∀ h, handleField ((asked 3 .quote [(16, [0]), (20, leBytes 4 2)] kiosk).slot 3) = some h →
              (asked 3 .quote [(16, [0]), (20, leBytes 4 2)] kiosk).isCurrent h = false)
      ∧ (Heads (asked 3 .readCard [(16, [4])] kiosk) .readCard 3 [] ∧ 3 < reqByte ((asked 3 .readCard [(16, [4])] kiosk).slot 3) 16)
      ∧ (Heads (asked 60 .setAperture [(16, [8])] kiosk) .setAperture 60 [] ∧ 7 < reqByte ((asked 60 .setAperture [(16, [8])] kiosk).slot 60) 16)
      ∧ (Heads (asked 60 .printerService [(16, [2])] kiosk) .printerService 60 []
          ∧ 1 < reqByte ((asked 60 .printerService [(16, [2])] kiosk).slot 60) 16)
      ∧ (Heads (asked 60 .resetUnit [(16, [1, 4])] kiosk) .resetUnit 60 [] ∧ 3 < reqByte ((asked 60 .resetUnit [(16, [1, 4])] kiosk).slot 60) 17)
      ∧ (Heads (asked 60 .resetUnit [(16, [2, 2])] kiosk) .resetUnit 60 [] ∧ 1 < reqByte ((asked 60 .resetUnit [(16, [2, 2])] kiosk).slot 60) 17)
      ∧ (kiosk.station 0).session = some 0 ∧ (kiosk.session 0).state = .active ∧ (kiosk.session 0).deadline.isSome = true
      ∧ (kiosk.station 1).session = none ∧ (kiosk.session (kiosk.order 0).session).orders.contains 0 = true
      ∧ (kiosk.session (kiosk.order 1).session).orders.contains 1 = false := by
  refine ⟨by unfold Heads; decide +kernel, ⟨by unfold Heads; decide +kernel, ?_⟩, ?_⟩
  · intro h e
    have : handleField ((asked 3 .quote [(16, [0]), (20, leBytes 4 2)] kiosk).slot 3) = some { index := 0, serial := 2 } := by decide +kernel
    rw [this] at e; injection e with e; subst e; decide +kernel
  · unfold Heads; decide +kernel

/-- What the host may find: a session, a card, a void-list entry, and three slots DONE with the results of a PAY, of a read and of no fields. -/
def shown : State :=
  (((((authorizing openHolder).onTerminal fun t => { t with voidList := [{ reference := 20, amount := 100, attempts := 1 }] }).onSlot 1 fun c =>
    { c with state := .done, status := .noSuch }).onSlot 7 fun c => { c with state := .done, body := .read (liveResult (aRead .alternate)) }).onSlot 9
      fun c => { c with state := .done, status := .declined }).onSlot 63 fun c => { c with state := .posted }

theorem witness_TheWindowShowsTheRecords :
    State.reset.part = .starting ∧ shown.part = .run ∧ (shown.slot 1).body = .zero ∧ (shown.slot 63).body = .zero
      ∧ (shown.slot 9).body = .pay { reference := 5, asked := 146, approved := none, code := none, reason := none, granted := some 1000 }
      ∧ (shown.slot 7).body = .read (liveResult (aRead .alternate)) ∧ (shown.station 0).session = some 0
      ∧ shown.terminal.voidList[0]? = some { reference := 20, amount := 100, attempts := 1 } ∧ (shown.order 31).state = .free
      ∧ (shown.order 0).state ≠ .free ∧ (shown.order 0).placement = some 0 ∧ (shown.order 0).prices.isSome = true
      ∧ (shown.order 0).reference = some 5 ∧ (shown.order 0).items[0]? = some (anItem .p4 .glossy 3 0)
      ∧ (List.replicate 256 (0#8)).length = 256 ∧ imageFailure (List.replicate 256 (0#8)) = none
      ∧ ({ shown.price with table := tableOfImage (List.replicate 256 0) 1 2 }).table = tableOfImage (List.replicate 256 0) 1 2 := by
  decide +kernel

theorem test_window_reads :
    windowField shown 0 4 = 0x3A716411 ∧ windowField shown 0x124 4 = 3 + 65536 * statusCode .declined
      ∧ windowField shown (0x8000 + 512 * 9 + 400) 2 = 5 ∧ windowField shown (0x1A00 + 76) 4 = 100
      ∧ windowField shown (0x2000 + 128 + 2) 1 = 3 ∧ windowField shown 0x1B14 4 = 0x41 := by decide +kernel

/-- Every kind of result may stand in a slot. -/
theorem witness_TheWindowShowsTheRecords_body (n : SlotId) (body : Body) :
    ((shown.onSlot n fun c => { c with body := body }).slot n).body = body ∧ (shown.onSlot n fun c => { c with body := body }).part = .run :=
  ⟨by simp [State.onSlot, State.slot, look, upd], rfl⟩

theorem witness_TheWindowShowsTheRecords_units :
    ((reading (aRead .alternate)).bay 0).active = some (aRead .alternate) ∧ (kiosk.bay 0).active = none ∧ (reading (aRead .alternate)).part = .run
      ∧ ((printing aCopy).printer 0).copy = some aCopy ∧ (kiosk.printer 0).copy = none ∧ (printing aCopy).part = .run
      ∧ ((printing { aCopy with abortCause := some .underrun }).printer 0).copy = some { aCopy with abortCause := some .underrun }
      ∧ ({ kiosk with price := PriceUnit.reset }).price.table = PriceTable.empty ∧ aFault.areasDied = 0 := by decide +kernel

/-- Offsets counted by hand from the layouts of R184: byte 422 of a refused QUOTE, and the copy and read fields of the unit records. -/
theorem test_window_reads_results :
    windowField (shown.onSlot 2 fun c => { c with body := .quoteItem 3 }) (0x8000 + 1024 + 422) 1 = 3
      ∧ windowField (shown.onSlot 2 fun c => { c with body := .resetPrinter .absent 412 }) (0x8000 + 1024 + 402) 2 = 412
      ∧ windowField (printing aCopy) (0x1800 + 100) 2 = 1 ∧ windowField (printing aCopy) (0x1800 + 112) 2 = 150
      ∧ windowField (reading (aRead .alternate)) (0x1400 + 40) 2 = 100 ∧ windowField (reading (aRead .alternate)) (0x1400 + 44) 4 = 16384 := by
  decide +kernel

/-! ## Witnesses: what follows an event -/

/-- Printer 0 short, with two orders placed on it, one PRICED and one in its queue, and a copy in flight; order 3 is HELD. -/
def shortStock : State :=
  ({ (((printing aCopy).onOrder 1 fun _ => { (priced.order 0) with stamp := 1 }).onOrder 2 fun _ => { (priced.order 0) with state := .paying, stamp := 2 }).onOrder 3
      fun _ => { (priced.order 0) with state := .held, placement := none } with heldList := [3] }).onEntry 0 fun e => { e with reported := 7 }

theorem witness_StockFiguresPlaceAndRelease :
    (shortStock.order 0).placement = some 0 ∧ (shortStock.order 4).placement = none
      ∧ (shortStock.printer 0).copy = some aCopy ∧ aCopy.order = 0 ∧ aCopy.releasedEarly = false ∧ (shortStock.printer 1).copy = none
      ∧ (shortStock.order aCopy.order).items[aCopy.item]? = some { anItem .p4 .glossy 3 0 with state := .active, inFlight := 1 }
      ∧ ({ aCopy with releasedEarly := true }).releasedEarly = true
      ∧ shortStock.usable 0 < shortStock.committed 0 ∧ shortStock.committed 1 ≤ shortStock.usable 1 ∧ aCopy.abortCause = none
      ∧ ({ aCopy with abortCause := some .underrun }).abortCause = some .underrun
      ∧ (shortStock.order 1).state = .priced ∧ (shortStock.order 2).state = .paying ∧ (shortStock.order 0).state = .printing
      ∧ (remainingUnits (shortStock.order 0) ≤ shortStock.freeRoom 1)
      ∧ ({ shortStock with stock := State.reset.stock }).freeRoom 1 < remainingUnits (shortStock.order 0)
      ∧ (shortStock.order 3).state = .held ∧ shortStock.choosePrinter (remainingUnits (shortStock.order 3)) = some 1
      ∧ State.reset.freeRoom 0 < remainingUnits (shortStock.order 3) ∧ State.reset.freeRoom 1 < remainingUnits (shortStock.order 3) := by
  decide +kernel

theorem test_release_order : releaseOrderList shortStock 0 = [1, 2, 0] ∧ shortStock.heldList = [3] := by decide +kernel

theorem test_unprintable_copy_is_not_reserved :
    (printing aCopy).reservation 0 = 3 * sizeUnits .p4
      ∧ ((printing aCopy).onOrder 0 fun r => { r with items := r.items.map fun i => { i with state := .unprintable } }).reservation 0 = 0 := by
  decide +kernel

/-! ## Witnesses: stations and sessions -/

theorem witness_OpenSessionOpensOrRefuses :
    (Heads (asked 3 .openSession [(2, [0])] kiosk) .openSession 3 [] ∧ stationField ((asked 3 .openSession [(2, [0])] kiosk).slot 3) = 0
        ∧ (kiosk.station 0).session = some 0)
      ∧ (Heads (asked 3 .openSession [(2, [1])] kiosk) .openSession 3 [] ∧ stationField ((asked 3 .openSession [(2, [1])] kiosk).slot 3) = 1
        ∧ (kiosk.station 1).session = none ∧ (kiosk.session 1).state = .free ∧ ∀ j : SessionId, j < 1 → (kiosk.session j).state ≠ .free)
      ∧ (∀ k, (fullSessions.session k).state ≠ .free) := by
  unfold Heads; decide +kernel

theorem witness_ClosingASessionTakesItsSteps :
    (kiosk.session 0).state = .active ∧ (∀ o ∈ (kiosk.session 0).orders, (kiosk.order o).session = 0)
      ∧ (∀ r ∈ (kiosk.bay 0).waiting, (kiosk.slot r.slot).state = .taken)
      ∧ (∀ o ∈ (kiosk.session 0).orders, (kiosk.order o).state = .draft ∨ (kiosk.order o).state = .priced ∨ (kiosk.order o).state = .closed
          ∨ (kiosk.order o).state = .cancelled)
      ∧ ((printing aCopy).order 0).state = .printing ∧ ((reading (aRead .single)).bay 0).active = some (aRead .single)
      ∧ ((reading (aRead .single)).bay 0).run = .running := by decide +kernel

theorem witness_SessionsCloseByHostOrIdle :
    Heads (asked 3 .closeSession [(2, [1])] kiosk) .closeSession 3 [] ∧ (kiosk.station 1).session = none
      ∧ Heads (asked 3 .closeSession [(2, [0])] (authorizing openHolder)) .closeSession 3 []
      ∧ ((authorizing openHolder).session 0).orders = [] ++ 0 :: [] ∧ ((authorizing openHolder).order 0).state = .paying
      ∧ Heads (asked 3 .closeSession [(2, [0])] kiosk) .closeSession 3 [] ∧ (kiosk.station 0).session = some 0
      ∧ (∀ o ∈ (kiosk.session 0).orders, (kiosk.order o).state ≠ .paying)
      ∧ kiosk.part = .run ∧ (kiosk.session 0).state = .active ∧ (kiosk.session 0).deadline.isSome = true := by
  unfold Heads; decide +kernel

theorem witness_LampsFollowTheirCauses :
    (kiosk.station 0).session.isSome = true ∧ (kiosk.station 1).session = none ∧ 0 < kiosk.usable 0 ∧ kiosk.terminal.state = .idle
      ∧ State.reset.usable 0 = 0 ∧ State.reset.usable 1 = 0
      ∧ (kiosk.onStation 0 fun t => { t with notice := some 1010 }).callCause 0 = true ∧ (kiosk.station 0).call = false
      ∧ (((kiosk.onStation 0 fun t => { t with notice := some 1010, call := true, minimumOn := some 1002 }).station 0).call = true)
      ∧ kiosk.callCause 0 = false ∧ (kiosk.station 0).minimumOn = none ∧ kiosk.part = .run ∧ (kiosk.station 0).ready = .blink
      ∧ (kiosk.station 0).notice = none ∧ (kiosk.station 1).ready ≠ .blink := by decide +kernel

/-! ## Witnesses: orders -/

/-- A full order table, all of other sessions. -/
def fullTable : State := { kiosk with orders := Vector.replicate 32 { Order.reset with state := .closed, serial := 1, session := 1 } }

theorem witness_OpenOrderCreatesOrRefuses :
    Heads (asked 3 .openOrder [(2, [1])] kiosk) .openOrder 3 [] ∧ (kiosk.station 1).session = none
      ∧ Heads (asked 3 .openOrder [(2, [0])] kiosk) .openOrder 3 [] ∧ (kiosk.station 0).session = some 0
      ∧ 2 ≤ ({ kiosk with sessions := kiosk.sessions.set 0 { kiosk.session 0 with orders := [0, 0] } }).nonFinalCount 0
      ∧ fullTable.nonFinalCount 0 < 2 ∧ (∀ o, (fullTable.order o).state ≠ .free)
      ∧ kiosk.nonFinalCount 0 < 2 ∧ (kiosk.order 1).state = .free ∧ (∀ x : OrderId, x < 1 → (kiosk.order x).state ≠ .free) := by
  unfold Heads; decide +kernel

/-- ADD_ITEM on order 0: size, finish, quantity, address and length. -/
def addFields (size finish quantity : Byte) (address length : Nat) : List (Nat × List Byte) :=
  handle0 ++ [(24, [size, finish, quantity]), (32, leBytes 8 address), (40, leBytes 4 length)]

def adding (f : List (Nat × List Byte)) : State := asked 3 .addItem f kiosk

theorem names0 (s : State) (n : SlotId) (h : handleField (s.slot n) = some { index := 0, serial := 1 } ∧ (s.order 0).state ≠ .free
    ∧ (s.order 0).serial = 1) : Names s n 0 := by
  refine ⟨_, h.1, ?_, rfl⟩
  unfold State.isCurrent
  simp [h.2.1, h.2.2]

theorem witness_AddItemAppendsAPendingItem :
    (Heads (adding (addFields 4 0 1 0 0)) .addItem 3 [] ∧ Names (adding (addFields 4 0 1 0 0)) 3 0)
      ∧ 3 < reqByte ((adding (addFields 4 0 1 0 0)).slot 3) 24
      ∧ 1 < reqByte ((adding (addFields 1 2 1 0 0)).slot 3) 25
      ∧ 99 < reqByte ((adding (addFields 1 0 100 0 0)).slot 3) 26
      ∧ reqField ((adding (addFields 1 0 1 0 5)).slot 3) 40 4 ≠ rasterBytes .p4
      ∧ (adding (addFields 1 0 1 0 (rasterBytes .p4))).findAperture .read 0 (rasterBytes .p4) = none
      ∧ (Heads (adding (addFields 1 0 1 0x10000000 (rasterBytes .p4))) .addItem 3 []
          ∧ reqField ((adding (addFields 1 0 1 0x10000000 (rasterBytes .p4))).slot 3) 40 4 = rasterBytes .p4
          ∧ reqByte ((adding (addFields 1 0 1 0x10000000 (rasterBytes .p4))).slot 3) 24 = sizeCode .p4
          ∧ (adding (addFields 1 0 1 0x10000000 (rasterBytes .p4))).findAperture .read
              (reqField ((adding (addFields 1 0 1 0x10000000 (rasterBytes .p4))).slot 3) 32 8) (rasterBytes .p4) = some 0
          ∧ (kiosk.order 0).state = .draft ∧ (kiosk.order 0).items.length < 24)
      ∧ 24 ≤ ((withOrder0 fun r => { r with items := List.replicate 24 (anItem .p4 .glossy 1 0) }).order 0).items.length
      ∧ ((printing aCopy).order 0).state ≠ .draft := by
  refine ⟨⟨by unfold Heads; decide +kernel, names0 _ _ (by decide +kernel)⟩, ?_⟩
  unfold Heads; decide +kernel

def editing (k : Kind) (f : List (Nat × List Byte)) : State := asked 3 k (handle0 ++ f) kiosk

theorem witness_EditsReturnToDraftAndApply :
    Names (editing .changeItem [(24, [0, 1, 5])]) 3 0 ∧ ((editing .changeItem [(24, [0, 1, 5])]).order 0).state = .draft
      ∧ (Heads (editing .changeItem [(24, [0, 1, 5])]) .changeItem 3 [] ∧ (kiosk.order 0).items[0]? = some (anItem .p4 .glossy 3 0)
          ∧ reqByte ((editing .changeItem [(24, [0, 1, 5])]).slot 3) 24 = 0 ∧ reqByte ((editing .changeItem [(24, [0, 1, 5])]).slot 3) 25 = finishCode .matte
          ∧ reqByte ((editing .changeItem [(24, [0, 1, 5])]).slot 3) 26 = 5)
      ∧ (Heads (editing .removeItem [(24, [0])]) .removeItem 3 [] ∧ reqByte ((editing .removeItem [(24, [0])]).slot 3) 24 < (kiosk.order 0).items.length)
      ∧ (Heads (editing .setPromo [(24, [15])]) .setPromo 3 [] ∧ reqByte ((editing .setPromo [(24, [15])]).slot 3) 24 < 16)
      ∧ (Heads (editing .setPromo [(24, [0xFF])]) .setPromo 3 [] ∧ reqByte ((editing .setPromo [(24, [0xFF])]).slot 3) 24 = 0xFF) := by
  refine ⟨names0 _ _ (by decide +kernel), ?_⟩
  unfold Heads; decide +kernel

theorem witness_OrderRequestsRefuseStateAndRange :
    (Heads (editing .changeItem [(24, [1, 0, 1])]) .changeItem 3 [] ∧ Names (editing .changeItem [(24, [1, 0, 1])]) 3 0
        ∧ (kiosk.order 0).items.length ≤ reqByte ((editing .changeItem [(24, [1, 0, 1])]).slot 3) 24)
      ∧ (Heads (editing .removeItem [(24, [1])]) .removeItem 3 [] ∧ (kiosk.order 0).items.length ≤ reqByte ((editing .removeItem [(24, [1])]).slot 3) 24)
      ∧ (Heads (editing .setPromo [(24, [16])]) .setPromo 3 [] ∧ 16 ≤ reqByte ((editing .setPromo [(24, [16])]).slot 3) 24)
      ∧ (Heads (asked 3 .removeItem (handle0 ++ [(24, [0])]) (printing aCopy)) .removeItem 3 [] ∧ ((printing aCopy).order 0).state ≠ .draft
          ∧ ((printing aCopy).order 0).state ≠ .priced)
      ∧ ((withOrder0 fun r => { r with items := r.items.map fun i => { i with state := .unprintable } }).order 0).items[0]?
          = some { anItem .p4 .glossy 3 0 with state := .unprintable }
      ∧ (Heads (asked 3 .quote handle0 priced) .quote 3 [] ∧ (priced.order 0).state ≠ .draft)
      ∧ (Heads (asked 3 .pay handle0 kiosk) .pay 3 [] ∧ (kiosk.order 0).state ≠ .priced)
      ∧ (Heads (asked 3 .cancelOrder handle0 (settling (answering .settlement 146 (some 0)))) .cancelOrder 3 []
          ∧ ((settling (answering .settlement 146 (some 0))).order 0).state = .settling) := by
  refine ⟨⟨by unfold Heads; decide +kernel, names0 _ _ (by decide +kernel), by decide +kernel⟩, ?_⟩
  unfold Heads; decide +kernel

theorem witness_QuotePricesAndPlaces :
    (Heads (asked 3 .quote handle0 kiosk) .quote 3 [] ∧ Names (asked 3 .quote handle0 kiosk) 3 0 ∧ (kiosk.order 0).state = .draft)
      ∧ ((withOrder0 fun r => { r with items := [] }).order 0).items = []
      ∧ (sizeEntry workedTable .p2).offered = false
      ∧ 9999999 < (fixedPrices { workedTable with surcharge := 65535 } (List.replicate 24 (anItem .p4 .matte 99 0)) none).total
      ∧ (∀ x ∈ (kiosk.order 0).items, x.state ≠ .unprintable ∧ (sizeEntry kiosk.price.table x.size).offered = true)
      ∧ (fixedPrices kiosk.price.table (kiosk.order 0).items none).total ≤ 9999999
      ∧ quoteUnits (kiosk.order 0).items ≤ kiosk.freeRoom 0 ∧ kiosk.freeRoom 1 < kiosk.freeRoom 0
      ∧ State.reset.freeRoom 0 < quoteUnits (kiosk.order 0).items ∧ State.reset.freeRoom 1 < quoteUnits (kiosk.order 0).items := by
  refine ⟨⟨by unfold Heads; decide +kernel, names0 _ _ (by decide +kernel), by decide +kernel⟩, by decide +kernel⟩

theorem witness_PayJoinsTheWaitListOrIsPaid :
    (Heads (asked 3 .pay handle0 priced) .pay 3 [] ∧ Names (asked 3 .pay handle0 priced) 3 0 ∧ (priced.order 0).state = .priced)
      ∧ (∃ x, x ≠ 0 ∧ ((priced.onOrder 1 fun r => { r with state := .paying }).order x).state = .paying
          ∧ ((priced.onOrder 1 fun r => { r with state := .paying }).order x).station = (priced.order 0).station)
      ∧ (∀ x, x ≠ 0 → (priced.order x).state = .paying → (priced.order x).station ≠ (priced.order 0).station)
      ∧ 0 < orderTotal (priced.order 0) ∧ State.reset.terminal.state = .absent ∧ priced.terminal.state = .idle
      ∧ (priced.session (priced.order 0).session).orders.contains 0 = true
      ∧ orderTotal ((priced.onOrder 0 fun r => { r with prices := none }).order 0) = 0 ∧ (priced.order 0).placement = some 0
      ∧ (∀ q, 0 ∉ (priced.printer q).queue) :=
  ⟨⟨by unfold Heads; decide +kernel, names0 _ _ (by decide +kernel), by decide +kernel⟩, ⟨1, by decide +kernel⟩, by decide +kernel⟩

theorem witness_CancelOrderByTheOrderState :
    (Heads (asked 3 .cancelOrder handle0 priced) .cancelOrder 3 [] ∧ Names (asked 3 .cancelOrder handle0 priced) 3 0
        ∧ (priced.order 0).state = .priced)
      ∧ (Heads (asked 3 .cancelOrder handle0 (printing aCopy)) .cancelOrder 3 [] ∧ ((printing aCopy).order 0).state = .printing)
      ∧ ((withOrder0 fun r => { r with state := .held }).order 0).state = .held
      ∧ (anItem .p4 .glossy 3 0).state = .pending ∧ ({ anItem .p4 .glossy 3 0 with state := .unprintable }).state = .unprintable :=
  ⟨⟨by unfold Heads; decide +kernel, names0 _ _ (by decide +kernel), by decide +kernel⟩, by unfold Heads; decide +kernel, by decide +kernel⟩

/-- Order 0 PRINTING with every copy printed. -/
def printedOut : State := (printing aCopy).onOrder 0 fun r => { r with items := r.items.map fun i => { i with state := .done, inFlight := 0, printed := 3 } }

theorem witness_SettlementTriggerRuns :
    (printedOut.order 0).state = .printing ∧ (∀ i ∈ (printedOut.order 0).items, (i.state = .done ∨ i.state = .unprintable) ∧ i.inFlight = 0)
      ∧ orderTotal (printedOut.order 0) ≠ 0 ∧ orderTotal ((printedOut.onOrder 0 fun r => { r with prices := none }).order 0) = 0 := by
  decide +kernel

theorem witness_RetireFreesAFinalOrder :
    (Heads (asked 3 .retireOrder handle0 (withOrder0 fun r => { r with state := .closed })) .retireOrder 3 []
        ∧ Names (asked 3 .retireOrder handle0 (withOrder0 fun r => { r with state := .closed })) 3 0)
      ∧ (Heads (asked 3 .retireOrder handle0 kiosk) .retireOrder 3 [] ∧ (kiosk.order 0).state ≠ .closed ∧ (kiosk.order 0).state ≠ .cancelled) :=
  ⟨⟨by unfold Heads; decide +kernel, names0 _ _ (by decide +kernel)⟩, by unfold Heads; decide +kernel⟩

theorem witness_HoldAndGraceExpire :
    priced.part = .run ∧ (priced.order 0).state = .priced ∧ (priced.order 0).hold = .running 1300
      ∧ ((kiosk.onEntry 0 fun e => { e with grace := some 1100 }).entry 0).grace.isSome = true ∧ (kiosk.order 0).state ≠ .priced
      ∧ (kiosk.entry 0).grace = none := by decide +kernel

/-! ## Witnesses: the terminal -/

theorem witness_PaymentOutcomesMoveTheOrder :
    ((authorizing openHolder).order 0).placement = some 0 ∧ (∀ q, 0 ∉ ((authorizing openHolder).printer q).queue)
      ∧ (((authorizing openHolder).onOrder 0 fun r => { r with placement := none }).order 0).placement = none
      ∧ (∀ p, ({ authorizing openHolder with stock := State.reset.stock }).freeRoom p < remainingUnits ((authorizing openHolder).order 0))
      ∧ remainingUnits ((authorizing openHolder).order 0) ≤ (authorizing openHolder).freeRoom 0
      ∧ (authorizing openHolder).freeRoom (otherPrinter 0) < (authorizing openHolder).freeRoom 0
      ∧ (∀ i ∈ ((authorizing openHolder).order 0).items, i.state ≠ .unprintable)
      ∧ ((authorizing openHolder).slot 9).state = .taken
      ∧ ((authorizing openHolder).session 0).state = .active ∧ ((authorizing openHolder).session 0).orders.contains 0 = true
      ∧ (∀ x ∈ ((authorizing openHolder).session 0).orders, x = 0 ∨ ((authorizing openHolder).order x).state ≠ .paying) := by decide +kernel

/-- An exchange that is being aborted, for a PAY or for none. -/
def abortingHolder (slot : Option SlotId) : Holder :=
  { openHolder with exchange := .aborting, slot := slot, order := slot.map fun _ => 0, cardWaitLimit := none, abortLimit := some 1005 }

theorem witness_AuthorizationEndsByItsAnswer :
    (authorizing openHolder).part = .run ∧ (authorizing openHolder).terminal.state = .authorizing
      ∧ (authorizing openHolder).terminal.holder = some openHolder ∧ openHolder.kind = .authorization
      ∧ openHolder.slot = some 9 ∧ openHolder.order = some 0 ∧ (146#32).toNat = openHolder.amount ∧ (100#32).toNat ≠ openHolder.amount
      ∧ openHolder.exchange = .opened ∧ openHolder.cardSeen = false ∧ ({ openHolder with cardSeen := true }).cardSeen = true
      ∧ (authorizing (abortingHolder (some 9))).terminal.holder = some (abortingHolder (some 9))
      ∧ (abortingHolder (some 9)).exchange = .aborting ∧ (abortingHolder (some 9)).kind = .authorization
      ∧ (authorizing (abortingHolder none)).terminal.holder = some (abortingHolder none) ∧ (abortingHolder none).slot = none
      ∧ (6#16 : W16) ≠ openHolder.reference ∧ (6#16 : W16) ∉ (authorizing openHolder).terminal.uncollectedReferences
      ∧ (6#16 : W16) ∈ ((authorizing openHolder).onTerminal fun t => { t with uncollectedReferences := [6] }).terminal.uncollectedReferences := by
  decide +kernel

theorem witness_SettlementEndsByItsAnswer :
    (settling (answering .settlement 146 (some 0))).part = .run ∧ (settling (answering .settlement 146 (some 0))).terminal.state = .settling
      ∧ (settling (answering .settlement 146 (some 0))).terminal.holder = some (answering .settlement 146 (some 0))
      ∧ (answering .settlement 146 (some 0)).order = some 0 ∧ (answering .settlement 0 (some 0)).amount = 0
      ∧ (answering .followUpVoid 100 none).kind = .followUpVoid ∧ (answering .listVoid 100 none).kind = .listVoid ∧ (1#8 : Byte) ≠ 3#8
      ∧ (answering .listVoid 100 none).attempts < 2 ∧ 2 ≤ ({ answering .listVoid 100 none with attempts := 2 }).attempts
      ∧ (answering .settlement 146 (some 0)).kind ≠ .authorization ∧ (6#16 : W16) ≠ (answering .settlement 146 (some 0)).reference
      ∧ (145#32).toNat ≠ (answering .settlement 146 (some 0)).amount
      ∧ (5#16 : W16) ∉ (settling (answering .settlement 146 (some 0))).terminal.uncollectedReferences
      ∧ ((kiosk.onSession 0 fun e => { e with state := .draining }).session 0).state = .draining
      ∧ (∀ x ∈ (kiosk.session 0).orders, x = 0 ∨ nonFinal (kiosk.order x) = false) := by decide +kernel

theorem test_late_capture_of_a_retired_order :
    lateCapture (countUncollected (answering .settlement 146 (some 0)) (withOrder0 fun _ => Order.reset)) 5 = true := by decide +kernel

theorem witness_ExchangeLimitsRunOut :
    (authorizing openHolder).part = .run ∧ (authorizing openHolder).terminal.holder = some openHolder
      ∧ openHolder.cardWaitLimit.isSome = true ∧ openHolder.authorizationLimit.isSome = true ∧ openHolder.exchange = .opened
      ∧ openHolder.slot = some 9 ∧ openHolder.order = some 0 ∧ (abortingHolder (some 9)).authorizationLimit.isSome = true
      ∧ (abortingHolder (some 9)).abortLimit.isSome = true ∧ (abortingHolder none).abortLimit.isSome = true ∧ (abortingHolder none).slot = none
      ∧ (answering .settlement 146 (some 0)).answerLimit.isSome = true ∧ (answering .settlement 146 (some 0)).attempts < 2
      ∧ 2 ≤ ({ answering .settlement 0 (some 0) with attempts := 2 }).attempts
      ∧ (answering .followUpVoid 146 none).answerLimit.isSome = true
      ∧ (answering .listVoid 146 none).attempts < 2 ∧ 2 ≤ ({ answering .listVoid 146 none with attempts := 2 }).attempts := by decide +kernel

theorem witness_ExchangeLimitsRunOut_link :
    (settling (answering .settlement 146 (some 0))).terminal.watch.isSome = true ∧ (authorizing openHolder).terminal.watch.isSome = true
      ∧ kiosk.terminal.watch.isSome = true ∧ kiosk.terminal.holder = none ∧ (answering .settlement 146 (some 0)).order = some 0
      ∧ (abortingHolder none).kind = .authorization ∧ (answering .followUpVoid 146 none).kind = .followUpVoid
      ∧ (answering .listVoid 146 none).kind = .listVoid ∧ (settling (answering .listVoid 146 none)).part = .run
      ∧ (kiosk.onTerminal fun t => { t with state := .offline }).terminal.state = .offline ∧ State.reset.terminal.state = .absent
      ∧ kiosk.terminal.state = .idle ∧ (5#16 : W16) ∉ kiosk.terminal.uncollectedReferences
      ∧ (5#16 : W16) ∈ (kiosk.onTerminal fun t => { t with uncollectedReferences := [5] }).terminal.uncollectedReferences := by decide +kernel

/-- The PAY of slot 9 waits, and the counter stands at a reference that order 0 still has. -/
def skipping : State :=
  (authorizing openHolder).onTerminal fun t =>
    { t with state := .idle, holder := none, waitList := [{ slot := 9, order := 0, station := 0 }], nextReference := 5 }

theorem test_live_reference_is_skipped :
    (arbiter skipping).terminal.nextReference = 7 ∧ (arbiter skipping).out = [.authorize 6 146 978] := by decide +kernel

theorem witness_ArbiterAndVoidListInOrder_grant :
    skipping.terminal.state = .idle ∧ skipping.terminal.holder = none ∧ skipping.terminal.pendingSettlements = []
      ∧ skipping.terminal.voidList = [] ∧ skipping.terminal.waitList = { slot := 9, order := 0, station := 0 } :: []
      ∧ (skipping.order 0).state = .paying ∧ skipping.terminal.nextReference ≠ 0 ∧ (skipping.slot 9).state = .taken
      ∧ (answering .followUpVoid 100 none).kind ≠ .listVoid ∧ sixteen = { reference := 20, amount := 100, attempts := 0 } :: sixteen.tail := by
  decide +kernel

theorem witness_ArbiterAndVoidListInOrder :
    State.reset.terminal.state ≠ .idle ∧ kiosk.terminal.state = .idle ∧ kiosk.terminal.holder = none
      ∧ ((settling openHolder).order 0).reference = some 5 ∧ ((settling openHolder).order 0).settlement = some 146
      ∧ kiosk.terminal.pendingSettlements = [] ∧ kiosk.terminal.voidList = [] ∧ ((authorizing openHolder).order 0).state = .paying
      ∧ kiosk.terminal.nextReference ≠ 0 ∧ (∃ e ∈ sixteen, e.reference = 20) ∧ (∀ e ∈ sixteen, e.reference ≠ 5) ∧ sixteen.length = 16
      ∧ ([] : List VoidEntry).length < 16 ∧ (∀ x ∈ sixteen.tail, x.reference ≠ 20)
      ∧ ({ answering .listVoid 100 none with reference := 20 }).kind = .listVoid ∧ (21#16 : W16) ≠ 20#16
      ∧ (∀ x ∈ sixteen.tail.tail, x.reference ≠ 21)
      ∧ [({ order := 1, attempts := 0 } : PendingSettlement), { order := 3, attempts := 1 }].Pairwise (fun a b => a.order ≤ b.order) := by
  decide +kernel

/-! ## Witnesses: card bays -/

/-- READ_CARD at station 0 on bay 0. -/
def readFields (mode : Byte) (generation first count chunk a length b : Nat) : List (Nat × List Byte) :=
  [(2, [0]), (16, [0, mode]), (18, leBytes 2 generation), (20, leBytes 4 first), (24, leBytes 2 count), (28, leBytes 4 chunk),
   (32, leBytes 8 a), (40, leBytes 4 length), (48, leBytes 8 b)]

def single : State := asked 7 .readCard (readFields 0 1 0 100 0 0x10000000 51200 0) kiosk
def alternate : State := asked 7 .readCard (readFields 1 1 0 100 16384 0x10000000 0 0x10004000) kiosk

theorem witness_ReadCardChecksAndStarts :
    (Heads single .readCard 7 [] ∧ stationField (single.slot 7) = 0 ∧ reqByte (single.slot 7) 16 = 0 ∧ reqField (single.slot 7) 24 2 ≠ 0
        ∧ reqByte (single.slot 7) 17 = 0 ∧ reqField (single.slot 7) 24 2 * 512 ≤ reqField (single.slot 7) 40 4
        ∧ single.findAperture .write (reqField (single.slot 7) 32 8) (reqField (single.slot 7) 40 4) = some 0)
      ∧ (Heads alternate .readCard 7 [] ∧ reqByte (alternate.slot 7) 17 = 1 ∧ reqField (alternate.slot 7) 28 4 % 4096 = 0
          ∧ reqField (alternate.slot 7) 32 8 + reqField (alternate.slot 7) 28 4 ≤ reqField (alternate.slot 7) 48 8
          ∧ alternate.findAperture .write (reqField (alternate.slot 7) 48 8) (reqField (alternate.slot 7) 28 4) = some 0)
      ∧ (Heads (asked 7 .readCard (readFields 0 1 0 0 0 0 0 0) kiosk) .readCard 7 []
          ∧ readAreasOf (asked 7 .readCard (readFields 0 1 0 0 0 0 0 0) kiosk) 0 ((asked 7 .readCard (readFields 0 1 0 0 0 0 0 0) kiosk).slot 7) = none)
      ∧ (readAreasOf single 0 (single.slot 7)).isSome = true ∧ (single.station 0).session.isSome = true
      ∧ (single.bay 0).state = .ready ∧ reqField (single.slot 7) 18 2 = (single.bay 0).generation.toNat
      ∧ reqField (single.slot 7) 20 4 + reqField (single.slot 7) 24 2 ≤ 4096 ∧ (single.bay 0).active = none ∧ (single.bay 0).waiting = []
      ∧ ((reading (aRead .single)).bay 0).active = some (aRead .single) := by
  unfold Heads; decide +kernel

theorem witness_CardsArriveAndAreIdentified :
    kiosk.part = .run ∧ (kiosk.bay 1).state = .empty ∧ (kiosk.bay 0).state ≠ .empty ∧ (kiosk.bay 0).state ≠ .settling
      ∧ ((kiosk.onBay 1 fun y => { y with state := .settling, settle := .running 250 }).bay 1).settle.isRunning = true
      ∧ ((kiosk.onBay 1 fun y => { y with state := .identifying, identify := .running 100 }).bay 1).identify.isRunning = true
      ∧ (kiosk.bay 1).waiting = [] ∧ (kiosk.bay 1).identifySends < 2 ∧ (kiosk.station 0).session = some 0
      ∧ (kiosk.station 1).session = none ∧ (∀ k, (fullSessions.session k).state ≠ .free)
      ∧ (kiosk.session 1).state = .free ∧ (∀ j : SessionId, j < 1 → (kiosk.session j).state ≠ .free)
      ∧ 2 ≤ ((kiosk.onBay 1 fun y => { y with identifySends := 2 }).bay 1).identifySends
      ∧ (0x1234#16 : W16) ≠ crc16 (beBytes 4 4096 ++ beBytes 4 77) := by decide +kernel

/-- A card removed under an active read, and contacts outside RUN. -/
theorem witness_CardsArriveAndAreIdentified_removal :
    ((reading (aRead .single)).bay 0).state ≠ .empty ∧ ((reading (aRead .single)).bay 0).state ≠ .settling
      ∧ ((reading (aRead .single)).bay 0).active = some (aRead .single) ∧ (aRead .single).ended = none ∧ (aRead .single).mark = none
      ∧ ({ aRead .single with mark := some .cancelled }).mark = some .cancelled ∧ (aRead .single).accepted ≠ (aRead .single).count
      ∧ ((reading (aRead .single)).slot 7).state = .taken ∧ ((reading (aRead .single)).bay 0).waiting = []
      ∧ (aRead .alternate).liveA = true ∧ (aRead .alternate).liveB = true ∧ ((reading (aRead .single)).bay 0).half0.state = .empty
      ∧ (kiosk.bay 0).identify.isRunning = false ∧ State.reset.part ≠ .run := by decide +kernel

theorem witness_BlocksFillHalvesOrAreRetried :
    (reading (aRead .single)).part = .run ∧ ((reading (aRead .single)).bay 0).active = some (aRead .single)
      ∧ ((reading (aRead .single)).bay 0).run = .running ∧ (aRead .single).ended = none ∧ (aRead .single).mark = none
      ∧ (List.replicate 512 (7#8)).length = 512 ∧ ((reading (aRead .single)).bay 0).block.isRunning = true ∧ (aRead .single).failures < 2
      ∧ 2 ≤ ({ aRead .single with failures := 2 }).failures ∧ ({ aRead .single with mark := some .cancelled }).mark = some .cancelled
      ∧ ({ aRead .single with accepted := 99 }).accepted + 1 = (aRead .single).count := by decide +kernel

/-- A read at the eighth block of half 0; half 1 is in the given state. -/
def atBoundary (next : HalfState) : State :=
  (reading { aRead .single with accepted := 7 }).onBay 0 fun y =>
    { y with half0 := { state := .filling, blocks := 7, data := [] }, half1 := { state := next, blocks := 0, data := [] } }

/-- The half the next block goes into decides whether the card clock stops. -/
theorem test_card_clock_stops_at_a_full_half :
    ((acceptBlock 0 { aRead .single with accepted := 7 } [] (atBoundary .full)).bay 0).run = .clockStopped
      ∧ ((acceptBlock 0 { aRead .single with accepted := 7 } [] (atBoundary .writing)).bay 0).run = .clockStopped
      ∧ ((acceptBlock 0 { aRead .single with accepted := 7 } [] (atBoundary .empty)).bay 0).run = .running := by decide +kernel

/-- A read that ends with one half WRITING and one FULL. -/
def windingDown (mode : ReadMode) : State :=
  (reading { aRead mode with accepted := 16 }).onBay 0 fun y =>
    { y with half0 := { state := .writing, blocks := 8, data := [] }, half1 := { state := .full, blocks := 8, data := [] } }

theorem witness_BlocksFillHalvesOrAreRetried_end :
    ((windingDown .alternate).bay 0).active = some { aRead .alternate with accepted := 16 } ∧ ((windingDown .alternate).bay 0).half0.state = .writing
      ∧ ((windingDown .alternate).bay 0).half1.state = .full ∧ ((windingDown .alternate).bay 0).card.isSome = true
      ∧ (aRead .alternate).liveA = true ∧ (aRead .alternate).liveB = true ∧ (aRead .single).mode = .single ∧ (EndCause.cancelled ≠ .readFault)
      ∧ (0 + 8) * 512 / (aRead .alternate).chunk < (aRead .alternate).givenBack + 2
      ∧ (aRead .alternate).givenBack + 2 ≤ (56 + 8) * 512 / (aRead .alternate).chunk := by decide +kernel

theorem test_removed_card_gets_no_halt :
    (windDown 0 .cancelled ((windingDown .single).onBay 0 fun y => { y with card := none })).out = []
      ∧ (windDown 0 .cancelled (windingDown .single)).out = [.halt 0] := by decide +kernel

/-- A removed card's read keeps a WRITING and a FULL half; one with nothing but a FILLING half completes at once. -/
theorem test_removal_keeps_what_can_be_written :
    ((removeCard 0 (windingDown .single)).bay 0).half1.state = .full ∧ ((removeCard 0 (windingDown .single)).slot 7).state = .taken
      ∧ ((removeCard 0 (atBoundary .empty)).slot 7).status = .cardGone ∧ (removeCard 0 (atBoundary .empty)).out = [] := by decide +kernel

/-- An ALTERNATE read that waits for a GIVE_BACK. -/
def waiting : State :=
  (reading { aRead .alternate with accepted := 72, delivered := 64, filled := 2, waited := 5 }).onBay 0 fun y =>
    { y with giveBackWait := true, waitLimit := true, waitLength := 5 }

theorem witness_GiveBackAndItsLimits :
    waiting.part = .run ∧ (waiting.bay 0).active = some { aRead .alternate with accepted := 72, delivered := 64, filled := 2, waited := 5 }
      ∧ waiting.pcieUp = true ∧ (waiting.slot 7).state = .taken ∧ (waiting.bay 0).giveBackWait = true ∧ (waiting.bay 0).waitLimit = true
      ∧ (waiting.bay 0).run = .running ∧ ((waiting.onBay 0 fun y => { y with run := .halted }).bay 0).run = .halted
      ∧ (∀ c, c ≠ 0 → (waiting.bay c).active = none) := by decide +kernel

/-- A marked read at the halt after 2 s and at the stall limit. -/
theorem witness_GiveBackAndItsLimits_marked :
    ({ aRead .alternate with mark := some .cancelled }).mark = some .cancelled
      ∧ ((waiting.onBay 0 fun y => { y with run := .clockStopped }).bay 0).run = .clockStopped ∧ (kiosk.bay 0).giveBackWait = false
      ∧ ((waiting.onBay 0 fun y => { y with waitLimit := false }).bay 0).waitLimit = false := by decide +kernel

/-- The halt is the boundary of a marked read: it winds down there, and completes, as nothing of it is WRITING. -/
theorem test_marked_read_ends_at_the_halt :
    let s := waiting.onActive 0 fun r => { r with mark := some .cancelled }
    ((waitTooLong 0 s).slot 7).status = .cancelled ∧ (waitTooLong 0 s).out = [.halt 0] ∧ canStall (s.bay 0) = false := by decide +kernel

theorem noRead_kiosk (s : State) (n : SlotId) (h : ∀ b, (s.bay b).waiting = [] ∧ (s.bay b).active = none) : noRead s n := by
  intro b
  rw [(h b).1, (h b).2]
  exact ⟨fun _ m => (nomatch m), fun _ e => (nomatch e)⟩

theorem noPay_kiosk (s : State) (n : SlotId) (h : s.terminal.waitList = [] ∧ s.terminal.holder = none) : noPay s n := by
  refine ⟨fun e m => ?_, fun x m => ?_⟩
  · rw [h.1] at m; cases m
  · rw [h.2] at m; cases m

theorem noLoad_kiosk (s : State) (n : SlotId) (h : s.price.load = none) : noLoad s n := fun l m => by rw [h] at m; cases m

def aLoad (fetching : Bool) : Load :=
  { slot := 57, tag := 0x42, address := 0x10000000, aperture := 0, fetching := fetching, cancelled := false, areaDead := false }

/-- A load in work for slot 57, its transfer granted. -/
def loading : State :=
  (kiosk.onSlot 57 fun c => { c with state := .taken }).onPrice fun u => { u with load := some (aLoad true) }

theorem witness_CancelReachesTheOperation :
    (authorizing openHolder).part = .run ∧ (authorizing openHolder).pcieUp = true ∧ ((authorizing openHolder).slot 9).state = .taken
      ∧ noRead (authorizing openHolder) 9 ∧ noLoad (authorizing openHolder) 9 ∧ (authorizing openHolder).terminal.holder = some openHolder
      ∧ (∀ e ∈ (authorizing openHolder).terminal.waitList, e.slot ≠ 9)
      ∧ ((authorizing openHolder).onTerminal fun t => { t with holder := none, waitList := [{ slot := 9, order := 0, station := 0 }] }).terminal.waitList.find?
          (·.slot == 9) = some { slot := 9, order := 0, station := 0 }
      ∧ noRead loading 57 ∧ noPay loading 57 ∧ loading.price.load = some (aLoad true) ∧ (loading.slot 57).state = .taken
      ∧ (aLoad false).fetching = false
      ∧ noPay (reading (aRead .single)) 7 ∧ noLoad (reading (aRead .single)) 7
      ∧ ((reading (aRead .single)).bay 0).active = some (aRead .single) ∧ (∀ x ∈ ((reading (aRead .single)).bay 0).waiting, x.slot ≠ 7)
      ∧ ((kiosk.onBay 0 fun y => { y with waiting := [aRead .single] }).bay 0).waiting.find? (·.slot == 7) = some (aRead .single) := by
  refine ⟨by decide +kernel, by decide +kernel, by decide +kernel, noRead_kiosk _ _ (by decide +kernel), noLoad_kiosk _ _ (by decide +kernel),
    by decide +kernel, by decide +kernel, by decide +kernel, noRead_kiosk _ _ (by decide +kernel), noPay_kiosk _ _ (by decide +kernel),
    by decide +kernel, by decide +kernel, by decide +kernel, noPay_kiosk _ _ (by decide +kernel), noLoad_kiosk _ _ (by decide +kernel), by decide +kernel⟩

/-- A PAY whose exchange a first CANCEL has put into ABORTING. -/
theorem witness_CancelReachesTheOperation_aborting :
    (authorizing (abortingHolder (some 9))).part = .run ∧ (authorizing (abortingHolder (some 9))).pcieUp = true
      ∧ ((authorizing (abortingHolder (some 9))).slot 9).state = .taken ∧ noRead (authorizing (abortingHolder (some 9))) 9
      ∧ noLoad (authorizing (abortingHolder (some 9))) 9 ∧ (∀ e ∈ (authorizing (abortingHolder (some 9))).terminal.waitList, e.slot ≠ 9)
      ∧ (authorizing (abortingHolder (some 9))).terminal.holder = some (abortingHolder (some 9))
      ∧ (abortingHolder (some 9)).slot = some 9 ∧ (abortingHolder (some 9)).exchange = .aborting :=
  ⟨by decide +kernel, by decide +kernel, by decide +kernel, noRead_kiosk _ _ (by decide +kernel), noLoad_kiosk _ _ (by decide +kernel),
    by decide +kernel, by decide +kernel, by decide +kernel, by decide +kernel⟩

/-- R138: a second CANCEL while ABORTING sends nothing and changes nothing. -/
theorem test_second_cancel_changes_nothing :
    cancelTaken 9 (authorizing (abortingHolder (some 9))) = authorizing (abortingHolder (some 9)) := by decide +kernel

/-- A read whose run is not RUNNING, half 0 in the given state. -/
def stopped (run : CardRun) (half : HalfState) (r : Read) : State :=
  (reading r).onBay 0 fun y => { y with run := run, half0 := { state := half, blocks := 8, data := [] } }

/-- What a session close and a CANCEL find at a read that no block is arriving for. -/
theorem witness_reads_at_a_boundary :
    (∀ run ∈ [CardRun.clockStopped, .halted, .idle], ((stopped run .full (aRead .single)).bay 0).run ≠ .running
        ∧ ((stopped run .full (aRead .single)).bay 0).active = some (aRead .single)
        ∧ ((stopped run .full (aRead .single)).slot 7).state = .taken ∧ ((stopped run .full (aRead .single)).bay 0).waiting = []
        ∧ ((stopped run .full (aRead .single)).bay 0).half0.state ≠ .writing
        ∧ ((stopped run .full (aRead .single)).bay 0).half1.state ≠ .writing
        ∧ ((stopped run .writing (aRead .single)).bay 0).half0.state = .writing)
      ∧ (aRead .single).ended = none ∧ (aRead .single).mark = none ∧ (aRead .single).accepted ≠ (aRead .single).count
      ∧ ((stopped .idle .full { aRead .alternate with accepted := 100 }).bay 0).giveBackWait = false
      ∧ ({ aRead .single with ended := some .stalled }).ended.isSome = true ∧ ({ aRead .single with mark := some .cancelled }).mark.isSome = true
      ∧ ((stopped .idle .full (aRead .single)).session 0).state = .active := by decide +kernel

theorem witness_CancelReachesTheOperation_boundary :
    (stopped .halted .full (aRead .single)).part = .run ∧ (stopped .halted .full (aRead .single)).pcieUp = true
      ∧ noPay (stopped .halted .full (aRead .single)) 7 ∧ noLoad (stopped .halted .full (aRead .single)) 7
      ∧ ∀ c, c ≠ 0 → (∀ x ∈ ((stopped .halted .full (aRead .single)).bay c).waiting, x.slot ≠ 7)
          ∧ ((stopped .halted .full (aRead .single)).bay c).active = none :=
  ⟨by decide +kernel, by decide +kernel, noPay_kiosk _ _ (by decide +kernel), noLoad_kiosk _ _ (by decide +kernel), by decide +kernel⟩

theorem test_cancel_ends_a_stopped_read :
    (∀ run ∈ [CardRun.clockStopped, .halted, .idle], ((cancelTaken 7 (stopped run .full (aRead .single))).slot 7).status = .cancelled)
      ∧ (cancelTaken 7 (stopped .clockStopped .full (aRead .single))).out = [.halt 0]
      ∧ ((cancelTaken 7 (stopped .halted .writing (aRead .single))).slot 7).state = .taken := by decide +kernel

theorem test_close_ends_a_stopped_read :
    ((closeSession 0 0 .host (stopped .clockStopped .full (aRead .single))).slot 7).status = .sessionEnded
      ∧ (closeSession 0 0 .host (stopped .clockStopped .full (aRead .single))).out = [.halt 0]
      ∧ ((closeSession 0 0 .host (stopped .idle .writing (aRead .single))).slot 7).state = .taken := by decide +kernel

/-! ## Witnesses: transfers, apertures and the service kinds -/

def loadFields (length : Nat) : List (Nat × List Byte) := [(16, leBytes 4 0x42), (24, leBytes 8 0x10000000), (32, leBytes 4 length)]

theorem witness_LoadPricesAsksForItsImage :
    Heads (asked 57 .loadPrices (loadFields 256) kiosk) .loadPrices 57 []
      ∧ reqField ((asked 57 .loadPrices (loadFields 256) kiosk).slot 57) 32 4 = 256
      ∧ (asked 57 .loadPrices (loadFields 256) kiosk).findAperture .read
          (reqField ((asked 57 .loadPrices (loadFields 256) kiosk).slot 57) 24 8) 256 = some 0
      ∧ reqField ((asked 57 .loadPrices (loadFields 255) kiosk).slot 57) 32 4 ≠ 256
      ∧ Heads (asked 57 .loadPrices (loadFields 256) State.reset) .loadPrices 57 [] = False
      ∧ State.reset.findAperture .read 0x10000000 256 = none ∧ loading.price.load.isSome = true ∧ kiosk.price.load = none := by
  refine ⟨by unfold Heads; decide +kernel, by decide +kernel, by decide +kernel, by decide +kernel, ?_, by decide +kernel⟩
  exact eq_false fun h => absurd h.1 (by decide +kernel)

theorem witness_GoodImagesAreInstalledWhole :
    (loading.onPort fun q => { q with granted := [granted (.printer 0) .read 4096 .image, granted .load .read 256 .image] }).port.granted
        = [granted (.printer 0) .read 4096 .image] ++ granted .load .read 256 .image :: []
      ∧ (∀ x ∈ [granted (.printer 0) .read 4096 .image] ++ [], x.transfer.requester ≠ .load)
      ∧ loading.part = .run ∧ (granted .load .read 256 .image).outcome = none ∧ (loading.slot (aLoad true).slot).state = .taken
      ∧ (List.replicate 256 (0#8)).length = 256 ∧ imageFailure (List.replicate 256 (0#8)) = none
      ∧ imageFailure (2#8 :: List.replicate 255 (0#8)) = some (0, .badFlag)
      ∧ (aLoad true).cancelled = false ∧ ({ aLoad true with cancelled := true }).cancelled = true := by decide +kernel

/-- Some list of checks is the one each entry's rule asks for, whatever the numbers of the image. -/
theorem witness_GoodImagesAreInstalledWhole_checks (size promotion : Nat → List (Prop × Violation)) (common : List (Prop × Violation)) :
    ∃ checks : Nat → List (Prop × Violation),
      (∀ e, e < 4 → checks e = size e) ∧ checks 4 = common ∧ (∀ k, k < 16 → checks (5 + k) = promotion k) :=
  ⟨fun e => if e < 4 then size e else if e = 4 then common else promotion (e - 5), fun e h => if_pos h, rfl, fun k _ => by
    show (if 5 + k < 4 then size (5 + k) else if 5 + k = 4 then common else promotion (5 + k - 5)) = promotion k
    rw [if_neg (by omega), if_neg (by omega), Nat.add_sub_cancel_left]⟩

/-- An offered P2 at 10, its one tier out of range; and a tier beyond the count that is not zero. -/
theorem test_image_checks :
    imageFailure ([1#8, 1, 0, 0, 10, 0, 0, 0, 1, 0] ++ List.replicate 246 (0#8)) = some (0, .thresholdRange)
      ∧ imageFailure ([1#8, 0, 0, 0, 10, 0, 0, 0, 0, 0, 1] ++ List.replicate 245 (0#8)) = some (0, .unusedNotZero) := by decide +kernel

theorem witness_WrittenHalvesAreDelivered :
    ((reading (aRead .alternate)).onPort fun q =>
        { q with granted := [granted .load .read 256 .image, granted (.bay 0) .write 4096 (.half 0 8)] }).port.granted
        = [granted .load .read 256 .image] ++ granted (.bay 0) .write 4096 (.half 0 8) :: []
      ∧ (∀ x ∈ [granted .load .read 256 .image] ++ [], x.transfer.requester ≠ .bay 0)
      ∧ (reading (aRead .alternate)).part = .run ∧ ((reading (aRead .alternate)).bay 0).active = some (aRead .alternate)
      ∧ ((reading (aRead .alternate)).slot 7).state = .taken
      ∧ ({ aRead .single with delivered := 120 }).delivered / 128 < (120 + 8) / 128
      ∧ buffersFilled { aRead .alternate with delivered := 24 } (24 + 8) = (aRead .alternate).filled + 1 := by decide +kernel

/-- Bay 0 with half 0 FULL and half 1 EMPTY. -/
def halfFull (r : Read) (run : CardRun) : State := stopped run .full r

theorem witness_WrittenHalvesAreDelivered_next :
    ((reading { aRead .alternate with ended := some .cancelled }).bay 0).half0.state = .empty
      ∧ ((reading { aRead .alternate with ended := some .cancelled }).bay 0).half1.state = .empty
      ∧ ((halfFull { aRead .alternate with ended := some .readFault } .idle).bay 0).half0.state ≠ .empty
      ∧ ({ aRead .single with delivered := 100 }).delivered = (aRead .single).count
      ∧ ((halfFull { aRead .single with accepted := 8 } .clockStopped).bay 0).run = .clockStopped
      ∧ ((halfFull { aRead .single with accepted := 8 } .clockStopped).bay 0).half1.state = .empty
      ∧ ((halfFull { aRead .alternate with accepted := 8 } .halted).bay 0).run = .halted
      ∧ ((halfFull { aRead .alternate with accepted := 8 } .halted).bay 0).giveBackWait = false
      ∧ ((halfFull (aRead .single) .running).bay 0).half0.state = .full
      ∧ look (halfFull (aRead .single) .running).port.lines (requesterIndex (.bay 0)) = []
      ∧ (halfFull (aRead .single) .running).port.granted = [] ∧ (aRead .alternate).liveA = true ∧ (aRead .alternate).liveB = true
      ∧ 0 * 512 / (aRead .alternate).chunk < (aRead .alternate).givenBack + 2
      ∧ (aRead .alternate).givenBack + 2 ≤ 64 * 512 / (aRead .alternate).chunk
      ∧ ((reading (aRead .single)).slot 7).state = .taken ∧ ((reading (aRead .single)).bay 0).waiting = []
      ∧ (((reading (aRead .single)).onBay 0 fun y => { y with waiting := [{ aRead .single with slot := 8 }] }).bay 0).waiting
          = { aRead .single with slot := 8 } :: []
      ∧ (kiosk.bay 1).state ≠ .ready ∧ (kiosk.bay 1).state ≠ .reading := by decide +kernel

/-- A fault under the buffer being filled takes the write that waits under the other one with it. -/
theorem test_fault_withdraws_the_waiting_write :
    look (killReads 1 0 (((halfFull { aRead .alternate with accepted := 8, apertureB := 1, ended := some .readFault } .idle).present
      (halfTransfer 0 { aRead .alternate with apertureB := 1 } { state := .full, blocks := 8, data := [] })))).port.lines 2 = [] := by decide +kernel

theorem witness_LinkErrorsFaultTheAperture :
    heldOutcome.port.granted[0]? = some (granted (.bay 0) .write 4096 (.half 0 8)) ∧ heldOutcome.part = .run ∧ OutcomesInOrder heldOutcome
      ∧ (granted (.bay 0) .write 4096 (.half 0 8)).outcome = none ∧ (kiosk.aperture 0).state = .active
      ∧ ((kiosk.onAperture 0 fun e => { e with state := .faulted }).aperture 0).state ≠ .active :=
  ⟨rfl, rfl, heldOutcome_inOrder, by decide +kernel⟩

/-- A fault of aperture 0 while order 0 prints from it and bay 0 reads into it, one read active and one waiting. -/
def faulting : State :=
  ((printing aCopy).onBay 0 fun y =>
    { y with state := .reading, active := some (aRead .single), waiting := [{ aRead .single with slot := 8 }], run := .running }).onSlot 8 fun c =>
    { c with state := .taken }

theorem witness_FaultsReachEveryOwner :
    heldOutcome.port.granted[0]? = some (granted (.bay 0) .write 4096 (.half 0 8)) ∧ heldOutcome.part = .run
      ∧ heldOutcome.port.granted = [] ++ granted (.bay 0) .write 4096 (.half 0 8) ::
          [{ granted (.bay 0) .write 4096 (.half 1 8) with outcome := some (.done []), timer := .stopped }]
      ∧ (granted (.bay 0) .write 4096 (.half 0 8)).outcome = none
      ∧ ({ granted .load .read 256 .image with outcome := some (.error .poisoned) }).outcome = some (.error .poisoned)
      ∧ (faulting.aperture 0).state = .active ∧ (State.reset.aperture 0).state ≠ .active
      ∧ (faulting.order 0).state = .printing ∧ (priced.order 0).state = .priced ∧ (kiosk.order 0).state = .draft
      ∧ (faulting.printer 0).copy = some aCopy ∧ aCopy.abortCause = none ∧ (faulting.printer 1).copy = none
      ∧ ((faulting.onNote 0 fun _ => some 0).note 0) = some 0
      ∧ (faulting.order 0).items[0]? = some { anItem .p4 .glossy 3 0 with state := .active, inFlight := 1 }
      ∧ (faulting.bay 0).active = some (aRead .single) ∧ (kiosk.bay 0).active = none ∧ (faulting.slot 8).state = .taken
      ∧ ((reading { aRead .single with ended := some .cancelled }).bay 0).active = some { aRead .single with ended := some .cancelled }
      ∧ ((reading { aRead .single with mark := some .cancelled }).bay 0).active = some { aRead .single with mark := some .cancelled }
      ∧ (granted (.bay 0) .write 4096 (.half 0 8)).transfer.purpose = .half 0 8
      ∧ loading.price.load = some (aLoad true) ∧ (loading.slot (aLoad true).slot).state = .taken ∧ (aLoad true).aperture = 0
      ∧ (aLoad true).areaDead = false ∧ (aLoad false).fetching = false ∧ ({ aLoad true with areaDead := true }).areaDead = true
      ∧ kiosk.price.load = none ∧ (granted .load .read 256 .image).transfer.purpose = .image := by decide +kernel

/-- Two outcomes of one requester told in one event: the first has just ended, the second was held; the third still runs. -/
theorem witness_FaultsReachEveryOwner_held (x y z : Granted) (hz : z.transfer.requester = .printer 0) :
    let front := [{ x with outcome := some (.done []) }, { y with outcome := some (.error .poisoned) }]
    (∀ g ∈ front, g.transfer.requester = .printer 0 → g.outcome.isSome = true)
      ∧ ∀ g, [{ z with outcome := none }].head? = some g → g.transfer.requester = .printer 0 ∧ g.outcome = none := by
  refine ⟨fun g m _ => ?_, fun g m => ?_⟩
  · rcases List.mem_cons.1 m with rfl | m
    · rfl
    · rw [List.mem_singleton.1 m]; rfl
  · injection m with m; subst m; exact ⟨hz, rfl⟩

/-- The marked items of an order, and the reads hit with what is left of them, exist as the statement asks for them. -/
theorem witness_FaultsReachEveryOwner_marked (a : ApertureId) :
    (∃ (hit : Order → Item → Prop) (marked : Order → List Item),
      (∀ r i, hit r i ↔ r.state ≠ .free ∧ r.state ≠ .closed ∧ r.state ≠ .cancelled ∧ (i.state = .pending ∨ i.state = .active)
        ∧ i.aperture = a)
      ∧ ∀ r, (marked r).length = r.items.length ∧ ∀ (k : Nat) i, r.items[k]? = some i →
        (hit r i → (marked r)[k]? = some { i with state := .unprintable }) ∧ (¬hit r i → (marked r)[k]? = some i))
      ∧ ∃ hit : Read → Bool, (∀ r, hit r = true ↔ (r.liveA = true ∧ r.apertureA = a) ∨ (r.mode = .alternate ∧ r.liveB = true ∧ r.apertureB = a))
          ∧ (a = 0 → hit (aRead .single) = true) := by
  refine ⟨⟨fun r i => r.state ≠ .free ∧ r.state ≠ .closed ∧ r.state ≠ .cancelled ∧ (i.state = .pending ∨ i.state = .active)
    ∧ i.aperture = a, fun r => r.items.map fun i => if r.state ≠ .free ∧ r.state ≠ .closed ∧ r.state ≠ .cancelled
    ∧ (i.state = .pending ∨ i.state = .active) ∧ i.aperture = a then { i with state := .unprintable } else i, fun _ _ => Iff.rfl,
    fun r => ⟨List.length_map _, fun k i h => ⟨fun hit => ?_, fun hit => ?_⟩⟩⟩,
    fun r => decide ((r.liveA = true ∧ r.apertureA = a) ∨ (r.mode = .alternate ∧ r.liveB = true ∧ r.apertureB = a)),
    fun r => decide_eq_true_iff, fun h => by subst h; decide⟩
  · rw [List.getElem?_map, h, Option.map_some, if_pos hit]
  · rw [List.getElem?_map, h, Option.map_some, if_neg hit]

/-- The worked fault: the item is marked, its copy aborted, both reads of the bay reached, and no area is left. -/
theorem test_fault_reaches_its_owners :
    ((killAll 0 faulting).order 0).items.map (·.state) = [.unprintable]
      ∧ (((killAll 0 faulting).printer 0).copy.map (·.abortCause)) = some (some .aborted)
      ∧ ((killAll 0 faulting).slot 8).status = .transferFault ∧ ((killAll 0 faulting).bay 0).state = .ready
      ∧ (killAll 0 faulting).out = [.abortCopy 0 1, .halt 0] ∧ (killAll 0 faulting).useCount 0 = 0 := by decide +kernel

theorem witness_LinkErrorsFaultTheAperture_find (s : State) (d : Direction) (address length : Nat) :
    ∃ fits : ApertureId → Prop, ∀ a, fits a ↔ (s.aperture a).state = .active
      ∧ ((s.aperture a).access = .readWrite ∨ ((s.aperture a).access = .read ∧ d = .read) ∨ ((s.aperture a).access = .write ∧ d = .write))
      ∧ (s.aperture a).base ≤ address ∧ address + length ≤ (s.aperture a).base + (s.aperture a).limit := ⟨_, fun _ => Iff.rfl⟩

/-- The requests of a port, by requester. -/
def asking (line : Fin 7 → List Transfer) (high normal : Option (Fin 7)) : State :=
  { kiosk with port := { Port.reset with lines := Vector.ofFn line, lastHigh := high, lastNormal := normal } }

theorem witness_LinkErrorsFaultTheAperture_grant :
    busyTransfers kiosk < 4
      ∧ look (asking (fun i => if i = 0 ∨ i = 1 then [(granted (.printer 0) .read 4096 .image).transfer] else []) (some 0) none).port.lines 1
          = (granted (.printer 0) .read 4096 .image).transfer :: []
      ∧ (asking (fun i => if i = 0 ∨ i = 1 then [(granted (.printer 0) .read 4096 .image).transfer] else []) (some 0) none).port.lastHigh = some 0
      ∧ (asking (fun i => if i = 2 ∨ i = 6 then [(granted .load .read 256 .image).transfer] else []) none (some 5)).port.lastNormal = some 5
      ∧ (∀ j : Fin 7, 2 ≤ j.val → (j.val + 4 - 5) % 5 < (6 + 4 - 5) % 5 →
          look (asking (fun i => if i = 2 ∨ i = 6 then [(granted .load .read 256 .image).transfer] else []) none (some 5)).port.lines j = [])
      ∧ (∀ i, look kiosk.port.lines i = []) := by decide +kernel

/-- The bay and the price unit each ask for one transfer. -/
def askingBoth : State :=
  { asking (fun i => if i = 2 then [(granted (.bay 0) .write 4096 (.half 1 8)).transfer] else if i = 6 then
      [(granted .load .read 256 .image).transfer] else []) none none with price := { kiosk.price with load := some (aLoad false) } }

theorem witness_LinkErrorsFaultTheAperture_note :
    (granted (.bay 0) .write 4096 (.half 1 8)).transfer.requester = .bay 0 ∧ (granted .load .read 256 .image).transfer.requester = .load
      ∧ look askingBoth.port.lines 2 = (granted (.bay 0) .write 4096 (.half 1 8)).transfer :: [] ∧ busyTransfers askingBoth < 4 := by
  decide +kernel

theorem test_grant_notes :
    ((grantLoop askingBoth).bay 0).half1.state = .writing ∧ ((grantLoop askingBoth).bay 0).half0.state = .empty
      ∧ (grantLoop askingBoth).price.load = some (aLoad true) := by decide +kernel

theorem test_ring_order :
    nextRequester (asking (fun i => if i = 0 ∨ i = 1 then [(granted (.printer 0) .read 4096 .image).transfer] else []) (some 0) none).port = some 1
      ∧ nextRequester (asking (fun i => if i = 2 ∨ i = 6 then [(granted .load .read 256 .image).transfer] else []) none (some 5)).port = some 6
      ∧ nextRequester (asking (fun i => if i = 2 ∨ i = 6 then [(granted .load .read 256 .image).transfer] else []) none (some 6)).port = some 2 := by
  decide +kernel

def apertureFields (entry access : Byte) (base limit : Nat) : List (Nat × List Byte) :=
  [(16, [entry, access]), (24, leBytes 8 base), (32, leBytes 8 limit)]

def rewriting (f : List (Nat × List Byte)) : State := asked 60 .setAperture f kiosk

theorem witness_SetApertureRewritesAnEntryOutOfUse :
    (Heads (rewriting (apertureFields 0 3 0x1000 0)) .setAperture 60 [] ∧ reqByte ((rewriting (apertureFields 0 3 0x1000 0)).slot 60) 16 = 0
        ∧ reqByte ((rewriting (apertureFields 0 3 0x1000 0)).slot 60) 17 ≠ 0 ∧ reqField ((rewriting (apertureFields 0 3 0x1000 0)).slot 60) 32 8 = 0)
      ∧ 3 < reqByte ((rewriting (apertureFields 0 4 0 0)).slot 60) 17 ∧ reqField ((rewriting (apertureFields 0 1 1 0)).slot 60) 24 8 % 4096 ≠ 0
      ∧ (Heads (rewriting (apertureFields 1 3 0x1000 0x2000)) .setAperture 60 []
          ∧ reqByte ((rewriting (apertureFields 1 3 0x1000 0x2000)).slot 60) 17 = accessCode .readWrite
          ∧ reqField ((rewriting (apertureFields 1 3 0x1000 0x2000)).slot 60) 24 8 = 0x1000
          ∧ reqField ((rewriting (apertureFields 1 3 0x1000 0x2000)).slot 60) 32 8 = 0x2000)
      ∧ kiosk.useCount 1 = 0 ∧ 0 < kiosk.useCount 0
      ∧ (∃ g ∈ [granted .load .read 256 .image], g.outcome = none ∧ g.transfer.aperture = 0)
      ∧ (∀ g ∈ kiosk.port.granted, g.outcome = none → g.transfer.aperture ≠ 1) := by
  unfold Heads; decide +kernel

theorem witness_SetTimersClampsEachSetting :
    Heads (asked 60 .setTimers [(16, [15]), (20, leBytes 4 29), (24, leBytes 4 901), (28, leBytes 4 30), (32, leBytes 4 600)] kiosk)
      .setTimers 60 [] := by unfold Heads; decide +kernel

theorem witness_ShiftCloseReadsAndZeroesTheTill :
    Heads (asked 60 .shiftClose [] kiosk) .shiftClose 60 [] ∧ (asked 55 .shiftClose [] kiosk).intake = [55]
      ∧ kindCode ((asked 55 .shiftClose [] kiosk).slot 55) = Kind.shiftClose.code
      ∧ formatGood .shiftClose ((asked 55 .shiftClose [] kiosk).slot 55) = true := by unfold Heads; decide +kernel

theorem witness_ResetUnitRestartsAUnit :
    (Heads (asked 60 .resetUnit [(16, [9])] kiosk) .resetUnit 60 [] ∧ reqByte ((asked 60 .resetUnit [(16, [9])] kiosk).slot 60) 16 = 9)
      ∧ (Heads (asked 60 .resetUnit [(16, [1, 0])] kiosk) .resetUnit 60 [] ∧ reqByte ((asked 60 .resetUnit [(16, [1, 0])] kiosk).slot 60) 17 = 0
          ∧ noRead (asked 60 .resetUnit [(16, [1, 0])] kiosk) 60 ∧ (kiosk.bay 0).contact = true ∧ (kiosk.bay 1).contact = false)
      ∧ (Heads (asked 60 .resetUnit [(16, [2, 1])] kiosk) .resetUnit 60 [] ∧ reqByte ((asked 60 .resetUnit [(16, [2, 1])] kiosk).slot 60) 16 = 2)
      ∧ (Heads (asked 60 .resetUnit [(16, [3])] kiosk) .resetUnit 60 [] ∧ noPay (asked 60 .resetUnit [(16, [3])] kiosk) 60) :=
  ⟨by unfold Heads; decide +kernel,
    ⟨by unfold Heads; decide +kernel, by decide +kernel, noRead_kiosk _ _ (by decide +kernel), by decide +kernel, by decide +kernel⟩,
    by unfold Heads; decide +kernel, by unfold Heads; decide +kernel, noPay_kiosk _ _ (by decide +kernel)⟩

theorem noRead_of (s : State) (n : SlotId) (h : ∀ b, (∀ r ∈ (s.bay b).waiting, r.slot ≠ n) ∧ ((s.bay b).active.all fun r => r.slot != n) = true) :
    noRead s n := fun b => ⟨(h b).1, fun r m => by have := (h b).2; rw [m] at this; simpa using this⟩

/-- RESET_UNIT of bay 0 posted while it reads. -/
def resetting (r : Read) (half : HalfState) : State :=
  asked 60 .resetUnit [(16, [1, 0])] ((reading r).onBay 0 fun y => { y with half0 := { y.half0 with state := half } })

theorem witness_ResetUnitRestartsAUnit_bay :
    Heads (resetting (aRead .single) .full) .resetUnit 60 [] ∧ noRead (resetting (aRead .single) .full) 60
      ∧ ((resetting (aRead .single) .full).bay 0).active = some (aRead .single) ∧ (aRead .single).ended = none ∧ (aRead .single).mark = none
      ∧ ((resetting (aRead .single) .full).slot 7).state = .taken ∧ ((resetting (aRead .single) .full).bay 0).waiting = []
      ∧ ((resetting (aRead .single) .full).bay 0).half0.state ≠ .writing ∧ ((resetting (aRead .single) .full).bay 0).half1.state ≠ .writing
      ∧ ((resetting (aRead .single) .writing).bay 0).half0.state = .writing
      ∧ ((resetting { aRead .single with mark := some .cancelled } .full).bay 0).active = some { aRead .single with mark := some .cancelled }
      ∧ ((resetting { aRead .single with ended := some .cancelled } .writing).bay 0).active
          = some { aRead .single with ended := some .cancelled } :=
  ⟨by unfold Heads; decide +kernel, noRead_of _ _ (by decide +kernel), by decide +kernel⟩

theorem witness_ResetUnitRestartsAUnit_links :
    (Heads (asked 60 .resetUnit [(16, [2, 0])] (printing aCopy)) .resetUnit 60 []
        ∧ ((asked 60 .resetUnit [(16, [2, 0])] (printing aCopy)).printer 0).copy = some aCopy
        ∧ ((printing aCopy).printer 0).state ≠ .absent ∧ (State.reset.printer 0).state = .absent ∧ (State.reset.printer 0).copy = none)
      ∧ (Heads (asked 60 .resetUnit [(16, [3])] (authorizing openHolder)) .resetUnit 60 []
        ∧ (asked 60 .resetUnit [(16, [3])] (authorizing openHolder)).terminal.holder = some openHolder ∧ openHolder.slot = some 9
        ∧ openHolder.order = some 0)
      ∧ (asked 60 .resetUnit [(16, [3])] (settling (answering .settlement 146 (some 0)))).terminal.holder
          = some (answering .settlement 146 (some 0))
      ∧ kiosk.terminal.holder = none ∧ (abortingHolder none).slot = none ∧ (answering .followUpVoid 146 none).kind = .followUpVoid
      ∧ (answering .listVoid 146 none).kind = .listVoid := by unfold Heads; decide +kernel

/-- The reset ends the read and the copy in its taking. -/
theorem test_reset_unit_ends_the_work :
    (((resetUnitWork 60 (takeSlot 60 [] (resetting (aRead .single) .full))).slot 7).status,
        (resetUnitWork 60 (takeSlot 60 [] (resetting (aRead .single) .full))).out) = (.unitDown, [.halt 0]) := by decide +kernel

def serving (action : Byte) (s : State) : State := asked 60 .printerService [(16, [0, action])] s

/-- Printer 0 in SERVICE on a healthy link. -/
def inService : State := kiosk.onPrinter 0 fun q => { q with state := .service, statusInService := true }

/-- A copy in flight on printer 0, with an entry to SERVICE pending. -/
def pendingService : State := (printing aCopy).onPrinter 0 fun q => { q with servicePending := true }

theorem witness_PrinterServiceEntersAndLeaves :
    (Heads (serving 2 kiosk) .printerService 60 [] ∧ reqByte ((serving 2 kiosk).slot 60) 16 = 0 ∧ 1 < reqByte ((serving 2 kiosk).slot 60) 17)
      ∧ (Heads (serving 0 kiosk) .printerService 60 [] ∧ reqByte ((serving 0 kiosk).slot 60) 17 = 0 ∧ (kiosk.printer 0).state ≠ .service
          ∧ (kiosk.printer 0).copy = none ∧ (kiosk.printer 0).servicePending = false)
      ∧ (inService.printer 0).state = .service ∧ ((printing aCopy).printer 0).copy.isSome = true
      ∧ (Heads (serving 1 inService) .printerService 60 [] ∧ reqByte ((serving 1 inService).slot 60) 17 = 1
          ∧ (inService.printer 0).live.linkSilent = false ∧ (inService.printer 0).statusInService = true
          ∧ (inService.printer 0).lastReport = some .ready)
      ∧ ((inService.onPrinter 0 fun q => { q with statusInService := false }).printer 0).statusInService = false
      ∧ (pendingService.printer 0).servicePending = true ∧ (pendingService.printer 0).copy = some aCopy
      ∧ (pendingService.printer 0).state ≠ .service := by
  unfold Heads; decide +kernel

/-! ## Witnesses: printers -/

def aStatus (report : Report) (conditions : Conditions) (lastCopy : W16) : StatusFrame :=
  { report := report, conditions := conditions, head := .warm, lastResult := 0, lastCopy := lastCopy, consumed := 4, stock := 396, pack := 7 }

theorem witness_StatusFramesAreApplied :
    kiosk.part = .run ∧ (kiosk.printer 0).servicePending = false ∧ (kiosk.printer 0).copy = none
      ∧ ((printing aCopy).printer 0).copy = some aCopy ∧ (aStatus .printing Conditions.absent 1).lastCopy = aCopy.id
      ∧ (aStatus .ready Conditions.absent 0).lastCopy ≠ aCopy.id ∧ aCopy.highest.isSome = true
      ∧ (aStatus .faulted { Conditions.absent with jam := true } 0).conditions.jam = true
      ∧ ({ Conditions.absent with overheat := true }).overheat = true
      ∧ pendingService.part = .run ∧ (pendingService.printer 0).copy = some aCopy ∧ (pendingService.printer 0).servicePending = true
      ∧ (aStatus .faulted Conditions.absent 0).report = .faulted ∧ (aStatus .paused Conditions.absent 0).report ≠ .ready
      ∧ ((aStatus .paused Conditions.absent 0).conditions.overheat || (pendingService.printer 0).overheatLock) = false := by decide +kernel

/-- A fault ends the copy: ABORT_COPY goes out once, and with no condition live the result is what the abort gives. -/
theorem test_fault_ends_the_copy :
    (statusArrived 0 (aStatus .faulted Conditions.absent 0) (printing aCopy)).out = [.abortCopy 0 1]
      ∧ ((statusArrived 0 (aStatus .faulted Conditions.absent 0) (printing aCopy)).printer 0).last
          = some { id := 1, result := .aborted, consumed := sizeUnits .p4 }
      ∧ ((statusArrived 0 (aStatus .faulted Conditions.absent 0) (printing { aCopy with abortCause := some .underrun })).printer 0).last
          = some { id := 1, result := .underrun, consumed := sizeUnits .p4 }
      ∧ (statusArrived 0 (aStatus .faulted Conditions.absent 0) (printing { aCopy with abortCause := some .underrun })).out = [] := by
  decide +kernel

/-- The first pack after ABSENT is no change; another one is counted and latched. -/
theorem test_pack_change_is_latched :
    ((statusArrived 0 (aStatus .ready Conditions.absent 0) kiosk).printer 0).latched.packChanged = false
      ∧ ((statusArrived 0 (aStatus .ready Conditions.absent 0) (kiosk.onPrinter 0 fun q =>
          { q with packFirst := false, pack := some 8 })).printer 0).latched.packChanged = true := by decide +kernel

theorem witness_StripesAreAskedForAndSent :
    (printing aCopy).part = .run ∧ ((printing aCopy).printer 0).state = .printing ∧ ((printing aCopy).printer 0).copy = some aCopy
      ∧ aCopy.abortCause = none ∧ aCopy.requests.length < 2
      ∧ ((printing aCopy).order aCopy.order).items[aCopy.item]?.isSome = true ∧ (1#16).toNat = 1 ∧ 1 < sizeStripes .p4
      ∧ ((printing aCopy).printer 0).bufferA.state = .empty ∧ (kiosk.printer 0).copy = none ∧ aCopy.held = false
      ∧ ({ aCopy with held := true }).held = true ∧ ({ aCopy with abortCause := some .underrun }).abortCause.isSome = true
      ∧ ((((printing aCopy).onPrinter 0 fun q => { q with transmitting := some { copyId := 1, stripe := 0 } }).printer 0).transmitting
          = some { copyId := 1, stripe := 0 }) ∧ ({ copyId := 2, stripe := 0 } : Transmission).copyId ≠ aCopy.id
      ∧ State.reset.printers[0].state = .absent := by
  decide +kernel

/-- A printer in SERVICE, its link silent; and, though no run reaches it, one with a copy in flight. -/
def silentService (s : State) : State :=
  s.onPrinter 0 fun q => { q with state := .service, linkHeard := false, live := { q.live with linkSilent := true } }

theorem witness_frames_in_service :
    ((silentService kiosk).printer 0).state = .service ∧ ((silentService kiosk).printer 0).copy = none ∧ (silentService kiosk).part = .run
      ∧ ((silentService (printing aCopy)).printer 0).copy = some aCopy := by decide +kernel

/-- A HOLD from a printer in SERVICE clears the live LINK_SILENT, restarts the watch of 1 s, and is counted stray. -/
theorem test_hold_in_service_is_heard :
    ((goodFrame 0 (holdCopy 0) (silentService kiosk)).printer 0).live.linkSilent = false
      ∧ ((goodFrame 0 (holdCopy 0) (silentService kiosk)).printer 0).watch = some 1001
      ∧ ((goodFrame 0 (holdCopy 0) (silentService kiosk)).printer 0).counts.stray = 1 := by decide +kernel

/-- Buffer A holds stripe 0 and buffer B stripe 1, each in the given state. -/
def buffered (a b : Nat → BufferState) (requests : List StripeRequest) : State :=
  (printing { aCopy with highest := some 1, requests := requests }).onPrinter 0 fun q =>
    { q with bufferA := { state := a 0, data := [1] }, bufferB := { state := b 1, data := [2] } }

def request (n : Nat) : StripeRequest := { stripe := n, started := false, timer := .running 500 }

theorem witness_StripesAreAskedForAndSent_send :
    ((buffered .full .full [request 1, request 0]).printer 0).bufferA.state = .full 0
      ∧ [request 1, request 0] = [request 1] ++ request 0 :: [] ∧ (∀ x ∈ [request 1], x.started = true ∨ x.stripe ≠ 0)
      ∧ (∀ x ∈ [request 1, request 0], 0 ≤ x.stripe) ∧ ((buffered .full .full [request 1, request 0]).printer 0).transmitting = none
      ∧ ((buffered (fun _ => .empty) .sent [request 1]).printer 0).bufferA.stripe ≠ some 1
      ∧ ((buffered (fun _ => .empty) .sent [request 1]).printer 0).bufferB.state = .sent 1
      ∧ ((buffered .filling (fun _ => .empty) [request 0]).printer 0).bufferA.state = .filling 0
      ∧ ((buffered .filling (fun _ => .empty) [request 0]).printer 0).bufferB.stripe ≠ some 0
      ∧ (∀ r ∈ ([] : List StripeRequest), r.started = true) := by decide +kernel

theorem witness_StripesAreAskedForAndSent_begin :
    (kiosk.printer 0).state = .ready ∧ (kiosk.printer 0).queue = [] ∧ (kiosk.printer 0).servicePending = false
      ∧ (((withOrder0 fun r => { r with state := .paid, placement := some 0 }).onPrinter 0 fun q => { q with queue := [0] }).printer 0).queue
          = [] ++ 0 :: []
      ∧ (kiosk.order 0).items = [] ++ anItem .p4 .glossy 3 0 :: [] ∧ 0 < remaining (anItem .p4 .glossy 3 0)
      ∧ (BufferState.sending 0) ≠ .full 0 := by decide +kernel

/-- The last transfer of a fetch for stripe 0 into buffer A. -/
def fetched (c : Copy) (fill : BufferState) : State :=
  ((printing c).onPrinter 0 fun q => { q with bufferA := { state := fill, data := [] } }).onPort fun q =>
    { q with granted := [granted .load .read 256 .image, granted (.printer 0) .read 2240 (.stripe 1 0 .a true)] }

theorem witness_StripesAreAskedForAndSent_fetch :
    (fetched aCopy (.filling 0)).part = .run
      ∧ (fetched aCopy (.filling 0)).port.granted
          = [granted .load .read 256 .image] ++ granted (.printer 0) .read 2240 (.stripe 1 0 .a true) :: []
      ∧ (∀ x ∈ [granted .load .read 256 .image], x.transfer.requester ≠ .printer 0)
      ∧ (granted (.printer 0) .read 2240 (.stripe 1 0 .a true)).outcome = none ∧ (List.replicate 2240 (0#8)).length = 2240
      ∧ ((fetched aCopy (.filling 0)).printer 0).copy = some aCopy ∧ aCopy.id = 1 ∧ aCopy.abortCause = none
      ∧ (((fetched aCopy (.filling 0)).printer 0).buffer .a).state = .filling 0
      ∧ ((fetched { aCopy with abortCause := some .aborted } (.filling 0)).printer 0).copy = some { aCopy with abortCause := some .aborted }
      ∧ (((fetched aCopy .empty).printer 0).buffer .a).state ≠ .filling 0 := by decide +kernel

/-- The three tests of R85: asked for again twice, SENDING, and a stripe that no buffer holds. -/
theorem test_stripe_cases :
    stripeCase ((buffered .sent .sent [request 0]).printer 0) 0 = .again
      ∧ stripeCase ((buffered .sending .sent [{ request 0 with started := true }]).printer 0) 2 = .newRequest
      ∧ stripeCase ((buffered .sending .sent []).printer 0) 0 = .outOfSequence := by decide +kernel

theorem witness_CopiesEndOnceAndAreCounted :
    (printing aCopy).part = .run ∧ ((printing aCopy).printer 0).copy = some aCopy ∧ (2#16 : W16) ≠ aCopy.id
      ∧ ({ aCopy with beginWait := some { sends := 1, deadline := 1002 } }).beginWait = some { sends := 1, deadline := 1002 }
      ∧ ({ aCopy with beginWait := some { sends := 2, deadline := 1002 } }).beginWait = some { sends := 2, deadline := 1002 }
      ∧ ({ aCopy with abortDeadline := some 1002 }).abortDeadline.isSome = true
      ∧ aCopy.requests = [] ++ { stripe := 0, started := false, timer := .running 500 } :: [] ∧ (Timer.running 500).isRunning = true
      ∧ ((printing aCopy).printer 0).watch.isSome = true ∧ ((printing aCopy).printer 0).state ≠ .service
      ∧ ((printing aCopy).printer 0).servicePending = false ∧ (pendingService.printer 0).servicePending = true
      ∧ (pendingService.printer 0).watch.isSome = true
      ∧ ((printing aCopy).order 0).items[0]? = some { anItem .p4 .glossy 3 0 with state := .active, inFlight := 1 } := by decide +kernel

/-- A printer in SERVICE as a run reaches it, without a copy. -/
theorem witness_CopiesEndOnceAndAreCounted_service :
    inService.part = .run ∧ (inService.printer 0).watch.isSome = true ∧ (inService.printer 0).state = .service
      ∧ (inService.printer 0).copy = none := by decide +kernel

/-- The two conditions on the figures under which the failed copy of `printing aCopy` is and is not retried. -/
theorem witness_CopiesEndOnceAndAreCounted_retry :
    aCopy.attempt = 1 ∧ aCopy.releasedEarly = false ∧ ((printing aCopy).order 0).state = .printing
      ∧ ((printing aCopy).order 0).placement = some 0 ∧ ((printing aCopy).order 0).cancelRequested = false
      ∧ finalResult aCopy .jam ≠ .ok ∧ finalResult aCopy .ok = .ok ∧ sizeUnits aCopy.size ≤ (kiosk.onEntry 0 fun e => { e with
          pendingConsumption := 4 }).freeRoom 0
      ∧ (kiosk.printer 0).copy = none ∧ (kiosk.printer 0).watch.isSome = true ∧ (kiosk.printer 0).state ≠ .service := by decide +kernel

/-! ## A change that the event undoes sets its bit (R42, R103, R129, R173) -/

def after (r : Result) : State := match r with | .next s => s | _ => State.reset

theorem test_retried_copy_marks_its_order :
    (after (exec (.copyDone 0 1 1 4) (printing aCopy))).orderChanged.getLsbD 0 = true
      ∧ (((after (exec (.copyDone 0 1 1 4) (printing aCopy))).order 0).items.map fun i => (i.failed, i.inFlight)) = [(0, 1)] := by decide +kernel

theorem test_settlement_retry_marks_the_terminal :
    (after (exec .answerLimitExpiry (settling (answering .settlement 146 (some 0))))).unitChanged.getLsbD 10 = true
      ∧ (after (exec .answerLimitExpiry (settling (answering .settlement 146 (some 0))))).terminal.state = .settling := by decide +kernel

theorem test_reset_of_a_settling_bay_marks_it :
    ((resetBay 0 (kiosk.onBay 0 fun y => { y with state := .settling, settle := .running 250, card := none })).unitChanged.getLsbD 4) = true := by
  decide +kernel

theorem test_aperture_result_shows_its_fault_records :
    bodyMask (.apertures { entry := { Aperture.reset with fault := some aFault }, useCount := 0 }
      { entry := Aperture.reset, useCount := 0 } (Vector.replicate 8 { entry := Aperture.reset, useCount := 0 })) = 1 := by decide +kernel

/-- Printer 0 with its fault grace running, at a CLOCK. -/
def gracing (clock : W32) (state : PrinterState) : State :=
  { kiosk.onPrinter 0 (fun q => { q with state := state }) with
    clock := clock, stock := upd kiosk.stock 0 fun e => { e with grace := some 1100 } }

/-- A change of state is a change of the record; a second that passes, with the grace running, is none. -/
theorem test_change_bits :
    unitRecord (gracing 1000 .ready) false 8 ≠ unitRecord (gracing 1000 .faulted) false 8
      ∧ unitRecord (gracing 1000 .faulted) false 8 = unitRecord (gracing 1001 .faulted) false 8
      ∧ unitRecord (gracing 1000 .faulted) true 8 ≠ unitRecord (gracing 1001 .faulted) true 8
      ∧ orderDiff kiosk { kiosk with orders := upd kiosk.orders 3 fun o => { o with state := .draft } } = 8#32 := by
  decide +kernel

/-- A host that has enabled messages and ATTN.DONE. -/
def listening : State := { kiosk with msiEnable := true, attnEnable := 1 }

theorem witness_SettlingLeavesTheRestAlone :
    listening.part = .run ∧ listening.pcieUp = true ∧ listening.msiEnable = true ∧ attnFlags listening &&& listening.attnEnable = 0
      ∧ attnFlags { listening with attnDone := true } &&& listening.attnEnable ≠ 0 := by decide +kernel

theorem test_message_at_the_edge :
    (closeEvent listening { listening with attnDone := true }).out = [.interruptMessage]
      ∧ (closeEvent { listening with attnDone := true } { listening with attnDone := true }).out = []
      ∧ (closeEvent listening { listening with attnMisuse := true }).out = [] := by decide +kernel

/-! ## Witnesses: arithmetic and links -/

theorem witness_QuoteArithmeticIsExact :
    (sizeEntry workedTable .p4).tiers = [{ threshold := 10, price := 35 }] ++ { threshold := 50, price := 29 } :: [] ∧ 50 ≤ 50
      ∧ (∀ x ∈ (sizeEntry workedTable .p4).tiers, 9 < x.threshold) ∧ workedTable.promotions[3]? = some { rate := 1500, minimum := 500 }
      ∧ 500 ≤ workedPrices.subtotal ∧ workedPrices.rate ≤ 10000 := by decide

theorem witness_SettlementNeverAboveTheQuote_rate : (0 : Nat) < workedPrices.rate ∧ workedPrices.rate = 1500 := by decide

theorem witness_SettlementNeverAboveTheQuote :
    (fixedPrices workedTable workedItems (some 3)).rate ≤ 10000 ∧ workedItems.length = workedItems.length
      ∧ (∀ i ∈ workedItems, i.printed ≤ i.quantity) := by decide

theorem freeRecord_right : AmountsRight Order.reset :=
  ⟨by decide, by decide, by decide, fun _ h => (nomatch h), by decide, fun _ h => (nomatch h), by decide, .inl rfl⟩

theorem printing_others : ∀ o, o ≠ 0 → (printing aCopy).order o = Order.reset := by decide +kernel

/-- The law of the amounts holds while a copy of order 0 is in flight, and a step ends that copy. -/
theorem witness_CapturesStayWithinTheQuote :
    MoneyLaw (printing aCopy) ∧ ∃ t, step { printing aCopy with pending := [.copyDone 0 1 0 4] } = .next t := by
  refine ⟨⟨fun o => ?_, by decide +kernel, fun p c h => ?_, fun o k i h => ?_, by decide +kernel, by decide +kernel, by decide +kernel,
    by decide +kernel⟩, _, rfl⟩
  · by_cases h : o = 0
    · subst h
      refine ⟨by decide +kernel, by decide +kernel, by decide +kernel, fun f h => ?_, by decide +kernel, fun _ h => ?_, by decide +kernel,
        by decide +kernel⟩
      · exact Option.some.inj h ▸ ⟨by decide +kernel, workedTable, none, by decide +kernel⟩
      · exact nomatch (show (none : Option Nat) = some _ from h)
    · rw [printing_others o h]
      exact freeRecord_right
  · match p with
    | 0 => exact Option.some.inj (show some aCopy = some c from h) ▸ by decide +kernel
    | 1 => exact nomatch (show (none : Option Copy) = some c from h)
  · have inItem : ∀ o, ∀ k < 1, ((printing aCopy).order o).items[k]? = some i → copiesInFlight (printing aCopy) o k ≤ i.inFlight := by
      intro o k hk h
      obtain rfl : k = 0 := by omega
      by_cases ho : o = 0
      · subst ho
        exact Option.some.inj (show some { anItem .p4 .glossy 3 0 with state := .active, inFlight := 1 } = some i from h) ▸ by decide +kernel
      · rw [printing_others o ho] at h
        cases h
    have short : ∀ o, ((printing aCopy).order o).items.length ≤ 1 := by decide +kernel
    exact inItem o k (Nat.lt_of_lt_of_le (List.getElem?_eq_some_iff.1 h).1 (short o)) h

theorem witness_FramesAreReadAsTheyAreSent : (List.replicate 6 (48#8)).length = 6 := rfl

/-- R185: capacity 4,096, serial 0x0102034D, check 0x1234; a block of 512 bytes with the check 0x1234, and one that is a byte short. -/
theorem test_card_bytes :
    identityOfWire [0x00, 0x00, 0x10, 0x00, 0x01, 0x02, 0x03, 0x4D, 0x12, 0x34] = some (4096#32, 0x0102034D#32, 0x1234#16)
      ∧ blockOfWire (List.replicate 512 7 ++ [0x12, 0x34]) = some (List.replicate 512 7, 0x1234#16)
      ∧ blockOfWire (List.replicate 511 7 ++ [0x12, 0x34]) = none := by decide +kernel

theorem witness_FramesAreReadAsTheyAreSent_card :
    identityCommand 0 (identityWire 4096 77 (identityCheck 4096 77)) = some (.identifyAnswer 0 4096 77 (identityCheck 4096 77))
      ∧ blockCommand 0 (blockWire (List.replicate 512 7) 0x1234) = some (.blockArrival 0 (List.replicate 512 7) 0x1234)
      ∧ (List.replicate 512 (7#8)).length = 512 := by decide +kernel

end Sys2Proof.Tests
end

