-- ==== Sys2Proof/Proofs/RetireOrder.lean ====
section
/-! SUPPORT. RETIRE_ORDER (R39), with the rules it needs: the taking of a request that names an order (R19, R170), which commutes with the
report to the station controller (R11); what the marks of an event leave alone; and how a FREE record reads (R19, R42). -/

namespace Sys2Proof.Machine

/-! ## The taking of a request that names an order -/

/-- R11, R170: the restart of a session's watch does not see that a slot has been taken. -/
theorem restartSession_takeSlot (k : SessionId) (n : SlotId) (rest : List SlotId) (s : State) :
    restartSession k (takeSlot n rest s) = takeSlot n rest (restartSession k s) := by
  unfold restartSession
  rw [apply_ite (takeSlot n rest)]
  rfl

/-- R11, R170: the report to the station controller does not see that a slot has been taken. -/
theorem restartForOrder_takeSlot (o : OrderId) (n : SlotId) (rest : List SlotId) (s : State) :
    restartForOrder o (takeSlot n rest s) = takeSlot n rest (restartForOrder o s) := by
  unfold restartForOrder
  rw [apply_ite (takeSlot n rest), restartSession_takeSlot]
  rfl

/-- R170: a taking that passes the checks up to NO_SUCH completes with the work of its kind, on the slot taken. -/
theorem taking_withOrder_endsAs {s : State} {k : Kind} {n : SlotId} {rest : List SlotId} {o : OrderId} (hh : Heads s k n rest)
    (hn : Names s n o) (work : OrderId → SlotId → State → State) :
    EndsAs (event (taking k (withOrder work)) s) (work o n (takeSlot n rest (restartForOrder o s.quiet))) := by
  have ⟨run, _⟩ := hh
  refine endsAs_congr (event_endsAs _ s run) ?_
  rw [taking_of_heads hh, withOrder_of_names rest hn, restartForOrder_takeSlot]

/-- R11: the report to the station controller changes no order. -/
@[simp] theorem order_restartForOrder (o : OrderId) (s : State) (x : OrderId) : (restartForOrder o s).order x = s.order x := by
  unfold restartForOrder restartSession
  split
  · split <;> rfl
  · rfl

/-- R171: an answer changes no order. -/
@[simp] theorem order_answered (n : SlotId) (rest : List SlotId) (st : Status) (why : Reason) (body : Body) (s : State) (x : OrderId) :
    (answered n rest st why body s).order x = s.order x := rfl

/-- R173, R175: the marks of an event and its message change no order. -/
theorem Marked.order_eq {u t : State} (h : Marked u t) (x : OrderId) : t.order x = u.order x := by
  obtain ⟨same, -⟩ := h
  have orders : t.orders = u.orders := by rw [← same]
  exact congrArg (look · x) orders

/-! ## A FREE record -/

/-- R42: the order board shows a FREE record as zero. -/
theorem fieldByte_orderRecord_of_free {s : State} {o : OrderId} (h : (s.order o).state = .free) (counting : Bool) (a : Nat) :
    fieldByte (orderRecord s counting o) a = 0 := by
  have empty : orderRecord s counting o = [] := by simp only [orderRecord, h, if_true]
  rw [empty, fieldByte]

/-- R19: no handle of a FREE record is current. -/
theorem isCurrent_of_free {s : State} {h : Handle} (free : (s.order h.index).state = .free) : s.isCurrent h = false := by
  simp [State.isCurrent, free]

/-! ## RETIRE_ORDER -/

/-- R39: the retired record is FREE. -/
@[simp] theorem order_retireOrder_same (o : OrderId) (s : State) : (retireOrder o s).order o = Order.reset := order_onOrder_same _ _ _

/-- R39: the work of the taking on a final order. -/
theorem retireOrderWork_of_final {o : OrderId} {s : State} (h : (s.order o).state = .closed ∨ (s.order o).state = .cancelled) (n : SlotId)
    (rest : List SlotId) :
    retireOrderWork o n (takeSlot n rest s) =
      answered n rest .ok .none
        (.retired (s.order o).state (s.order o).settleStatus ((s.order o).settlement.getD 0) (s.order o).captured) (retireOrder o s) :=
  (if_pos h).trans (complete_takeSlot n rest .ok .none _ (retireOrder o s))

/-- R39, R170: the work of the taking in any other state. -/
theorem retireOrderWork_of_not_final {o : OrderId} {s : State} (h : ¬((s.order o).state = .closed ∨ (s.order o).state = .cancelled))
    (n : SlotId) (rest : List SlotId) :
    retireOrderWork o n (takeSlot n rest s) = answered n rest .state .none (.orderState (s.order o).state) s :=
  (if_neg h).trans (complete_takeSlot n rest .state .none _ s)

/-- Settles O32: the taking answers with the work of RETIRE_ORDER on the slot taken, by whether the order is final; the marks of the event
leave the record FREE. -/
theorem retireFreesAFinalOrder : Obligations.RetireFreesAFinalOrder := by
  intro s n rest o hh hn
  have kept : (restartForOrder o s.quiet).order o = s.order o := by simp
  have ends : EndsAs (exec .retireOrder s) (retireOrderWork o n (takeSlot n rest (restartForOrder o s.quiet))) :=
    taking_withOrder_endsAs hh hn retireOrderWork
  refine ⟨fun final => ?_, fun notClosed notCancelled => ?_⟩
  · rw [retireOrderWork_of_final (by rwa [kept]), kept] at ends
    refine ⟨by rwa [retireOrder, kept] at ends, fun t ht => ?_⟩
    obtain ⟨u, hu, marked⟩ := ends
    obtain rfl : u = t := by simpa [hu] using ht
    have free : (u.order o).state = .free := by rw [marked.order_eq, order_answered, order_retireOrder_same, Order.reset]
    exact ⟨free, fieldByte_orderRecord_of_free free true, fun h hi => isCurrent_of_free (hi ▸ free)⟩
  · rwa [retireOrderWork_of_not_final (by rw [kept]; exact not_or.2 ⟨notClosed, notCancelled⟩), kept] at ends

end Sys2Proof.Machine
end

section
/-! SUPPORT. The price unit's arithmetic: the tier of a size (R53), the lines and their sum (R54, R58), the rates (R55, R56), and what is due
for a subtotal, which the quoted total and the settlement share (R56, R58) and which never falls as the subtotal grows (R59). -/

namespace Sys2Proof.Machine

/-! ## Tiers and lines -/

/-- R53: the last tier whose threshold is reached sets the price. -/
theorem tierPrice_of_last_reached {e : SizeEntry} {n : Nat} {before after : List Tier} {t : Tier} (tiers : e.tiers = before ++ t :: after)
    (reached : t.threshold ≤ n) (above : ∀ x ∈ after, n < x.threshold) : tierPrice e n = t.price := by
  have none_after : after.filter (fun x => decide (x.threshold ≤ n)) = [] := by simpa using above
  simp [tierPrice, tiers, reached, none_after]

/-- R53: below every threshold the base price stands. -/
theorem tierPrice_of_none_reached {e : SizeEntry} {n : Nat} (above : ∀ x ∈ e.tiers, n < x.threshold) : tierPrice e n = e.base := by
  have none_reached : e.tiers.filter (fun x => decide (x.threshold ≤ n)) = [] := by simpa using above
  simp [tierPrice, none_reached]

/-- R57: the fixed unit prices are those of the quote computation. -/
@[simp] theorem unitPriceOf_fixedPrices (t : PriceTable) (items : List Item) (promotion : Option Nat) :
    unitPriceOf (fixedPrices t items promotion) = unitPrice t items := by
  funext z
  cases z <;> rfl

/-- R52: the prints of an item count towards its size. -/
theorem quantity_le_sizeCount {items : List Item} {i : Item} (h : i ∈ items) : i.quantity ≤ sizeCount items i.size := by
  obtain ⟨before, after, rfl⟩ := List.append_of_mem h
  have split : sizeCount (before ++ i :: after) i.size = sizeCount before i.size + (i.quantity + sizeCount after i.size) := by
    simp only [sizeCount, List.filter_append, List.filter_cons, beq_self_eq_true, if_true, List.map_append, List.map_cons,
      List.sum_append_nat, List.sum_cons]
  omega

/-- R53, R54: the line of an ordered item is at the tier of its size. An item of quantity 0, the only one whose size may have no unit price,
has a line of 0 at any price. -/
theorem lineAmount_unitPrice (t : PriceTable) (surcharge : Nat) {items : List Item} {i : Item} (h : i ∈ items) :
    lineAmount (unitPrice t items) surcharge (·.quantity) i =
      i.quantity * (tierPrice (sizeEntry t i.size) (sizeCount items i.size) + if i.finish = .matte then surcharge else 0) := by
  by_cases ordered : 0 < sizeCount items i.size
  · simp [lineAmount, unitPrice, ordered]
  · have zero : i.quantity = 0 := by have := quantity_le_sizeCount h; omega
    simp [lineAmount, zero]

/-- R54: the subtotal of a quote, line by line. -/
theorem subtotalOf_unitPrice (t : PriceTable) (surcharge : Nat) (items : List Item) :
    subtotalOf (unitPrice t items) surcharge (·.quantity) items = (items.map fun i =>
      i.quantity * (tierPrice (sizeEntry t i.size) (sizeCount items i.size) + if i.finish = .matte then surcharge else 0)).sum :=
  congrArg List.sum (List.map_congr_left fun _ h => lineAmount_unitPrice t surcharge h)

/-- R54, R58: the subtotal of a list of items is its first line and the subtotal of the rest. -/
theorem subtotalOf_cons (prices : Size → Option Nat) (surcharge : Nat) (count : Item → Nat) (x : Item) (xs : List Item) :
    subtotalOf prices surcharge count (x :: xs) = lineAmount prices surcharge count x + subtotalOf prices surcharge count xs := by
  simp only [subtotalOf, List.map_cons, List.sum_cons]

/-- R54, R58: of the same size and finish, fewer prints make a lower line. -/
theorem lineAmount_le {prices : Size → Option Nat} {surcharge : Nat} {count count' : Item → Nat} {x y : Item} (size : x.size = y.size)
    (finish : x.finish = y.finish) (fewer : count x ≤ count' y) :
    lineAmount prices surcharge count x ≤ lineAmount prices surcharge count' y := by
  rw [lineAmount, lineAmount, size, finish]
  exact Nat.mul_le_mul_right _ fewer

/-- R54, R58: position by position of the same size and finish, fewer prints make a lower subtotal. -/
theorem subtotalOf_le {prices : Size → Option Nat} {surcharge : Nat} {count count' : Item → Nat} {xs ys : List Item}
    (len : xs.length = ys.length)
    (h : ∀ (k : Nat) (x y : Item), xs[k]? = some x → ys[k]? = some y → x.size = y.size ∧ x.finish = y.finish ∧ count x ≤ count' y) :
    subtotalOf prices surcharge count xs ≤ subtotalOf prices surcharge count' ys := by
  induction xs generalizing ys with
  | nil => exact Nat.zero_le _
  | cons x xs ih =>
    cases ys with
    | nil => cases len
    | cons y ys =>
      obtain ⟨size, finish, fewer⟩ := h 0 x y rfl rfl
      rw [subtotalOf_cons, subtotalOf_cons]
      exact Nat.add_le_add (lineAmount_le size finish fewer) (ih (Nat.succ.inj len) fun k => h (k + 1))

/-- R54, R58: position by position of the same size and finish, as many prints make the same subtotal. -/
theorem subtotalOf_congr {prices : Size → Option Nat} {surcharge : Nat} {count count' : Item → Nat} {xs ys : List Item}
    (len : xs.length = ys.length)
    (h : ∀ (k : Nat) (x y : Item), xs[k]? = some x → ys[k]? = some y → x.size = y.size ∧ x.finish = y.finish ∧ count x = count' y) :
    subtotalOf prices surcharge count xs = subtotalOf prices surcharge count' ys := by
  refine Nat.le_antisymm (subtotalOf_le len fun k x y hx hy => ?_) (subtotalOf_le len.symm fun k y x hy hx => ?_)
  · obtain ⟨size, finish, same⟩ := h k x y hx hy
    exact ⟨size, finish, Nat.le_of_eq same⟩
  · obtain ⟨size, finish, same⟩ := h k x y hx hy
    exact ⟨size.symm, finish.symm, Nat.le_of_eq same.symm⟩

/-! ## Rates -/

/-- R55: no rate takes nothing. -/
@[simp] theorem rated_zero (amount : Nat) : rated amount 0 = 0 := by simp [rated]

/-- R55, R56: a rate of a greater amount is not less. -/
theorem rated_mono {a b : Nat} (h : a ≤ b) (rate : Nat) : rated a rate ≤ rated b rate :=
  Nat.div_le_div_right (Nat.add_le_add_right (Nat.mul_le_mul_right rate h) 5000)

/-- R55: on more, a rate of at most the whole takes at most the difference more. -/
theorem rated_add_le {rate : Nat} (h : rate ≤ 10000) (a d : Nat) : rated (a + d) rate ≤ rated a rate + d := by
  have part : d * rate ≤ d * 10000 := Nat.mul_le_mul_left d h
  simp only [rated, Nat.add_mul]
  omega

/-- R55: a discount is at most its subtotal. -/
theorem rated_le {rate : Nat} (h : rate ≤ 10000) (a : Nat) : rated a rate ≤ a := by
  simpa [rated] using rated_add_le h 0 a

/-- R55: what a discount leaves of a greater subtotal is not less. -/
theorem sub_rated_mono {rate a b : Nat} (h : rate ≤ 10000) (le : a ≤ b) : a - rated a rate ≤ b - rated b rate := by
  obtain ⟨d, rfl⟩ := Nat.exists_eq_add_of_le le
  have := rated_add_le h a d
  omega

/-- R55: a promotion in force with a rate, on a subtotal that reaches its minimum, applies. -/
theorem appliedRate_of_reached {t : PriceTable} {k subtotal : Nat} {e : Promotion} (entry : t.promotions[k]? = some e) (rate : e.rate ≠ 0)
    (reached : e.minimum ≤ subtotal) : appliedRate t (some k) subtotal = e.rate := by
  simp [appliedRate, entry, rate, reached]

/-- R55: a promotion without a rate, or one whose minimum is not reached, does not apply. -/
theorem appliedRate_of_not_reached {t : PriceTable} {k subtotal : Nat} {e : Promotion} (entry : t.promotions[k]? = some e)
    (fails : e.rate = 0 ∨ subtotal < e.minimum) : appliedRate t (some k) subtotal = 0 := by
  have not_applied : ¬(e.rate ≠ 0 ∧ e.minimum ≤ subtotal) := by omega
  simp only [appliedRate, Option.bind_some, entry, if_neg not_applied]

/-! ## What is due for a subtotal -/

/-- R56, R58: what is due for a subtotal at a discount rate and a tax rate. -/
def amountDue (rate taxRate subtotal : Nat) : Nat :=
  subtotal - rated subtotal rate + rated (subtotal - rated subtotal rate) taxRate

/-- R56: the quoted total is what is due for the ordered prints. -/
theorem total_fixedPrices (t : PriceTable) (items : List Item) (promotion : Option Nat) :
    (fixedPrices t items promotion).total =
      amountDue (fixedPrices t items promotion).rate t.taxRate (subtotalOf (unitPrice t items) t.surcharge (·.quantity) items) := rfl

/-- R58: a settlement is what is due for the printed copies. -/
theorem settlementOf_eq (f : FixedPrices) (items : List Item) :
    settlementOf f items = amountDue f.rate f.taxRate (subtotalOf (unitPriceOf f) f.surcharge (·.printed) items) := rfl

/-- R58: the settlement of an order's fixed prices is at the rates and unit prices of its quote. -/
theorem settlementOf_fixedPrices (t : PriceTable) (quoted printed : List Item) (promotion : Option Nat) :
    settlementOf (fixedPrices t quoted promotion) printed =
      amountDue (fixedPrices t quoted promotion).rate t.taxRate (subtotalOf (unitPrice t quoted) t.surcharge (·.printed) printed) := by
  rw [settlementOf_eq, unitPriceOf_fixedPrices]
  rfl

/-- R59: what is due never falls as the subtotal grows. -/
theorem amountDue_mono {rate a b : Nat} (h : rate ≤ 10000) (taxRate : Nat) (le : a ≤ b) : amountDue rate taxRate a ≤ amountDue rate taxRate b :=
  have net := sub_rated_mono h le
  Nat.add_le_add net (rated_mono net taxRate)

/-! ## The quote and the settlement -/

/-- Settles O57: the tier by the last threshold reached, the subtotal line by line, and the rest as the quote computation writes it. -/
theorem quoteArithmeticIsExact : Obligations.QuoteArithmeticIsExact := by
  refine ⟨fun _ _ _ _ _ => tierPrice_of_last_reached, fun _ _ => tierPrice_of_none_reached, ?_⟩
  rintro t items promotion f rfl
  refine ⟨congrFun (unitPriceOf_fixedPrices t items promotion), rfl, rfl, rfl, subtotalOf_unitPrice t t.surcharge items, ?_, ?_, rfl, rfl,
    rfl, fun h => rated_le h _⟩
  · rintro k e rfl entry rate reached
    exact appliedRate_of_reached entry rate reached
  · rintro (rfl | ⟨k, e, rfl, entry, fails⟩)
    · rfl
    · exact appliedRate_of_not_reached entry fails

/-- Settles O58: the quoted total and the settlement are what is due for two subtotals at the same rates, and the printed copies are at most
the ordered ones, item by item. -/
theorem settlementNeverAboveTheQuote : Obligations.SettlementNeverAboveTheQuote := by
  refine ⟨?_, ?_⟩
  · rintro f items sub net rfl rfl
    split
    case isTrue => rfl
    case isFalse unrated =>
      rw [settlementOf_eq, Nat.eq_zero_of_not_pos unrated, amountDue, rated_zero]
      rfl
  · intro t quoted printed promotion rate len same
    rw [settlementOf_fixedPrices, total_fixedPrices]
    refine ⟨amountDue_mono rate t.taxRate (subtotalOf_le len.symm fun k i q hi hq => same k q i hq hi),
      fun all => congrArg (amountDue _ _) (subtotalOf_congr len.symm fun k i q hi hq => ?_)⟩
    obtain ⟨size, finish, -⟩ := same k q i hq hi
    exact ⟨size, finish, all k q i hq hi⟩

end Sys2Proof.Machine
end

section
/-! SUPPORT. SHIFT_CLOSE (R146), with the rules every service kind needs: the taking of a request at the head of the intake list (R170), and
its refusal in a station slot (R177). -/

namespace Sys2Proof.Machine

/-! ## The taking of a request of a service kind -/

/-- R170: a taking that passes the format and privilege checks completes with the work of its kind, on the slot taken. -/
theorem taking_endsAs {s : State} {k : Kind} {n : SlotId} {rest : List SlotId} (hh : Heads s k n rest) (work : SlotId → State → State) :
    EndsAs (event (taking k work) s) (work n (takeSlot n rest s.quiet)) := by
  have ⟨run, _⟩ := hh
  exact endsAs_congr (event_endsAs _ s run) (taking_of_heads hh work)

/-- R170: the format check reads the request part only, which a taking leaves alone. -/
theorem formatGood_takeSlot (k : Kind) (n : SlotId) (rest : List SlotId) (s : State) :
    formatGood k ((takeSlot n rest s).slot n) = formatGood k (s.slot n) := by
  rw [slot_takeSlot]
  cases k <;> rfl

/-- R170, R177: a well-formed request of a service kind in a station slot is refused, whatever the work of its kind. -/
theorem dispatch_takeSlot_of_stationSlot {s : State} {k : Kind} {n : SlotId} (good : formatGood k (s.slot n) = true)
    (service : k.service = true) (station : stationSlot n = true) (rest : List SlotId) (work : SlotId → State → State) :
    dispatch k work n (takeSlot n rest s) = answered n rest .privilege .none .zero s := by
  have passes : ¬ formatGood k ((takeSlot n rest s).slot n) = false := by simp [formatGood_takeSlot, good]
  rw [dispatch, if_neg passes, if_pos ⟨service, station⟩, refuseSlot, complete_takeSlot]

/-- R170, R177: the taking of a service kind from a station slot completes PRIVILEGE and does nothing else. -/
theorem taking_endsAs_privilege {s : State} {k : Kind} {n : SlotId} {rest : List SlotId} (run : s.part = .run) (head : s.intake = n :: rest)
    (kind : kindCode (s.slot n) = k.code) (good : formatGood k (s.slot n) = true) (service : k.service = true) (station : n.val < 56)
    (work : SlotId → State → State) :
    EndsAs (event (taking k work) s) (answered n rest .privilege .none .zero s.quiet) := by
  have dispatched : taking k work s.quiet = dispatch k work n (takeSlot n rest s.quiet) := by
    rw [taking, show s.quiet.intake = n :: rest from head]
    exact if_pos kind
  refine endsAs_congr (event_endsAs _ s run) (dispatched.trans ?_)
  exact dispatch_takeSlot_of_stationSlot (s := s.quiet) good service (decide_eq_true station) rest work

/-! ## SHIFT_CLOSE -/

/-- R145, R146: the work of the taking: the till as it stood goes into the result, and the new shift opens at the current CLOCK. -/
theorem shiftCloseWork_takeSlot (n : SlotId) (rest : List SlotId) (s : State) :
    shiftCloseWork n (takeSlot n rest s) =
      answered n rest .ok .none (.shift s.clock s.terminal.till) (s.onTill fun _ => Till.zero s.clock) :=
  complete_takeSlot n rest .ok .none (.shift s.clock s.terminal.till) (s.onTill fun _ => Till.zero s.clock)

/-- Settles O51: the taking answers with the work of SHIFT_CLOSE on the slot taken, and in a station slot with the refusal of a service
kind. -/
theorem shiftCloseReadsAndZeroesTheTill : Obligations.ShiftCloseReadsAndZeroesTheTill := by
  refine ⟨fun s n rest hh => ?_, fun s n rest run head kind good station => ?_⟩
  · exact endsAs_congr (taking_endsAs hh shiftCloseWork) (shiftCloseWork_takeSlot n rest s.quiet)
  · exact taking_endsAs_privilege run head kind good rfl station shiftCloseWork

end Sys2Proof.Machine
end

section
/-! SUPPORT. What every command comes to, whatever it is about: it ends in a next state, which is the frame of its event around its own effect
(R181, R182); and a step keeps what every command and a millisecond keep. -/

namespace Sys2Proof.Machine

/-! ## The frame of an event -/

/-- R182: an event of a block does nothing, or its effect in RUN. -/
theorem event_cases {f : State → State} {s t : State} (h : event f s = .next t) :
    t = s.quiet ∨ s.part = .run ∧ t = closeEvent s.quiet (f s.quiet) := by
  unfold event at h
  injection h with h
  subst h
  split
  case isTrue run => exact .inr ⟨run, rfl⟩
  case isFalse => exact .inl rfl

/-- R161: a host write does nothing, or its effect in RUN over a link that is up. -/
theorem hostEvent_cases {f : State → State} {s t : State} (h : hostEvent f s = .next t) :
    t = s.quiet ∨ (s.part = .run ∧ s.pcieUp = true) ∧ t = closeEvent s.quiet (f s.quiet) := by
  unfold hostEvent at h
  injection h with h
  subst h
  split
  case isTrue up => exact .inr ⟨up, rfl⟩
  case isFalse => exact .inl rfl

/-- R162: a write to a control word does nothing, or its effect in RUN over a link that is up. -/
theorem controlWrite_cases {f : State → State} {s t : State} (h : controlWrite f s = .next t) :
    t = s.quiet ∨ (s.part = .run ∧ s.pcieUp = true) ∧ t = interruptAfterWrite (f s.quiet) := by
  unfold controlWrite at h
  injection h with h
  subst h
  split
  case isTrue up => exact .inr ⟨up, rfl⟩
  case isFalse => exact .inl rfl

theorem hostEvent_shell_cases {f : State → State} {s t : State} (h : hostEvent f s = .next t) :
    t.shell = s.shell ∨ t.shell = (f s.quiet).shell := by
  obtain rfl | ⟨-, rfl⟩ := hostEvent_cases h
  · exact .inl rfl
  · exact .inr (shell_closeEvent _ _)

theorem event_shell_cases {f : State → State} {s t : State} (h : event f s = .next t) :
    t.shell = s.shell ∨ t.shell = (f s.quiet).shell := by
  obtain rfl | ⟨-, rfl⟩ := event_cases h
  · exact .inl rfl
  · exact .inr (shell_closeEvent _ _)

theorem controlWrite_shell_cases {f : State → State} {s t : State} (h : controlWrite f s = .next t) :
    t.shell = s.shell ∨ t.shell = (f s.quiet).shell := by
  obtain rfl | ⟨-, rfl⟩ := controlWrite_cases h
  · exact .inl rfl
  · exact .inr (shell_interruptAfterWrite _)

/-- The manual names no condition in which the part stops. -/
theorem exec_next (c : Instr) (s : State) : ∃ t, exec c s = .next t := by
  cases c <;> exact ⟨_, rfl⟩

/-! ## The step -/

/-- What every command keeps, and the passing of a millisecond, a step keeps. -/
theorem step_keeps {P : State → Prop} (queue : ∀ s rest, P s → P { s with pending := rest }) (time : ∀ s, P s → P (millisecond s))
    (command : ∀ c s t, P s → exec c s = .next t → P t) (s t : State) (hs : P s) (h : step s = .next t) : P t := by
  unfold step at h
  split at h
  case h_1 => injection h with h; exact h ▸ time s hs
  case h_2 c rest _ => exact command c _ t (queue s rest hs) h

end Sys2Proof.Machine
end

section
/-! SUPPORT. The slots as the host's writes and the takings move them (R163 to R169): what any command can do to the intake list, to the states
of the slots and to the request parts, and the laws that follow. -/

namespace Sys2Proof.Machine

/-! ## The desk: slots and intake list, without what the owner of a TAKEN slot writes -/

/-- The slots and the intake list, without what the owner of a TAKEN slot writes (R171). -/
def State.desk (s : State) : Vector Slot 64 × List SlotId := (s.slots.map Slot.shell, s.intake)

theorem desk_of_shell {s t : State} (h : t.shell = s.shell) : t.desk = s.desk := congrArg (fun u : State => (u.slots, u.intake)) h

@[simp] theorem desk_complete (n : SlotId) (st : Status) (why : Reason) (body : Body) (s : State) : (complete n st why body s).desk = s.desk :=
  desk_of_shell (shell_complete n st why body s)

@[simp] theorem desk_refuseSlot (n : SlotId) (st : Status) (s : State) : (refuseSlot n st s).desk = s.desk :=
  desk_of_shell (shell_refuseSlot n st s)

@[simp] theorem desk_closeEvent (b s : State) : (closeEvent b s).desk = s.desk := desk_of_shell (shell_closeEvent b s)

@[simp] theorem desk_interruptAfterWrite (s : State) : (interruptAfterWrite s).desk = s.desk := desk_of_shell (shell_interruptAfterWrite s)

/-- R22: OPEN_ORDER changes the serial counter besides. -/
theorem desk_openOrderWork (i : StationId) (n : SlotId) (s : State) : (openOrderWork i n s).desk = s.desk := by
  unfold openOrderWork
  (repeat' split) <;> exact desk_complete _ _ _ _ _

/-- R153: SET_APERTURE changes an entry besides. -/
theorem desk_setApertureWork (n : SlotId) (s : State) : (setApertureWork n s).desk = s.desk := by
  have checked : ∀ a, (apertureChecked a n s).desk = s.desk := fun a => by
    simp only [apertureChecked]
    (repeat' split) <;> exact desk_complete _ _ _ _ _
  unfold setApertureWork
  split
  · exact checked _
  · exact desk_refuseSlot _ _ _

/-- R178: SET_TIMERS changes the settings besides. -/
theorem desk_setTimersWork (n : SlotId) (s : State) : (setTimersWork n s).desk = s.desk := desk_complete _ _ _ _ _

/-! ## What a command does to the desk -/

/-- R164 to R166: a slot as POST leaves it. -/
abbrev postedSlot (c : Slot) : Slot :=
  { c with state := .posted, progress := 0, status := .ok, reason := .none, tagEcho := 0, completedAt := 0, body := .zero }

/-- R163 to R170: what a command does to the slots and to the intake list. -/
inductive DeskMove (s t : State) : Prop
  | kept (same : t.desk = s.desk)
  | cleared (same : t.desk = State.reset.desk)
  | written (n : SlotId) (offset : Nat) (data : List Byte)
      (same : t.desk = (s.onSlot n fun c => { c with request := Mem.store c.request offset data }).desk)
  | posted (n : SlotId) (free : (s.slot n).state = .free)
      (same : t.desk = State.desk { (s.onSlot n postedSlot) with intake := s.intake ++ [n] })
  | taken (n : SlotId) (rest : List SlotId) (head : s.intake = n :: rest) (same : t.desk = (takeSlot n rest s).desk)
  | cancelled (n : SlotId) (posted : (s.slot n).state = .posted) (same : t.desk = (takeSlot n (s.intake.filter (· != n)) s).desk)
  | released (n : SlotId) (done : (s.slot n).state = .done)
      (same : t.desk = (s.onSlot n fun c => { c with state := .free, progress := 0 }).desk)

namespace DeskMove

/-- What follows with the same desk is the same move. -/
theorem congr {s t u : State} (same : t.desk = u.desk) (h : DeskMove s u) : DeskMove s t := by
  cases h with
  | kept h => exact .kept (same.trans h)
  | cleared h => exact .cleared (same.trans h)
  | written n offset data h => exact .written n offset data (same.trans h)
  | posted n free h => exact .posted n free (same.trans h)
  | taken n rest head h => exact .taken n rest head (same.trans h)
  | cancelled n posted h => exact .cancelled n posted (same.trans h)
  | released n done h => exact .released n done (same.trans h)

theorem of_shell {s t : State} (h : t.shell = s.shell) : DeskMove s t := .kept (desk_of_shell h)

/-- What was sent before is no part of a move. -/
theorem of_quiet {s t : State} (h : DeskMove s.quiet t) : DeskMove s t := by
  cases h with
  | kept h => exact .kept h
  | cleared h => exact .cleared h
  | written n offset data h => exact .written n offset data h
  | posted n free h => exact .posted n free h
  | taken n rest head h => exact .taken n rest head h
  | cancelled n posted h => exact .cancelled n posted h
  | released n done h => exact .released n done h

/-- A taking whose work keeps the desk. -/
theorem of_taking {k : Kind} {work : SlotId → State → State} {s t : State} (keeps : ∀ n u, (work n u).desk = u.desk)
    (h : event (taking k work) s = .next t) : DeskMove s t := by
  obtain rfl | ⟨-, rfl⟩ := event_cases h
  · exact .kept rfl
  · refine congr (desk_closeEvent _ _) ?_
    obtain same | ⟨n, rest, head, same⟩ := taking_keeps State.desk k work keeps desk_refuseSlot s.quiet
    · exact .kept same
    · exact .taken n rest head same

/-- R161: a host write to the window moves the desk as its effect does. -/
theorem of_hostEvent {f : State → State} {s t : State} (effect : ∀ u, DeskMove u (f u)) (h : hostEvent f s = .next t) : DeskMove s t := by
  obtain rfl | ⟨-, rfl⟩ := hostEvent_cases h
  · exact .kept rfl
  · exact congr (desk_closeEvent _ _) (effect s.quiet).of_quiet

theorem of_controlWrite {f : State → State} {s t : State} (effect : ∀ u, (f u).desk = u.desk) (h : controlWrite f s = .next t) :
    DeskMove s t := by
  obtain rfl | ⟨-, rfl⟩ := controlWrite_cases h
  · exact .kept rfl
  · exact .kept ((desk_interruptAfterWrite _).trans (effect s.quiet))

/-- R163: a write to a request part. -/
theorem writeRequest (n : SlotId) (offset : Nat) (data : List Byte) (s : State) : DeskMove s (writeRequest n offset data s) := by
  unfold Machine.writeRequest
  split
  · exact .written n offset data rfl
  · exact .kept rfl

/-- R164, R169: POST. -/
theorem postSlot (n : SlotId) (s : State) : DeskMove s (postSlot n s) := by
  unfold Machine.postSlot
  split
  case isTrue free => exact .posted n free rfl
  case isFalse => exact .kept rfl

/-- R166, R167: CANCEL. -/
theorem cancelSlot (n : SlotId) (s : State) : DeskMove s (cancelSlot n s) := by
  unfold Machine.cancelSlot
  split
  case h_1 posted => exact .cancelled n posted (desk_refuseSlot _ _ _)
  case h_2 => exact .of_shell ((shell_settle _ _).trans (shell_cancelTaken n s))
  case h_3 => exact .kept rfl
  case h_4 => exact .kept rfl

/-- R168: RELEASE. -/
theorem releaseSlot (n : SlotId) (s : State) : DeskMove s (releaseSlot n s) := by
  unfold Machine.releaseSlot
  split
  case isTrue done => exact .released n done rfl
  case isFalse => exact .kept rfl

/-- R115: GIVE_BACK. -/
theorem giveBackSlot (n : SlotId) (s : State) : DeskMove s (giveBackSlot n s) := by
  unfold Machine.giveBackSlot
  split
  · split
    · exact .of_shell (by simp)
    · exact .kept rfl
  · exact .kept rfl

end DeskMove

/-- R181: a part reset makes every slot FREE. -/
theorem desk_partResetState (s : State) : (partResetState s).desk = State.reset.desk := rfl

/-- R182: the entry to RUN. -/
theorem desk_enterRun {s t : State} (h : execEnterRun s = .next t) : t.desk = s.desk := by
  unfold execEnterRun at h
  injection h with h
  subst h
  split
  · have kept : ∀ u : State, (evalAllLamps (forEach (List.finRange 4) readContact u)).desk = u.desk := fun u => desk_of_shell (by simp)
    exact (desk_closeEvent _ _).trans (kept _)
  · rfl

/-- R163 to R170, R181: every command. -/
theorem exec_deskMove {c : Instr} {s t : State} (h : exec c s = .next t) : DeskMove s t := by
  by_cases hc : changesShell c = false
  · obtain same | ⟨n, rest, head, same⟩ := exec_shell c s t hc h
    · exact .of_shell same
    · exact .taken n rest head (desk_of_shell same)
  cases c <;> first | exact absurd rfl hc | simp only [exec] at h
  case powerOn => injection h with h; exact h ▸ .cleared rfl
  case resetNHigh => injection h with h; exact h ▸ .cleared rfl
  case partReset =>
    injection h with h
    subst h
    split
    · exact .cleared rfl
    · exact .kept rfl
  case linkDown =>
    injection h with h
    subst h
    split
    · exact .cleared rfl
    · exact .kept rfl
  case hotReset =>
    injection h with h
    subst h
    split
    · exact .cleared rfl
    · exact .kept rfl
  case enterRun => exact .kept (desk_enterRun h)
  case clockTick => injection h with h; subst h; split <;> exact .kept rfl
  case msiEnable => injection h with h; subst h; split <;> exact .kept rfl
  case pcieLinkUp => injection h with h; subst h; split <;> exact .kept rfl
  case slotRequestWrite n offset data => exact .of_hostEvent (DeskMove.writeRequest n offset data) h
  case attn v => exact .of_controlWrite (f := clearAttn v) (fun _ => rfl) h
  case attnEnable v => exact .of_controlWrite (f := fun u => { u with attnEnable := v.setWidth 5 }) (fun _ => rfl) h
  case post n => exact .of_hostEvent (DeskMove.postSlot n) h
  case cancel n => exact .of_hostEvent (DeskMove.cancelSlot n) h
  case release n => exact .of_hostEvent (DeskMove.releaseSlot n) h
  case giveBack n => exact .of_hostEvent (DeskMove.giveBackSlot n) h
  case stripWriteRefused => exact .of_hostEvent (f := misuse) (fun _ => .kept rfl) h
  case openOrder =>
    refine .of_taking (withStation_keeps State.desk _ desk_openOrderWork desk_refuseSlot fun i u => desk_of_shell (by simp)) h
  case setAperture => exact .of_taking desk_setApertureWork h
  case setTimers => exact .of_taking desk_setTimersWork h
  case contactClose b =>
    exact .congr (desk_of_shell (event_shell _ _ t (shell_closeContact b) h)) (.kept rfl)
  case contactOpen b =>
    exact .congr (desk_of_shell (event_shell _ _ t (shell_openContact b) h)) (.kept rfl)

/-- A millisecond touches no slot. -/
theorem desk_millisecond (s : State) : (millisecond s).desk = s.desk := by
  unfold millisecond
  split <;> rfl

/-! ## The laws of the desk -/

theorem shell_slot_of_desk {s t : State} (h : t.desk = s.desk) (n : SlotId) : (t.slot n).shell = (s.slot n).shell := by
  have look_eq := congrArg (fun d : Vector Slot 64 × List SlotId => look d.1 n) h
  exact (look_map _ _ _).symm.trans (look_eq.trans (look_map _ _ _))

theorem posted_of_desk {s t : State} (h : t.desk = s.desk) (n : SlotId) : (t.slot n).state = .posted ↔ (s.slot n).state = .posted := by
  have same := congrArg Slot.state (shell_slot_of_desk h n)
  simp only [Slot.shell] at same
  grind

theorem request_of_desk {s t : State} (h : t.desk = s.desk) (n : SlotId) : (t.slot n).request = (s.slot n).request :=
  (congrArg Slot.request (shell_slot_of_desk h n) : (t.slot n).shell.request = (s.slot n).shell.request)

theorem intake_of_desk {s t : State} (h : t.desk = s.desk) : t.intake = s.intake := congrArg Prod.snd h

theorem intakeLaw_of_desk {s t : State} (h : t.desk = s.desk) (law : IntakeLaw s) : IntakeLaw t := by
  obtain ⟨nodup, mem⟩ := law
  refine ⟨intake_of_desk h ▸ nodup, fun n => ?_⟩
  rw [intake_of_desk h, posted_of_desk h, mem]

theorem requestsCanonical_of_desk {s t : State} (h : t.desk = s.desk) (law : RequestsCanonical s) : RequestsCanonical t :=
  fun n => request_of_desk h n ▸ law n

/-- R169: every command keeps the law of the intake list. -/
theorem intakeLaw_of_deskMove {s t : State} (law : IntakeLaw s) (h : DeskMove s t) : IntakeLaw t := by
  obtain ⟨nodup, mem⟩ := law
  cases h with
  | kept h => exact intakeLaw_of_desk h ⟨nodup, mem⟩
  | cleared h => exact intakeLaw_of_desk h ⟨List.nodup_nil, fun n => by simp [State.slot, State.reset, Slot.reset]⟩
  | written n offset data h =>
    refine intakeLaw_of_desk h ⟨nodup, fun m => ?_⟩
    rw [slot_onSlot]
    split <;> exact mem m
  | posted n free h =>
    have fresh : n ∉ s.intake := by simp [mem, free]
    refine intakeLaw_of_desk h ⟨List.nodup_append.2 ⟨nodup, List.pairwise_singleton _ n, by grind⟩, fun m => ?_⟩
    show m ∈ s.intake ++ [n] ↔ ((s.onSlot n postedSlot).slot m).state = .posted
    rw [slot_onSlot]
    split <;> grind
  | taken n rest head h =>
    rw [head] at nodup mem
    obtain ⟨notin, nodup⟩ := List.nodup_cons.1 nodup
    refine intakeLaw_of_desk h ⟨nodup, fun m => ?_⟩
    show m ∈ rest ↔ ((s.onSlot n fun c => { c with state := .taken, tagEcho := hostTag c }).slot m).state = .posted
    rw [slot_onSlot]
    split <;> grind
  | cancelled n posted h =>
    refine intakeLaw_of_desk h ⟨nodup.filter _, fun m => ?_⟩
    show m ∈ s.intake.filter (· != n) ↔ ((s.onSlot n fun c => { c with state := .taken, tagEcho := hostTag c }).slot m).state = .posted
    rw [slot_onSlot]
    split <;> grind
  | released n done h =>
    refine intakeLaw_of_desk h ⟨nodup, fun m => ?_⟩
    show m ∈ s.intake ↔ _
    rw [slot_onSlot]
    split <;> grind

/-- R163: a change of one request part to another in canonical form. -/
theorem requestsCanonical_onSlot {s : State} (law : RequestsCanonical s) (n : SlotId) (f : Slot → Slot)
    (good : ∀ c, Mem.wf c.request = true → (∀ x ∈ c.request, x.1 < requestBytes) →
      Mem.wf (f c).request = true ∧ ∀ x ∈ (f c).request, x.1 < requestBytes) : RequestsCanonical (s.onSlot n f) := by
  intro m
  rw [slot_onSlot]
  split
  · exact good _ (law m).1 (law m).2
  · exact law m

/-- R163: every command keeps the request parts canonical. -/
theorem requestsCanonical_of_deskMove {s t : State} (law : RequestsCanonical s) (h : DeskMove s t) : RequestsCanonical t := by
  cases h with
  | kept h => exact requestsCanonical_of_desk h law
  | cleared h => exact requestsCanonical_of_desk h fun n => ⟨reset_requests_wf n, by simp [State.slot, State.reset, Slot.reset]⟩
  | written n offset data h =>
    exact requestsCanonical_of_desk h
      (requestsCanonical_onSlot law n _ fun c wf bound => ⟨Mem.store_wf data c.request offset wf, Mem.store_bound data c.request offset bound⟩)
  | posted n free h => exact requestsCanonical_of_desk h (requestsCanonical_onSlot law n _ fun _ wf bound => ⟨wf, bound⟩)
  | taken n rest head h => exact requestsCanonical_of_desk h (requestsCanonical_onSlot law n _ fun _ wf bound => ⟨wf, bound⟩)
  | cancelled n posted h => exact requestsCanonical_of_desk h (requestsCanonical_onSlot law n _ fun _ wf bound => ⟨wf, bound⟩)
  | released n done h => exact requestsCanonical_of_desk h (requestsCanonical_onSlot law n _ fun _ wf bound => ⟨wf, bound⟩)

/-- Settles O4: both laws speak of the desk alone, which a command moves in one of seven ways. -/
theorem intakeAndRequestPartsAreKept : Obligations.IntakeAndRequestPartsAreKept :=
  ⟨step_keeps (fun _ _ law => law) (fun s law => intakeLaw_of_desk (desk_millisecond s) law)
      fun _ _ _ law h => intakeLaw_of_deskMove law (exec_deskMove h),
    step_keeps (fun _ _ law => law) (fun s law => requestsCanonical_of_desk (desk_millisecond s) law)
      fun _ _ _ law h => requestsCanonical_of_deskMove law (exec_deskMove h)⟩

end Sys2Proof.Machine
end

section
/-! SUPPORT. The frame of an event, for invariants: what the end of an event, the settling and the steps of a taking keep, the event of an
effect that keeps it keeps too. -/

namespace Sys2Proof.Machine

/-- What every event has in common keeps `P`: its end (R173, R175), the settling, and the steps of a taking up to NO_SUCH (R11, R170, R171). -/
structure EventKeeps (P : State → Prop) : Prop where
  quiet : ∀ s, P s → P s.quiet
  close : ∀ b s, P s → P (closeEvent b s)
  write : ∀ s, P s → P (interruptAfterWrite s)
  settle : ∀ b s, P s → P (settle b s)
  take : ∀ n rest s, P s → P (takeSlot n rest s)
  complete : ∀ n st why body s, P s → P (complete n st why body s)
  restart : ∀ k s, P s → P (restartSession k s)

namespace EventKeeps
variable {P : State → Prop} (K : EventKeeps P)
include K

theorem refuse (n : SlotId) (st : Status) (s : State) (hs : P s) : P (refuseSlot n st s) := K.complete n st .none .zero s hs

theorem event {f : State → State} {s t : State} (hs : P s) (h : event f s = .next t) (effect : ∀ u, P u → P (f u)) : P t := by
  obtain rfl | ⟨-, rfl⟩ := event_cases h
  · exact K.quiet s hs
  · exact K.close _ _ (effect _ (K.quiet s hs))

theorem settlingEvent {f : State → State} {s t : State} (hs : P s) (h : settlingEvent f s = .next t) (effect : ∀ u, P u → P (f u)) : P t :=
  K.event hs h fun u hu => K.settle u (f u) (effect u hu)

theorem hostEvent {f : State → State} {s t : State} (hs : P s) (h : hostEvent f s = .next t) (effect : ∀ u, P u → P (f u)) : P t := by
  obtain rfl | ⟨-, rfl⟩ := hostEvent_cases h
  · exact K.quiet s hs
  · exact K.close _ _ (effect _ (K.quiet s hs))

theorem controlWrite {f : State → State} {s t : State} (hs : P s) (h : controlWrite f s = .next t) (effect : ∀ u, P u → P (f u)) : P t := by
  obtain rfl | ⟨-, rfl⟩ := controlWrite_cases h
  · exact K.quiet s hs
  · exact K.write _ (effect _ (K.quiet s hs))

theorem taking {k : Kind} {work : SlotId → State → State} {s t : State} (hs : P s) (h : Machine.event (taking k work) s = .next t)
    (effect : ∀ n u, P u → P (work n u)) : P t := by
  refine K.event hs h fun u hu => ?_
  unfold Machine.taking
  split
  · exact hu
  split
  case isFalse => exact hu
  case isTrue =>
    unfold dispatch
    (repeat' split) <;> first | exact K.refuse _ _ _ (K.take _ _ _ hu) | exact effect _ _ (K.take _ _ _ hu)

theorem withStation {work : StationId → SlotId → State → State} (effect : ∀ i n u, P u → P (work i n u)) (n : SlotId) (s : State) (hs : P s) :
    P (withStation work n s) := by
  unfold Machine.withStation restartForStation
  split
  case isFalse => exact K.refuse _ _ _ hs
  case isTrue =>
    split
    · exact effect _ _ _ (K.restart _ _ hs)
    · exact effect _ _ _ hs

theorem withOrder {work : OrderId → SlotId → State → State} (effect : ∀ o n u, P u → P (work o n u)) (n : SlotId) (s : State) (hs : P s) :
    P (withOrder work n s) := by
  unfold Machine.withOrder restartForOrder
  (repeat' split) <;> first | exact K.refuse _ _ _ hs | exact effect _ _ _ (K.restart _ _ hs) | exact effect _ _ _ hs

end EventKeeps

end Sys2Proof.Machine
end

section
/-! SUPPORT. The core of State: the apertures, the transfers granted and the holder of the terminal, of which the laws of R130, R153, R156 and
R157 speak. Only the arbiters, the ends of holdings and transfers, the link of the terminal, SET_APERTURE and the resets move it; every other
operation leaves it alone. -/

namespace Sys2Proof.Machine

structure Core where
  apertures : Vector Aperture 8
  granted : List Granted
  state : TerminalState
  holder : Option Holder

def State.core (s : State) : Core :=
  { apertures := s.apertures, granted := s.port.granted, state := s.terminal.state, holder := s.terminal.holder }

theorem apertures_of_core {s t : State} (h : t.core = s.core) : t.apertures = s.apertures := congrArg Core.apertures h

theorem granted_of_core {s t : State} (h : t.core = s.core) : t.port.granted = s.port.granted := congrArg Core.granted h

theorem holds_of_core {s t : State} (h : t.core = s.core) : t.terminal.state = s.terminal.state ∧ t.terminal.holder = s.terminal.holder :=
  ⟨congrArg Core.state h, congrArg Core.holder h⟩

/-! ## The updates -/

@[simp] theorem core_onSlot (s : State) (n : SlotId) (f : Slot → Slot) : (s.onSlot n f).core = s.core := rfl
@[simp] theorem core_onStation (s : State) (i : StationId) (f : Station → Station) : (s.onStation i f).core = s.core := rfl
@[simp] theorem core_onSession (s : State) (k : SessionId) (f : Session → Session) : (s.onSession k f).core = s.core := rfl
@[simp] theorem core_onOrder (s : State) (o : OrderId) (f : Order → Order) : (s.onOrder o f).core = s.core := rfl
@[simp] theorem core_onItem (s : State) (o : OrderId) (i : Nat) (f : Item → Item) : (s.onItem o i f).core = s.core := rfl
@[simp] theorem core_onEntry (s : State) (p : PrinterId) (f : StockEntry → StockEntry) : (s.onEntry p f).core = s.core := rfl
@[simp] theorem core_onPrinter (s : State) (p : PrinterId) (f : Printer → Printer) : (s.onPrinter p f).core = s.core := rfl
@[simp] theorem core_onCopy (s : State) (p : PrinterId) (f : Copy → Copy) : (s.onCopy p f).core = s.core := rfl
@[simp] theorem core_onNote (s : State) (o : OrderId) (f : Option Nat → Option Nat) : (s.onNote o f).core = s.core := rfl
@[simp] theorem core_onBay (s : State) (b : BayId) (f : Bay → Bay) : (s.onBay b f).core = s.core := rfl
@[simp] theorem core_onActive (s : State) (b : BayId) (f : Read → Read) : (s.onActive b f).core = s.core := rfl
@[simp] theorem core_onPrice (s : State) (f : PriceUnit → PriceUnit) : (s.onPrice f).core = s.core := rfl
@[simp] theorem core_onTill (s : State) (f : Till → Till) : (s.onTill f).core = s.core := rfl
@[simp] theorem core_emit (s : State) (o : Out) : (s.emit o).core = s.core := rfl
@[simp] theorem core_quiet (s : State) : s.quiet.core = s.core := rfl
@[simp] theorem core_present (s : State) (t : Transfer) : (s.present t).core = s.core := rfl
@[simp] theorem core_withdraw (s : State) (r : Requester) : (s.withdraw r).core = s.core := rfl
@[simp] theorem core_markUnit (s : State) (n : UnitId) : (s.markUnit n).core = s.core := rfl
@[simp] theorem core_markOrder (s : State) (o : OrderId) : (s.markOrder o).core = s.core := rfl
@[simp] theorem core_markChanges (b s : State) : (markChanges b s).core = s.core := rfl

/-- A change of the terminal that is none of its state and holder. -/
@[simp] theorem core_onTerminal (s : State) (f : Terminal → Terminal) (state : (f s.terminal).state = s.terminal.state)
    (holder : (f s.terminal).holder = s.terminal.holder) : (s.onTerminal f).core = s.core := by
  simp only [State.core, State.onTerminal, state, holder]

theorem core_forEach {α : Type} (f : α → State → State) (h : ∀ a s, (f a s).core = s.core) (l : List α) (s : State) :
    (forEach l f s).core = s.core := forEach_keeps State.core f h l s


/-! ## Events, slots, stations and sessions -/

@[simp] theorem core_sendMessage (s : State) : (sendMessage s).core = s.core := by
  simp only [sendMessage]
  (repeat' split) <;> simp

@[simp] theorem core_interruptAfterWrite (s : State) : (interruptAfterWrite s).core = s.core := by
  simp only [interruptAfterWrite]
  (repeat' split) <;> simp

@[simp] theorem core_interruptOnEdge (b s : State) : (interruptOnEdge b s).core = s.core := by
  simp only [interruptOnEdge]
  (repeat' split) <;> simp

@[simp] theorem core_closeEvent (b s : State) : (closeEvent b s).core = s.core := by
  simp only [closeEvent]
  simp

@[simp] theorem core_complete (n : SlotId) (st : Status) (why : Reason) (body : Body) (s : State) : (complete n st why body s).core = s.core := by
  simp only [complete]
  split <;> rfl

@[simp] theorem core_completeKeeping (n : SlotId) (st : Status) (s : State) : (completeKeeping n st s).core = s.core := by
  simp only [completeKeeping]
  simp

@[simp] theorem core_advanceProgress (n : SlotId) (s : State) : (advanceProgress n s).core = s.core := by
  simp only [advanceProgress]
  split <;> rfl

@[simp] theorem core_writeBody (n : SlotId) (body : Body) (s : State) : (writeBody n body s).core = s.core := by
  simp only [writeBody]
  (repeat' split) <;> simp

@[simp] theorem core_refuseSlot (n : SlotId) (st : Status) (s : State) : (refuseSlot n st s).core = s.core := by
  simp only [refuseSlot]
  simp

@[simp] theorem core_refuseState (o : OrderId) (n : SlotId) (s : State) : (refuseState o n s).core = s.core := by
  simp only [refuseState]
  simp

@[simp] theorem core_takeSlot (n : SlotId) (rest : List SlotId) (s : State) : (takeSlot n rest s).core = s.core := rfl

@[simp] theorem core_evalLamps (i : StationId) (s : State) : (evalLamps i s).core = s.core := by
  simp only [evalLamps]
  simp

@[simp] theorem core_evalAllLamps (s : State) : (evalAllLamps s).core = s.core := core_forEach _ core_evalLamps _ s

@[simp] theorem core_noteChanges (before s : State) : (noteChanges before s).core = s.core := by
  simp only [noteChanges]
  simp

@[simp] theorem core_openSessionAt (i : StationId) (k : SessionId) (s : State) : (openSessionAt i k s).core = s.core := by
  simp only [openSessionAt]
  simp

@[simp] theorem core_restartSession (k : SessionId) (s : State) : (restartSession k s).core = s.core := by
  simp only [restartSession]
  (repeat' split) <;> simp

@[simp] theorem core_restartForStation (i : StationId) (s : State) : (restartForStation i s).core = s.core := by
  simp only [restartForStation]
  (repeat' split) <;> simp

@[simp] theorem core_restartForOrder (o : OrderId) (s : State) : (restartForOrder o s).core = s.core := by
  simp only [restartForOrder]
  (repeat' split) <;> simp

@[simp] theorem core_clearNoRoom (s : State) : (clearNoRoom s).core = s.core := core_forEach _ (fun i t => by split <;> simp) _ s

@[simp] theorem core_freeEntry (k : SessionId) (s : State) : (freeEntry k s).core = s.core := by
  simp only [freeEntry]
  simp

@[simp] theorem core_cardArrival (i : StationId) (s : State) : (cardArrival i s).core = s.core := by
  simp only [cardArrival]
  (repeat' split) <;> simp

@[simp] theorem core_reportFinal (o : OrderId) (s : State) : (reportFinal o s).core = s.core := by
  simp only [reportFinal]
  (repeat' split) <;> simp

@[simp] theorem core_stopWatch (o : OrderId) (s : State) : (stopWatch o s).core = s.core := by
  simp only [stopWatch]
  (repeat' split) <;> simp

@[simp] theorem core_restartWatch (o : OrderId) (s : State) : (restartWatch o s).core = s.core := by
  simp only [restartWatch]
  (repeat' split) <;> simp

@[simp] theorem core_startNotice (i : StationId) (s : State) : (startNotice i s).core = s.core := by
  simp only [startNotice]
  simp

@[simp] theorem core_reportPayEnd (o : OrderId) (outcome : PayOutcome) (s : State) : (reportPayEnd o outcome s).core = s.core := by
  simp only [reportPayEnd]
  (repeat' split) <;> simp

@[simp] theorem core_closeEntry (k : SessionId) (i : StationId) (s : State) : (closeEntry k i s).core = s.core := by
  simp only [closeEntry]
  (repeat' split) <;> simp

@[simp] theorem core_openSessionWork (i : StationId) (n : SlotId) (s : State) : (openSessionWork i n s).core = s.core := by
  simp only [openSessionWork]
  (repeat' split) <;> simp

/-! ## Orders -/

@[simp] theorem core_leaveQueues (o : OrderId) (s : State) : (leaveQueues o s).core = s.core := by
  simp only [leaveQueues]
  simp

@[simp] theorem core_joinQueue (o : OrderId) (p : PrinterId) (s : State) : (joinQueue o p s).core = s.core := by
  simp only [joinQueue]
  simp

@[simp] theorem core_leaveHeld (o : OrderId) (s : State) : (leaveHeld o s).core = s.core := rfl

@[simp] theorem core_markHeldList (s : State) : (markHeldList s).core = s.core := by
  simp only [markHeldList]
  simp

@[simp] theorem core_toDraft (o : OrderId) (why : DraftReason) (s : State) : (toDraft o why s).core = s.core := by
  simp only [toDraft]
  simp

@[simp] theorem core_makePaid (o : OrderId) (p : PrinterId) (s : State) : (makePaid o p s).core = s.core := by
  simp only [makePaid]
  simp

@[simp] theorem core_enterHeld (o : OrderId) (s : State) : (enterHeld o s).core = s.core := by
  have left : (leaveHeld o (leaveQueues o s)).core = s.core := by simp
  simp only [enterHeld, core_evalLamps, core_markHeldList]
  exact left

@[simp] theorem core_placeHeld (o : OrderId) (p : PrinterId) (s : State) : (placeHeld o p s).core = s.core := by
  simp only [placeHeld]
  simp

@[simp] theorem core_makeCancelled (o : OrderId) (s : State) : (makeCancelled o s).core = s.core := by
  simp only [makeCancelled]
  simp

@[simp] theorem core_addSettlement (o : OrderId) (attempts : Nat) (s : State) : (addSettlement o attempts s).core = s.core := by
  simp only [addSettlement]
  simp

@[simp] theorem core_settlementTrigger (o : OrderId) (s : State) : (settlementTrigger o s).core = s.core := by
  simp only [settlementTrigger]
  (repeat' split) <;> simp

@[simp] theorem core_settlementCheck (o : OrderId) (s : State) : (settlementCheck o s).core = s.core := by
  simp only [settlementCheck]
  (repeat' split) <;> simp

@[simp] theorem core_closeOrder (o : OrderId) (how : SettleStatus) (s : State) : (closeOrder o how s).core = s.core := by
  simp only [closeOrder]
  (repeat' split) <;> simp

@[simp] theorem core_dropCopies (o : OrderId) (s : State) : (dropCopies o s).core = s.core := by
  simp only [dropCopies]
  simp

@[simp] theorem core_copyBegins (o : OrderId) (i : Nat) (s : State) : (copyBegins o i s).core = s.core := by
  simp only [copyBegins]
  simp

@[simp] theorem core_copyEnded (p : PrinterId) (c : Copy) (result : CopyResult) (s : State) : (copyEnded p c result s).core = s.core := by
  simp only [copyEnded]
  (repeat' split) <;> simp

@[simp] theorem core_retireOrder (o : OrderId) (s : State) : (retireOrder o s).core = s.core := by
  simp only [retireOrder]
  simp

@[simp] theorem core_createOrder (i : StationId) (k : SessionId) (o : OrderId) (s : State) : (createOrder i k o s).core = s.core := rfl

@[simp] theorem core_openOrderWork (i : StationId) (n : SlotId) (s : State) : (openOrderWork i n s).core = s.core := by
  simp only [openOrderWork]
  (repeat' split) <;> simp

@[simp] theorem core_applyEdit (o : OrderId) (f : Order → Order) (s : State) : (applyEdit o f s).core = s.core := by
  simp only [applyEdit]
  (repeat' split) <;> simp

@[simp] theorem core_placeQuoted (o : OrderId) (p : PrinterId) (s : State) : (placeQuoted o p s).core = s.core := rfl

@[simp] theorem core_priceOrder (o : OrderId) (prices : FixedPrices) (p : PrinterId) (s : State) : (priceOrder o prices p s).core = s.core := by
  simp only [priceOrder]
  simp

@[simp] theorem core_quoteWork (o : OrderId) (n : SlotId) (s : State) : (quoteWork o n s).core = s.core := by
  simp only [quoteWork]
  (repeat' split) <;> simp

@[simp] theorem core_retireOrderWork (o : OrderId) (n : SlotId) (s : State) : (retireOrderWork o n s).core = s.core := by
  simp only [retireOrderWork]
  (repeat' split) <;> simp

/-! ## Printers and their links -/

@[simp] theorem core_setPrinterState (p : PrinterId) (new : PrinterState) (s : State) : (setPrinterState p new s).core = s.core := by
  simp only [setPrinterState]
  (repeat' split) <;> simp

@[simp] theorem core_enterService (p : PrinterId) (s : State) : (enterService p s).core = s.core := by
  simp only [enterService]
  simp

@[simp] theorem core_abortCopy (p : PrinterId) (cause : CopyResult) (s : State) : (abortCopy p cause s).core = s.core := by
  simp only [abortCopy]
  (repeat' split) <;> simp

@[simp] theorem core_endCopy (p : PrinterId) (result : CopyResult) (consumed : Nat) (s : State) : (endCopy p result consumed s).core = s.core := by
  simp only [endCopy]
  (repeat' split) <;> simp

@[simp] theorem core_endCopyFull (p : PrinterId) (result : CopyResult) (s : State) : (endCopyFull p result s).core = s.core := by
  simp only [endCopyFull]
  simp

@[simp] theorem core_beginCopy (p : PrinterId) (o : OrderId) (i : Nat) (item : Item) (s : State) : (beginCopy p o i item s).core = s.core := by
  simp only [beginCopy]
  (repeat' split) <;> simp

@[simp] theorem core_beginCheck (p : PrinterId) (s : State) : (beginCheck p s).core = s.core := by
  simp only [beginCheck]
  (repeat' split) <;> simp

@[simp] theorem core_trySend (p : PrinterId) (s : State) : (trySend p s).core = s.core := by
  simp only [trySend]
  (repeat' split) <;> simp

@[simp] theorem core_newStripe (p : PrinterId) (n : Nat) (s : State) : (newStripe p n s).core = s.core := by
  simp only [newStripe]
  split
  · rfl
  split
  · rfl
  rw [core_forEach _ fun x u => core_present u x]
  simp

@[simp] theorem core_nextStripe (p : PrinterId) (n : Nat) (s : State) : (nextStripe p n s).core = s.core := by
  simp only [nextStripe]
  (repeat' split) <;> simp

@[simp] theorem core_stripeArrived (p : PrinterId) (copyId : W16) (n : Nat) (side : Target) (last : Bool) (data : List Byte) (s : State) :
    (stripeArrived p copyId n side last data s).core = s.core := by
  simp only [stripeArrived]
  (repeat' split) <;> simp

@[simp] theorem core_stripeFailed (p : PrinterId) (copyId : W16) (n : Nat) (side : Target) (s : State) :
    (stripeFailed p copyId n side s).core = s.core := by
  simp only [stripeFailed]
  (repeat' split) <;> simp

@[simp] theorem core_frameSent (p : PrinterId) (s : State) : (frameSent p s).core = s.core := by
  simp only [frameSent]
  (repeat' split) <;> simp

@[simp] theorem core_heard (p : PrinterId) (s : State) : (heard p s).core = s.core := by
  simp only [heard]
  simp

@[simp] theorem core_linkHeard (p : PrinterId) (s : State) : (linkHeard p s).core = s.core := by
  simp only [linkHeard]
  simp

@[simp] theorem core_countStray (p : PrinterId) (s : State) : (countStray p s).core = s.core := by
  simp only [countStray]
  simp

@[simp] theorem core_holdCopy (p : PrinterId) (s : State) : (holdCopy p s).core = s.core := by
  simp only [holdCopy]
  (repeat' split) <;> simp

@[simp] theorem core_resumeCopy (p : PrinterId) (s : State) : (resumeCopy p s).core = s.core := by
  simp only [resumeCopy]
  (repeat' split) <;> simp

@[simp] theorem core_copyDone (p : PrinterId) (id : W16) (result consumed : Byte) (s : State) : (copyDone p id result consumed s).core = s.core := by
  simp only [copyDone]
  (repeat' split) <;> simp

@[simp] theorem core_linkSilent (p : PrinterId) (s : State) : (linkSilent p s).core = s.core := by
  simp only [linkSilent]
  simp

@[simp] theorem core_linkLost (p : PrinterId) (s : State) : (linkLost p s).core = s.core := by
  simp only [linkLost]
  (repeat' split) <;> simp

@[simp] theorem core_beginUnanswered (p : PrinterId) (c : Copy) (w : BeginWait) (s : State) : (beginUnanswered p c w s).core = s.core := by
  simp only [beginUnanswered]
  (repeat' split) <;> simp

@[simp] theorem core_underrun (p : PrinterId) (n : Nat) (s : State) : (underrun p n s).core = s.core := by
  simp only [underrun]
  simp

@[simp] theorem core_graceExpires (p : PrinterId) (s : State) : (graceExpires p s).core = s.core := by
  simp only [graceExpires]
  simp

@[simp] theorem core_resetPrinter (p : PrinterId) (s : State) : (resetPrinter p s).core = s.core := by
  simp only [resetPrinter]
  simp

@[simp] theorem core_statusCompletion (p : PrinterId) (f : StatusFrame) (s : State) : (statusCompletion p f s).core = s.core := by
  simp only [statusCompletion]
  (repeat' split) <;> simp

@[simp] theorem core_faultCopy (p : PrinterId) (f : StatusFrame) (s : State) : (faultCopy p f s).core = s.core := by
  simp only [faultCopy]
  (repeat' split) <;> simp

@[simp] theorem core_statusState (inService : Bool) (p : PrinterId) (f : StatusFrame) (s : State) : (statusState inService p f s).core = s.core := by
  simp only [statusState]
  simp

@[simp] theorem core_statusArrived (p : PrinterId) (f : StatusFrame) (s : State) : (statusArrived p f s).core = s.core := by
  simp only [statusArrived]
  simp

/-! ## Stock and payments -/

@[simp] theorem core_releaseOrder (p : PrinterId) (o : OrderId) (s : State) : (releaseOrder p o s).core = s.core := by
  simp only [releaseOrder]
  (repeat' split) <;> simp

@[simp] theorem core_releaseStep (p : PrinterId) (o : OrderId) (s : State) : (releaseStep p o s).core = s.core := by
  simp only [releaseStep]
  (repeat' split) <;> simp

@[simp] theorem core_releaseCopy (p : PrinterId) (s : State) : (releaseCopy p s).core = s.core := by
  simp only [releaseCopy]
  (repeat' split) <;> simp

@[simp] theorem core_release (p : PrinterId) (s : State) : (release p s).core = s.core := by
  simp only [release, core_releaseCopy]
  exact core_forEach _ (core_releaseStep p) _ s

@[simp] theorem core_releaseBoth (s : State) : (releaseBoth s).core = s.core := by
  simp only [releaseBoth]
  simp

@[simp] theorem core_scanStep (o : OrderId) (s : State) : (scanStep o s).core = s.core := by
  simp only [scanStep]
  (repeat' split) <;> simp

@[simp] theorem core_scanHeld (s : State) : (scanHeld s).core = s.core := core_forEach _ core_scanStep _ s

@[simp] theorem core_countApproval (amount : Nat) (s : State) : (countApproval amount s).core = s.core := by
  simp only [countApproval]
  simp

@[simp] theorem core_countCapture (amount : Nat) (s : State) : (countCapture amount s).core = s.core := by
  simp only [countCapture]
  simp

@[simp] theorem core_countVoid (amount : Nat) (s : State) : (countVoid amount s).core = s.core := by
  simp only [countVoid]
  simp

@[simp] theorem core_countUncollected (h : Holder) (s : State) : (countUncollected h s).core = s.core := by
  simp only [countUncollected]
  simp

@[simp] theorem core_countAbandoned (amount : Nat) (s : State) : (countAbandoned amount s).core = s.core := by
  simp only [countAbandoned]
  simp

@[simp] theorem core_leaveVoidList (ref : W16) (s : State) : (leaveVoidList ref s).core = s.core := by
  simp only [leaveVoidList]
  simp

@[simp] theorem core_dropOldestVoid (s : State) : (dropOldestVoid s).core = s.core := by
  simp only [dropOldestVoid]
  (repeat' split) <;> simp

@[simp] theorem core_joinVoid (ref : W16) (amount attempts : Nat) (s : State) : (joinVoid ref amount attempts s).core = s.core := by
  simp only [joinVoid]
  (repeat' split) <;> simp

@[simp] theorem core_approveOrder (o : OrderId) (code : List Byte) (s : State) : (approveOrder o code s).core = s.core := by
  simp only [approveOrder]
  (repeat' split) <;> simp

@[simp] theorem core_failOrder (o : OrderId) (outcome : PayOutcome) (s : State) : (failOrder o outcome s).core = s.core := by
  simp only [failOrder]
  (repeat' split) <;> simp

@[simp] theorem core_endPay (n : SlotId) (o : OrderId) (outcome : PayOutcome) (approved : Option Nat) (code : Option (List Byte)) (reason : Option Byte) (s : State) :
    (endPay n o outcome approved code reason s).core = s.core := by
  simp only [endPay]
  (repeat' split) <;> simp

@[simp] theorem core_loseAuthorization (h : Holder) (n : SlotId) (o : OrderId) (s : State) : (loseAuthorization h n o s).core = s.core := by
  simp only [loseAuthorization]
  simp

@[simp] theorem core_abandonAuthorization (h : Holder) (n : SlotId) (o : OrderId) (s : State) : (abandonAuthorization h n o s).core = s.core := by
  simp only [abandonAuthorization]
  simp

@[simp] theorem core_endWaiting (s : State) : (endWaiting s).core = s.core := by
  simp only [endWaiting]
  rw [core_forEach _ fun (e : PayEntry) t => core_endPay e.slot e.order .aborted none none none t]
  simp

@[simp] theorem core_terminalStray (s : State) : (terminalStray s).core = s.core := by
  simp only [terminalStray]
  simp

@[simp] theorem core_terminalHeard (s : State) : (terminalHeard s).core = s.core := by
  simp only [terminalHeard]
  (repeat' split) <;> simp

@[simp] theorem core_countLate (ref : W16) (s : State) : (countLate ref s).core = s.core := by
  simp only [countLate]
  (repeat' split) <;> simp

@[simp] theorem core_payNothing (o : OrderId) (s : State) : (payNothing o s).core = s.core := by
  simp only [payNothing]
  (repeat' split) <;> simp

@[simp] theorem core_acceptPay (o : OrderId) (n : SlotId) (s : State) : (acceptPay o n s).core = s.core := by
  simp only [acceptPay]
  simp

@[simp] theorem core_shiftCloseWork (n : SlotId) (s : State) : (shiftCloseWork n s).core = s.core := by
  simp only [shiftCloseWork]
  simp

/-! ## Bays -/

@[simp] theorem core_syncRead (b : BayId) (s : State) : (syncRead b s).core = s.core := by
  simp only [syncRead]
  (repeat' split) <;> simp

@[simp] theorem core_recordRead (b : BayId) (n : SlotId) (st : Status) (s : State) : (recordRead b n st s).core = s.core := by
  simp only [recordRead]
  (repeat' split) <;> simp

@[simp] theorem core_activateNext (b : BayId) (s : State) : (activateNext b s).core = s.core := by
  simp only [activateNext]
  (repeat' split) <;> simp

@[simp] theorem core_queueMovesOn (b : BayId) (s : State) : (queueMovesOn b s).core = s.core := by
  simp only [queueMovesOn]
  (repeat' split) <;> simp

@[simp] theorem core_finishRead (b : BayId) (r : Read) (st : Status) (s : State) : (finishRead b r st s).core = s.core := by
  simp only [finishRead]
  simp

@[simp] theorem core_finishEnded (b : BayId) (s : State) : (finishEnded b s).core = s.core := by
  simp only [finishEnded]
  (repeat' split) <;> simp

@[simp] theorem core_startWait (b : BayId) (s : State) : (startWait b s).core = s.core := by
  simp only [startWait]
  simp

@[simp] theorem core_requestWrite (b : BayId) (s : State) : (requestWrite b s).core = s.core := by
  simp only [requestWrite]
  (repeat' split) <;> simp

@[simp] theorem core_restartClock (b : BayId) (s : State) : (restartClock b s).core = s.core := by
  simp only [restartClock]
  simp

@[simp] theorem core_restartRun (b : BayId) (s : State) : (restartRun b s).core = s.core := by
  simp only [restartRun]
  (repeat' split) <;> simp

@[simp] theorem core_bayAdvance (b : BayId) (s : State) : (bayAdvance b s).core = s.core := by
  simp only [bayAdvance]
  (repeat' split) <;> simp

@[simp] theorem core_windDown (b : BayId) (cause : EndCause) (s : State) : (windDown b cause s).core = s.core := by
  simp only [windDown]
  (repeat' split) <;> simp

@[simp] theorem core_endAtBoundary (b : BayId) (cause : EndCause) (s : State) : (endAtBoundary b cause s).core = s.core := by
  simp only [endAtBoundary]
  (repeat' split) <;> simp

@[simp] theorem core_endAtOnce (b : BayId) (cause : EndCause) (s : State) : (endAtOnce b cause s).core = s.core := by
  simp only [endAtOnce]
  (repeat' split) <;> simp

@[simp] theorem core_endWaitingRead (b : BayId) (cause : EndCause) (r : Read) (s : State) : (endWaitingRead b cause r s).core = s.core := by
  simp only [endWaitingRead]
  simp

@[simp] theorem core_endWaitingReads (b : BayId) (cause : EndCause) (s : State) :
    (endWaitingReads b cause s).core = s.core := core_forEach _ (fun r => core_endWaitingRead b cause r) _ s

@[simp] theorem core_closeReads (b : BayId) (s : State) : (closeReads b s).core = s.core := by
  simp only [closeReads]
  simp

@[simp] theorem core_acceptBlock (b : BayId) (r : Read) (data : List Byte) (s : State) : (acceptBlock b r data s).core = s.core := by
  simp only [acceptBlock]
  (repeat' split) <;> simp

@[simp] theorem core_countRetry (b : BayId) (s : State) : (countRetry b s).core = s.core := by
  simp only [countRetry]
  simp

@[simp] theorem core_blockFailed (b : BayId) (r : Read) (s : State) : (blockFailed b r s).core = s.core := by
  simp only [blockFailed]
  (repeat' split) <;> simp

@[simp] theorem core_blockEnd (b : BayId) (r : Read) (good : Option (List Byte)) (s : State) : (blockEnd b r good s).core = s.core := by
  simp only [blockEnd]
  (repeat' split) <;> simp

@[simp] theorem core_halfWritten (b : BayId) (h : Fin 2) (blocks : Nat) (s : State) : (halfWritten b h blocks s).core = s.core := by
  simp only [halfWritten]
  (repeat' split) <;> simp

@[simp] theorem core_halfFailed (b : BayId) (h : Fin 2) (s : State) : (halfFailed b h s).core = s.core := by
  simp only [halfFailed]
  simp

@[simp] theorem core_giveBackBuffer (b : BayId) (r : Read) (s : State) : (giveBackBuffer b r s).core = s.core := by
  simp only [giveBackBuffer]
  simp

@[simp] theorem core_startSettling (b : BayId) (s : State) : (startSettling b s).core = s.core := by
  simp only [startSettling]
  simp

@[simp] theorem core_removeCard (b : BayId) (s : State) : (removeCard b s).core = s.core := by
  simp only [removeCard]
  (repeat' split) <;> simp

@[simp] theorem core_sendIdentify (b : BayId) (s : State) : (sendIdentify b s).core = s.core := by
  simp only [sendIdentify]
  simp

@[simp] theorem core_identifyFailed (b : BayId) (s : State) : (identifyFailed b s).core = s.core := by
  simp only [identifyFailed]
  (repeat' split) <;> simp

@[simp] theorem core_cancelRead (n : SlotId) (b : BayId) (s : State) : (cancelRead n b s).core = s.core := by
  simp only [cancelRead]
  (repeat' split) <;> simp

@[simp] theorem core_acceptRead (i : StationId) (r : Read) (s : State) : (acceptRead i r s).core = s.core := by
  simp only [acceptRead]
  (repeat' split) <;> simp

@[simp] theorem core_readCardWork (i : StationId) (n : SlotId) (s : State) : (readCardWork i n s).core = s.core := by
  simp only [readCardWork]
  (repeat' split) <;> simp

@[simp] theorem core_readCardTaken (n : SlotId) (s : State) : (readCardTaken n s).core = s.core := by
  simp only [readCardTaken, withStation]
  (repeat' split) <;> simp

@[simp] theorem core_closeContact (b : BayId) (s : State) : (closeContact b s).core = s.core := by
  simp only [closeContact]
  (repeat' split) <;> simp

@[simp] theorem core_acceptArrival (b : BayId) (s : State) : (acceptArrival b s).core = s.core := by
  simp only [acceptArrival]
  simp

@[simp] theorem core_identityAnswer (b : BayId) (capacity serial : W32) (check : W16) (s : State) :
    (identityAnswer b capacity serial check s).core = s.core := by
  simp only [identityAnswer]
  (repeat' split) <;> simp

@[simp] theorem core_waitTooLong (b : BayId) (s : State) : (waitTooLong b s).core = s.core := by
  simp only [waitTooLong]
  (repeat' split) <;> simp

@[simp] theorem core_stallRead (b : BayId) (s : State) : (stallRead b s).core = s.core := by
  simp only [stallRead]
  simp

@[simp] theorem core_resetBay (b : BayId) (s : State) : (resetBay b s).core = s.core := by
  simp only [resetBay]
  (repeat' split) <;> simp

@[simp] theorem core_readContact (b : BayId) (s : State) : (readContact b s).core = s.core := by
  simp only [readContact]
  (repeat' split) <;> simp

@[simp] theorem core_cancelForClose (o : OrderId) (s : State) : (cancelForClose o s).core = s.core := by
  simp only [cancelForClose]
  (repeat' split) <;> simp

@[simp] theorem core_closeSession (i : StationId) (k : SessionId) (cause : CloseCause) (s : State) : (closeSession i k cause s).core = s.core := by
  have cancelled : ∀ (l : List OrderId) (t : State), (forEach l cancelForClose t).core = t.core := core_forEach _ core_cancelForClose
  simp only [closeSession]
  simp [cancelled]

/-! ## Loads and transfers -/

@[simp] theorem core_endLoad (l : Load) (outcome : LoadOutcome) (st : Status) (failure : Option (Nat × Violation)) (body : Body) (s : State) :
    (endLoad l outcome st failure body s).core = s.core := by
  simp only [endLoad]
  simp

@[simp] theorem core_faultLoad (l : Load) (s : State) : (faultLoad l s).core = s.core := by
  simp only [faultLoad]
  simp

@[simp] theorem core_installTable (t : PriceTable) (s : State) : (installTable t s).core = s.core := by
  simp only [installTable]
  simp

@[simp] theorem core_judgeImage (l : Load) (image : List Byte) (s : State) : (judgeImage l image s).core = s.core := by
  simp only [judgeImage]
  (repeat' split) <;> simp

@[simp] theorem core_imageArrived (image : List Byte) (s : State) : (imageArrived image s).core = s.core := by
  simp only [imageArrived]
  (repeat' split) <;> simp

@[simp] theorem core_imageFailed (s : State) : (imageFailed s).core = s.core := by
  simp only [imageFailed]
  (repeat' split) <;> simp

@[simp] theorem core_cancelLoad (l : Load) (s : State) : (cancelLoad l s).core = s.core := by
  simp only [cancelLoad]
  (repeat' split) <;> simp

@[simp] theorem core_cancelPriceLoad (n : SlotId) (s : State) : (cancelPriceLoad n s).core = s.core := by
  simp only [cancelPriceLoad]
  (repeat' split) <;> simp

@[simp] theorem core_acceptLoad (n : SlotId) (tag : W32) (address : Nat) (a : ApertureId) (s : State) :
    (acceptLoad n tag address a s).core = s.core := by
  simp only [acceptLoad]
  simp

@[simp] theorem core_setTimersWork (n : SlotId) (s : State) : (setTimersWork n s).core = s.core := (core_complete _ _ _ _ _).trans rfl

@[simp] theorem core_grantNote (t : Transfer) (s : State) : (grantNote t s).core = s.core := by
  simp only [grantNote]
  (repeat' split) <;> simp

@[simp] theorem core_sendTransfer (t : Transfer) (s : State) : (sendTransfer t s).core = s.core := by
  simp only [sendTransfer]
  (repeat' split) <;> simp

@[simp] theorem core_tellOne (t : Transfer) (o : TransferOutcome) (s : State) : (tellOne t o s).core = s.core := by
  simp only [tellOne]
  (repeat' split) <;> simp

@[simp] theorem core_abortMarked (p : PrinterId) (o : OrderId) (marked : List Nat) (s : State) : (abortMarked p o marked s).core = s.core := by
  simp only [abortMarked]
  (repeat' split) <;> simp

@[simp] theorem core_dropNote (o : OrderId) (marked : List Nat) (s : State) : (dropNote o marked s).core = s.core := by
  simp only [dropNote]
  simp

@[simp] theorem core_markEffect (x : OrderId × List Nat) (s : State) : (markEffect x s).core = s.core := by
  simp only [markEffect]
  (repeat' split) <;> simp

@[simp] theorem core_killRasters (a : ApertureId) (s : State) : (killRasters a s).core = s.core := (core_forEach _ core_markEffect _ _).trans rfl

@[simp] theorem core_killReads (a : ApertureId) (b : BayId) (s : State) : (killReads a b s).core = s.core := by
  have waiting : ∀ l : List Read, (forEach l (fun r u => endWaitingRead b .transferFault { r with faultedAperture := some a } u) s).core = s.core :=
    fun l => core_forEach _ (fun r => core_endWaitingRead b .transferFault _) l s
  simp only [killReads]
  (repeat' split) <;> simp [waiting]

@[simp] theorem core_killLoad (a : ApertureId) (s : State) : (killLoad a s).core = s.core := by
  simp only [killLoad]
  (repeat' split) <;> simp

@[simp] theorem core_withdrawUnder (a : ApertureId) (s : State) : (withdrawUnder a s).core = s.core := rfl

@[simp] theorem core_killAll (a : ApertureId) (s : State) :
    (killAll a s).core = s.core := (core_killLoad _ _).trans ((core_forEach _ (core_killReads a) _ _).trans (core_killRasters a s))



/-- R37: the effect of CANCEL_ORDER leaves the core alone. -/
theorem core_of_cancelOrder {o : OrderId} {s t : State} (h : cancelOrder o s = some t) : t.core = s.core := by
  unfold cancelOrder at h
  split at h <;> cases h <;> simp

theorem core_goodFrame (p : PrinterId) (f : State → State) (h : ∀ t, (f t).core = t.core) (s : State) : (goodFrame p f s).core = s.core := by
  simp only [goodFrame]
  split <;> simp [h]

@[simp] theorem core_misuse (s : State) : (misuse s).core = s.core := rfl

/-! ## Laws of the core -/

/-- A law of the core that the arbiters, the ends of holdings and transfers, the link of the terminal and a part reset keep. -/
structure CoreLaw (P : State → Prop) : Prop where
  core : ∀ {s t}, t.core = s.core → P s → P t
  arbiter : ∀ s, P s → P (arbiter s)
  grant : ∀ s, P s → P (grantOne s)
  ended : ∀ index o s, P s → P (endTransfer index o s)
  reset : ∀ s up msi, P s → P { partResetState s with pcieUp := up, msiEnable := msi }
  ready : ∀ s, P s → P (readyArrived s)
  cardWait : ∀ ref s, P s → P (exchangeFrame ref cardWaited s)
  approved : ∀ ref amount code s, P s → P (exchangeFrame ref (approvedAnswer amount code) s)
  outcome : ∀ ref outcome reason s, P s → P (exchangeFrame ref (outcomeAnswer outcome reason) s)
  captured : ∀ ref amount s, P s → P (capturedArrived ref amount s)
  voided : ∀ ref s, P s → P (exchangeFrame ref voidedAnswer s)
  refused : ∀ ref reason s, P s → P (exchangeFrame ref (refusedAnswer reason) s)
  cancelPay : ∀ n s, P s → P (cancelPay n s)
  linkLoss : ∀ new s, new = .absent ∨ new = .offline → P s → P (linkLoss new s)
  cardWaitLimit : ∀ h s, P s → P (cardWaitExpires h s)
  authorizationLimit : ∀ h s, s.terminal.holder = some h → P s → P (authorizationExpires h s)
  abortLimit : ∀ h s, P s → P (abortUnanswered h s)
  answerLimit : ∀ h s, P s → P (answerLate h s)

namespace CoreLaw
variable {P : State → Prop} (L : CoreLaw P)
include L

theorem settle (b s : State) (hs : P s) : P (settle b s) := by
  have released : P (releaseBoth (noteChanges b s)) := L.core (by simp) hs
  have scanned : P (if roomGrew b (releaseBoth (noteChanges b s)) then scanHeld (releaseBoth (noteChanges b s)) else releaseBoth (noteChanges b s)) := by
    split
    · exact L.core (core_scanHeld _) released
    · exact released
  have checked := L.arbiter _ (L.core (core_beginCheck 1 _) (L.core (core_beginCheck 0 _) scanned))
  exact L.core (core_evalAllLamps _) (L.grant _ (L.grant _ (L.grant _ (L.grant _ checked))))

theorem eventKeeps : EventKeeps P where
  quiet _ := L.core rfl
  close b s := L.core (core_closeEvent b s)
  write s := L.core (core_interruptAfterWrite s)
  settle := L.settle
  take n rest s := L.core (core_takeSlot n rest s)
  complete n st why body s := L.core (core_complete n st why body s)
  restart k s := L.core (core_restartSession k s)

/-- A part of an event that leaves the core alone, followed by the settling. -/
theorem settled {s u : State} (b : State) (hs : P s) (h : u.core = s.core) : P (Machine.settle b u) := L.settle b u (L.core h hs)

/-! ### The work of the takings -/

theorem closeSessionWork (i : StationId) (n : SlotId) (s : State) (hs : P s) : P (closeSessionWork i n s) := by
  unfold Machine.closeSessionWork
  split
  · exact L.core (by simp) hs
  split
  · exact L.core (by simp) hs
  · exact L.settled s hs (by simp)

theorem addItemWork (o : OrderId) (n : SlotId) (s : State) (hs : P s) : P (addItemWork o n s) := by
  simp only [Machine.addItemWork]
  (repeat' split) <;> first | exact L.core (by simp) hs | exact L.settled s hs (by simp)

theorem changeItemWork (o : OrderId) (n : SlotId) (s : State) (hs : P s) : P (changeItemWork o n s) := by
  simp only [Machine.changeItemWork]
  (repeat' split) <;> first | exact L.core (by simp) hs | exact L.settled s hs (by simp)

theorem removeItemWork (o : OrderId) (n : SlotId) (s : State) (hs : P s) : P (removeItemWork o n s) := by
  simp only [Machine.removeItemWork]
  (repeat' split) <;> first | exact L.core (by simp) hs | exact L.settled s hs (by simp)

theorem setPromoWork (o : OrderId) (n : SlotId) (s : State) (hs : P s) : P (setPromoWork o n s) := by
  simp only [Machine.setPromoWork]
  (repeat' split) <;> first | exact L.core (by simp) hs | exact L.settled s hs (by simp)

theorem payWork (o : OrderId) (n : SlotId) (s : State) (hs : P s) : P (payWork o n s) := by
  simp only [Machine.payWork]
  (repeat' split) <;> first | exact L.core (by simp) hs | exact L.settled s hs (by simp)

theorem cancelOrderWork (o : OrderId) (n : SlotId) (s : State) (hs : P s) : P (cancelOrderWork o n s) := by
  unfold Machine.cancelOrderWork
  split
  · exact L.core (by simp) hs
  case h_2 t done => exact L.core (core_complete _ _ _ _ _) (L.settled s hs (core_of_cancelOrder done))

theorem loadPricesWork (n : SlotId) (s : State) (hs : P s) : P (loadPricesWork n s) := by
  simp only [Machine.loadPricesWork]
  (repeat' split) <;> first | exact L.core (by simp) hs | exact L.settled s hs (by simp)

theorem resetUnitWork (n : SlotId) (s : State) (hs : P s) : P (resetUnitWork n s) := by
  have terminal : ∀ u, P u → P (resetTerminal u) := fun u hu => L.core (core_onTerminal _ _ rfl rfl) (L.linkLoss .absent u (.inl rfl) hu)
  simp only [Machine.resetUnitWork]
  split
  · split
    · exact L.settled s hs (by simp)
    · exact L.core (core_refuseSlot _ _ _) hs
  split
  · split
    · exact L.settled s hs (by simp)
    · exact L.core (core_refuseSlot _ _ _) hs
  split
  · exact L.settle _ _ (L.core (core_complete _ _ _ _ _) (terminal s hs))
  · exact L.core (core_refuseSlot _ _ _) hs

theorem printerServiceWork (n : SlotId) (s : State) (hs : P s) : P (printerServiceWork n s) := by
  simp only [Machine.printerServiceWork, enterWork, leaveWork]
  (repeat' split) <;> first | exact L.core (by simp) hs | exact L.settled s hs (by simp)

/-! ### The host's strip writes -/

theorem cancelSlot (n : SlotId) (s : State) (hs : P s) : P (cancelSlot n s) := by
  have owners : ∀ u, P u → P (cancelTaken n u) := fun u hu =>
    L.core (core_cancelPriceLoad n _) (L.core (core_forEach _ (core_cancelRead n) _ _) (L.cancelPay n u hu))
  simp only [Machine.cancelSlot, cancelPosted]
  split
  · exact L.core (s := s) ((core_refuseSlot _ _ _).trans rfl) hs
  · exact L.settle _ _ (owners s hs)
  · exact hs
  · exact hs

theorem giveBackSlot (n : SlotId) (s : State) (hs : P s) : P (giveBackSlot n s) := by
  unfold Machine.giveBackSlot
  split
  · split
    · exact L.settled s hs (core_giveBackBuffer _ _ s)
    · exact L.core (core_misuse s) hs
  · exact L.core (core_misuse s) hs

/-! ### Every command -/

/-- An event of a block whose effect leaves the core alone. -/
theorem event {f : State → State} {s t : State} (hs : P s) (h : Machine.event f s = .next t) (same : ∀ u, (f u).core = u.core) : P t :=
  L.eventKeeps.event hs h fun u hu => L.core (same u) hu

/-- An event of a block that acts under a condition, and then settles. -/
theorem expiry {c : State → Prop} [∀ u, Decidable (c u)] {f : State → State} {s t : State} (hs : P s)
    (h : Machine.event (fun u => if c u then Machine.settle u (f u) else u) s = .next t) (same : ∀ u, (f u).core = u.core) : P t :=
  L.eventKeeps.event hs h fun u hu => by
    split
    · exact L.settled u hu (same u)
    · exact hu

/-- A limit of the exchange in progress. -/
theorem limit {c : Holder → Bool} {f : Holder → State → State} {s t : State} (hs : P s)
    (h : Machine.event (fun u => match u.terminal.holder with | some x => if c x then Machine.settle u (f x u) else u | none => u) s = .next t)
    (keeps : ∀ x u, u.terminal.holder = some x → P u → P (f x u)) : P t :=
  L.eventKeeps.event hs h fun u hu => by
    split
    case h_1 x held =>
      split
      · exact L.settle _ _ (keeps x u held hu)
      · exact hu
    case h_2 => exact hu

theorem settling {f : State → State} {s t : State} (hs : P s) (h : Machine.settlingEvent f s = .next t) (same : ∀ u, (f u).core = u.core) :
    P t :=
  L.eventKeeps.settlingEvent hs h fun u hu => L.core (same u) hu

/-- A taking whose work leaves the core alone. -/
theorem taking {k : Kind} {work : SlotId → State → State} {s t : State} (hs : P s) (h : Machine.event (Machine.taking k work) s = .next t)
    (same : ∀ n u, (work n u).core = u.core) : P t :=
  L.eventKeeps.taking hs h fun n u hu => L.core (same n u) hu

end CoreLaw

end Sys2Proof.Machine
end

section
/-! SUPPORT. A law of the core, over every command. -/

namespace Sys2Proof.Machine

@[simp] theorem core_writeRequest (n : SlotId) (offset : Nat) (data : List Byte) (s : State) : (writeRequest n offset data s).core = s.core := by
  unfold writeRequest
  split <;> rfl

@[simp] theorem core_postSlot (n : SlotId) (s : State) : (postSlot n s).core = s.core := by
  unfold postSlot
  split <;> rfl

@[simp] theorem core_releaseSlot (n : SlotId) (s : State) : (releaseSlot n s).core = s.core := by
  unfold releaseSlot
  split <;> rfl

@[simp] theorem core_takeUnknown (s : State) : (takeUnknown s).core = s.core := by
  unfold takeUnknown
  (repeat' split) <;> simp

@[simp] theorem core_ackUnits (v : W32) (s : State) : (ackUnits v s).core = s.core := by
  have acked : ∀ n (u : State), (if v.getLsbD n.val then ackUnit n u else u).core = u.core := fun n u => by
    unfold ackUnit
    (repeat' split) <;> rfl
  exact (core_forEach _ acked _ s : (forEach _ _ s).core = s.core)

/-- R126, R182: the bays read their contacts, and the lamps are evaluated. -/
theorem core_enterRun {s t : State} (h : execEnterRun s = .next t) : t.core = s.core := by
  unfold execEnterRun at h
  injection h with h
  subst h
  split
  · rw [core_closeEvent, core_evalAllLamps, core_forEach _ core_readContact]
    rfl
  · rfl

namespace CoreLaw
variable {P : State → Prop} (L : CoreLaw P)
include L

theorem transferReported (index : Nat) (report : TransferReport) (s : State) (hs : P s) : P (transferReported index report s) := by
  unfold Machine.transferReported
  split
  · exact hs
  split
  · exact hs
  split
  · exact hs
  · exact L.settle _ _ (L.ended _ _ s hs)

theorem transferLate (index : Nat) (s : State) (hs : P s) : P (transferLate index s) := by
  unfold Machine.transferLate
  split
  · exact hs
  split
  · exact hs
  · exact L.settle _ _ (L.ended _ _ s hs)

theorem openContact (b : BayId) (s : State) (hs : P s) : P (openContact b s) := by
  unfold Machine.openContact
  split
  · exact hs
  · exact L.core (core_onBay s b _) hs
  all_goals exact L.settled s hs (core_removeCard b s)

theorem endBlock (b : BayId) (good : Option (List Byte)) (s : State) (hs : P s) : P (endBlock b good s) := by
  unfold Machine.endBlock
  split
  · split
    · exact L.settled s hs (core_blockEnd b _ good s)
    · exact hs
  · exact hs

end CoreLaw

/-- Every command keeps a law of the core that the power-on state and, with SET_APERTURE, the rewriting of an entry keep. -/
theorem CoreLaw.exec {P : State → Prop} (L : CoreLaw P) {c : Instr} {s t : State} (hs : P s) (h : exec c s = .next t)
    (power : c = .powerOn ∨ c = .resetNHigh → P t) (aperture : c = .setAperture → P t) : P t := by
  have K := L.eventKeeps
  cases c <;> simp only [Machine.exec] at h
  case powerOn => exact power (.inl rfl)
  case resetNHigh => exact power (.inr rfl)
  case setAperture => exact aperture rfl
  case partReset =>
    injection h with h
    subst h
    split
    · exact L.reset s s.pcieUp s.msiEnable hs
    · exact K.quiet s hs
  case linkDown =>
    injection h with h
    subst h
    split
    · exact L.reset s false false hs
    · exact K.quiet s hs
  case hotReset =>
    injection h with h
    subst h
    split
    · exact L.reset s true false hs
    · exact K.quiet s hs
  case enterRun => exact L.core (core_enterRun h) hs
  case clockTick => injection h with h; subst h; exact L.core (by split <;> rfl) hs
  case msiEnable => injection h with h; subst h; exact L.core (by split <;> rfl) hs
  case pcieLinkUp => injection h with h; subst h; exact L.core (by split <;> rfl) hs
  case windowWriteDiscarded => injection h with h; subst h; exact K.quiet s hs
  case slotRequestWrite n offset data => exact K.hostEvent hs h fun u => L.core (core_writeRequest n offset data u)
  case attn v => exact K.controlWrite hs h fun u => L.core rfl
  case attnEnable v => exact K.controlWrite hs h fun u => L.core rfl
  case unitChanged v => exact K.controlWrite hs h fun u => L.core (core_ackUnits v u)
  case orderChanged v => exact K.controlWrite hs h fun u => L.core rfl
  case post n => exact K.hostEvent hs h fun u => L.core (core_postSlot n u)
  case cancel n => exact K.hostEvent hs h (L.cancelSlot n)
  case release n => exact K.hostEvent hs h fun u => L.core (core_releaseSlot n u)
  case giveBack n => exact K.hostEvent hs h (L.giveBackSlot n)
  case stripWriteRefused => exact K.hostEvent hs h fun u => L.core (core_misuse u)
  case unknownKind => exact L.event hs h core_takeUnknown
  case openSession => exact K.taking hs h (K.withStation fun i n u => L.core (core_openSessionWork i n u))
  case closeSession => exact K.taking hs h (K.withStation L.closeSessionWork)
  case openOrder => exact K.taking hs h (K.withStation fun i n u => L.core (core_openOrderWork i n u))
  case addItem => exact K.taking hs h (K.withOrder L.addItemWork)
  case changeItem => exact K.taking hs h (K.withOrder L.changeItemWork)
  case removeItem => exact K.taking hs h (K.withOrder L.removeItemWork)
  case setPromo => exact K.taking hs h (K.withOrder L.setPromoWork)
  case quote => exact K.taking hs h (K.withOrder fun o n u => L.core (core_quoteWork o n u))
  case pay => exact K.taking hs h (K.withOrder L.payWork)
  case cancelOrder => exact K.taking hs h (K.withOrder L.cancelOrderWork)
  case retireOrder => exact K.taking hs h (K.withOrder fun o n u => L.core (core_retireOrderWork o n u))
  case readCard => exact L.taking hs h core_readCardTaken
  case loadPrices => exact K.taking hs h L.loadPricesWork
  case setTimers => exact L.taking hs h core_setTimersWork
  case shiftClose => exact L.taking hs h core_shiftCloseWork
  case resetUnit => exact K.taking hs h L.resetUnitWork
  case printerService => exact K.taking hs h L.printerServiceWork
  case idleExpiry k => exact L.expiry hs h fun u => by simp
  case paymentNoticeExpiry i => exact L.event hs h fun u => by split <;> simp
  case minimumOnTimeExpiry i => exact L.event hs h fun u => by split <;> simp
  case blinkToggle i => exact L.event hs h fun u => by split <;> simp
  case quoteHoldExpiry o =>
    refine K.event hs h fun u hu => ?_
    split
    · exact L.settled u hu (core_toDraft o .expired u)
    · exact hu
  case faultGraceExpiry p => exact L.expiry hs h (core_graceExpires p)
  case status p f => exact L.settling hs h (core_statusArrived p f)
  case nextStripe p n => exact L.settling hs h (core_goodFrame p _ (core_nextStripe p n.toNat))
  case hold p => exact L.event hs h (core_goodFrame p _ (core_holdCopy p))
  case resume p => exact L.event hs h (core_goodFrame p _ (core_resumeCopy p))
  case copyDone p id result consumed => exact L.settling hs h (core_goodFrame p _ (core_copyDone p id result consumed))
  case printerFrameDiscarded p _ => exact L.event hs h fun u => core_onPrinter u p _
  case printerLinkWatchExpiry p => exact L.expiry hs h (core_linkLost p)
  case beginAnswerLimitExpiry p =>
    refine K.event hs h fun u hu => ?_
    split
    · split
      · exact L.settled u hu (core_beginUnanswered p _ _ u)
      · exact hu
    · exact hu
  case abortAnswerLimitExpiry p =>
    refine K.event hs h fun u hu => ?_
    split
    · split
      · exact L.settled u hu (core_endCopyFull p .aborted u)
      · exact hu
    · exact hu
  case underrunTimerExpiry p n => exact L.expiry hs h (core_underrun p n)
  case stripeSent p => exact L.event hs h (core_frameSent p)
  case transferEnd index report =>
    exact K.event hs h (L.transferReported index report)
  case transferNoCompletion index =>
    exact K.event hs h (L.transferLate index)
  case contactClose b =>
    have pin : P { s with contactPins := upd s.contactPins b fun _ => true } := L.core (s := s) rfl hs
    exact L.event pin h (core_closeContact b)
  case settleTimerExpiry b => exact L.event hs h fun u => by split <;> simp
  case contactOpen b =>
    have pin : P { s with contactPins := upd s.contactPins b fun _ => false } := L.core (s := s) rfl hs
    exact K.event pin h (L.openContact b)
  case identifyAnswer b capacity serial check => exact L.event hs h fun u => by split <;> simp
  case identifyLimitExpiry b => exact L.event hs h fun u => by split <;> simp
  case blockArrival b data check =>
    exact K.event hs h (L.endBlock b (goodBlock data check))
  case blockLimitExpiry b =>
    refine K.event hs h fun u hu => ?_
    split
    · exact L.endBlock b none u hu
    · exact hu
  case giveBackWaitExpiry b => exact L.expiry hs h (core_waitTooLong b)
  case stallLimitExpiry b => exact L.expiry hs h (core_stallRead b)
  case ready => exact K.settlingEvent hs h L.ready
  case cardWait ref => exact K.event hs h (L.cardWait ref)
  case approved ref amount code => exact K.settlingEvent hs h (L.approved ref amount.toNat code)
  case declined ref reason => exact K.settlingEvent hs h (L.outcome ref _ _)
  case timedOut ref => exact K.settlingEvent hs h (L.outcome ref _ _)
  case aborted ref => exact K.settlingEvent hs h (L.outcome ref _ _)
  case captured ref amount => exact K.settlingEvent hs h (L.captured ref amount.toNat)
  case voided ref => exact K.settlingEvent hs h (L.voided ref)
  case refused ref reason => exact K.settlingEvent hs h (L.refused ref _)
  case terminalFrameDiscarded => exact L.event hs h fun u => core_onTerminal u _ rfl rfl
  case terminalLinkWatchExpiry =>
    refine K.event hs h fun u hu => ?_
    split
    · exact L.settle _ _ (L.core (core_onTerminal _ _ rfl rfl) (L.linkLoss .offline u (.inr rfl) hu))
    · exact hu
  case cardWaitLimitExpiry => exact L.limit hs h fun x u _ => L.cardWaitLimit x u
  case authorizationLimitExpiry => exact L.limit hs h fun x u => L.authorizationLimit x u
  case terminalAbortAnswerExpiry => exact L.limit hs h fun x u _ => L.abortLimit x u
  case answerLimitExpiry => exact L.limit hs h fun x u _ => L.answerLimit x u

end Sys2Proof.Machine
end

section
/-! SUPPORT. The three laws of the core: who holds the terminal (R130), the transfers granted (R156, R157), and the faults of the apertures
(R153, R158); and what a step does to the queue and to the timer settings. -/

namespace Sys2Proof.Machine

/-! ## The holder of the terminal -/

/-- R129: what holds where a frame finds it, whether or not it answers the exchange in progress. -/
theorem exchangeFrame_keeps {P : State → Prop} {ref : W16} {answer : Holder → State → Option State} {s : State} (hs : P s)
    (heard : ∀ u, P u → P (terminalHeard u)) (stray : ∀ u, P u → P (terminalStray u))
    (answered : ∀ x u v, P u → holderOf u ref = some x → answer x u = some v → P v) : P (exchangeFrame ref answer s) := by
  simp only [exchangeFrame]
  split
  case h_1 x held =>
    cases e : answer x (terminalHeard s) with
    | none => exact stray _ (heard s hs)
    | some v => exact answered x _ v (heard s hs) held e
  case h_2 => exact stray _ (heard s hs)

theorem holding_of_core {s t : State} (h : t.core = s.core) (k : HoldingLaw s) : HoldingLaw t := holding_of (holds_of_core h) k

/-- A frame of an exchange keeps the law of the holder if every answer to the exchange in progress does. -/
theorem holding_exchangeFrame {ref : W16} {answer : Holder → State → Option State} {s : State} (hs : HoldingLaw s)
    (answered : ∀ x u v, HoldingLaw u → u.terminal.holder.isSome = true → answer x u = some v → HoldingLaw v) :
    HoldingLaw (exchangeFrame ref answer s) := by
  refine exchangeFrame_keeps hs (fun u => holding_of_core (core_terminalHeard u)) (fun u => holding_of_core (core_terminalStray u)) ?_
  intro x u v hu held
  refine answered x u v hu ?_
  unfold holderOf at held
  split at held
  case h_1 e => simp [e]
  case h_2 => cases held

theorem holding_cardWaited (x : Holder) (s t : State) (law : HoldingLaw s) (held : s.terminal.holder.isSome = true)
    (h : cardWaited x s = some t) : HoldingLaw t := by
  unfold cardWaited at h
  split at h <;> cases h
  exact holding_newHolder { x with cardSeen := true, cardWaitLimit := none } law held rfl rfl

theorem holding_approvedAnswer (amount : Nat) (code : List Byte) (x : Holder) (s t : State) (h : approvedAnswer amount code x s = some t) :
    HoldingLaw t := by
  unfold approvedAnswer at h
  split at h
  · split at h <;> cases h
    · exact holding_endHolding _
    · exact holding_startFollowUp _ _ _
  · cases h
    exact holding_startFollowUp _ _ _
  · cases h

theorem holding_outcomeAnswer (outcome : Holder → PayOutcome) (reason : Holder → Option Byte) (x : Holder) (s t : State)
    (h : outcomeAnswer outcome reason x s = some t) : HoldingLaw t := by
  unfold outcomeAnswer at h
  split at h <;> cases h <;> exact holding_endHolding _

theorem holding_capturedAnswer (amount : Nat) (x : Holder) (s t : State) (h : capturedAnswer amount x s = some t) : HoldingLaw t := by
  unfold capturedAnswer at h
  split at h
  · split at h <;> cases h
    exact holding_of_core (core_countCapture _ _) (holding_endSettlement _ _ s)
  · cases h

theorem holding_voidedAnswer (x : Holder) (s t : State) (h : voidedAnswer x s = some t) : HoldingLaw t := by
  unfold voidedAnswer at h
  split at h
  · split at h <;> cases h
    exact holding_of_core (core_countVoid _ _) (holding_endSettlement _ _ s)
  · cases h
    exact holding_of_core (core_countVoid _ _) (holding_endHolding s)
  · cases h
    exact holding_of_core (core_countVoid _ _) (holding_endHolding _)
  · cases h

theorem holding_refusedAnswer (reason : Byte) (x : Holder) (s t : State) (h : refusedAnswer reason x s = some t) : HoldingLaw t := by
  unfold refusedAnswer at h
  split at h
  · exact holding_outcomeAnswer _ _ x s t h
  · cases h
    split
    · exact holding_of_core (core_countUncollected _ _) (holding_endSettlement _ _ s)
    · exact holding_endSettlement _ _ s
  · cases h
  · cases h
    exact holding_endHolding s
  · cases h
    split
    · exact holding_voidAttemptFailed x s
    · exact holding_endHolding _

theorem holding_capturedArrived (ref : W16) (amount : Nat) (s : State) (law : HoldingLaw s) : HoldingLaw (capturedArrived ref amount s) := by
  simp only [capturedArrived]
  split
  case h_1 u answered =>
    obtain ⟨x, -, h⟩ := Option.bind_eq_some_iff.1 answered
    exact holding_capturedAnswer amount x _ u h
  case h_2 => exact holding_of_core (by simp) law

theorem holding_readyMeetsHolder (x : Holder) (s : State) (law : HoldingLaw s) : HoldingLaw (readyMeetsHolder x s) := by
  unfold readyMeetsHolder
  split
  · split
    · exact holding_endHolding _
    · exact law
  · exact holding_endHolding _
  · exact holding_endHolding _
  · exact law

theorem holding_readyArrived (s : State) (law : HoldingLaw s) : HoldingLaw (readyArrived s) := by
  have back : s.terminal.state = .absent ∨ s.terminal.state = .offline → HoldingLaw (terminalBack s) := fun away => by
    have none : s.terminal.holder = none := by
      have notHeld : ¬(s.terminal.holder.isSome = true) := fun held => by
        have := law.1 held
        grind
      simpa using notHeld
    simp [HoldingLaw, terminalBack, none]
  have stray : HoldingLaw (terminalStray (terminalHeard s)) := holding_of_core (by simp) law
  simp only [readyArrived]
  split
  case h_1 away => exact back (.inl away)
  case h_2 away => exact back (.inr away)
  case h_3 => exact holding_of_core (core_terminalHeard s) law
  all_goals
    split
    · exact holding_readyMeetsHolder _ _ stray
    · exact stray

theorem holding_cancelPay (n : SlotId) (s : State) (law : HoldingLaw s) : HoldingLaw (cancelPay n s) := by
  unfold cancelPay
  split
  · exact holding_of_core (by simp) law
  split
  case h_1 h held =>
    split
    · exact holding_newHolder { h with exchange := .aborting, abortLimit := some (s.after Config.terminalAbortSeconds), cardWaitLimit := none }
        law (by simp [held]) rfl rfl
    · exact law
  case h_2 => exact law

theorem holding_cardWaitExpires (h : Holder) (s : State) (law : HoldingLaw s) : HoldingLaw (cardWaitExpires h s) := by
  unfold cardWaitExpires
  split
  · exact holding_endHolding _
  · exact law

theorem holding_authorizationExpires (h : Holder) (s : State) (held : s.terminal.holder = some h) (law : HoldingLaw s) :
    HoldingLaw (authorizationExpires h s) := by
  unfold authorizationExpires
  split
  · have ended := holds_endPay ‹_› ‹_› .timedOut none none none (s.emit (.abort h.reference))
    refine holding_newHolder (s := endPay _ _ .timedOut none none none (s.emit (.abort h.reference))) _ (holding_of ended law) ?_ rfl rfl
    rw [ended.2]
    simp [held]
  · exact holding_endHolding _
  · exact law

theorem holding_abortUnanswered (h : Holder) (s : State) : HoldingLaw (abortUnanswered h s) := by
  unfold abortUnanswered
  split <;> exact holding_endHolding _

theorem holding_answerLate (h : Holder) (s : State) (law : HoldingLaw s) : HoldingLaw (answerLate h s) := by
  unfold answerLate
  split
  · unfold settlementUnanswered
    split
    · exact holding_of_core (core_addSettlement _ _ _) (holding_endHolding s)
    split
    · exact holding_of_core (core_countUncollected _ _) (holding_endSettlement _ _ s)
    · exact holding_of_core (core_joinVoid _ _ _ _) (holding_endSettlement _ _ s)
  · exact holding_endHolding _
  · exact holding_voidAttemptFailed h s
  · exact law

theorem holding_coreLaw : CoreLaw HoldingLaw where
  core := holding_of_core
  arbiter := holding_arbiter
  grant s := holding_of (holds_grantOne s)
  ended index o s := holding_of (holds_endTransfer index o s)
  reset s up msi _ := by simp [HoldingLaw, partResetState, keepTerminal, Terminal.reset]
  ready := holding_readyArrived
  cardWait ref s law := holding_exchangeFrame law holding_cardWaited
  approved ref amount code s law := holding_exchangeFrame law fun x u v _ _ => holding_approvedAnswer amount code x u v
  outcome ref outcome reason s law := holding_exchangeFrame law fun x u v _ _ => holding_outcomeAnswer outcome reason x u v
  captured := holding_capturedArrived
  voided ref s law := holding_exchangeFrame law fun x u v _ _ => holding_voidedAnswer x u v
  refused ref reason s law := holding_exchangeFrame law fun x u v _ _ => holding_refusedAnswer reason x u v
  cancelPay := holding_cancelPay
  linkLoss new s away _ := holding_linkLoss new (by grind) (by grind) s
  cardWaitLimit := holding_cardWaitExpires
  authorizationLimit := holding_authorizationExpires
  abortLimit h s _ := holding_abortUnanswered h s
  answerLimit := holding_answerLate

theorem holding_powerOnState (part : PartState) (s : State) : HoldingLaw (powerOnState part s) := by
  simp [HoldingLaw, powerOnState, State.reset, Terminal.reset]

/-- Settles O6: the law of the holder is a law of the core. -/
theorem terminalHoldingLawIsKept : Obligations.TerminalHoldingLawIsKept := by
  refine step_keeps (fun _ _ law => law) (fun s law => holding_of ?_ law) fun c s t law h => holding_coreLaw.exec law h ?_ ?_
  · unfold millisecond
    split <;> exact ⟨rfl, rfl⟩
  · rintro (rfl | rfl) <;> cases h <;> exact holding_powerOnState _ s
  · rintro rfl
    exact holding_coreLaw.eventKeeps.taking law h fun n u => holding_of (holds_setApertureWork n u)

end Sys2Proof.Machine
end

section
/-! SUPPORT. The laws of the transfers granted (R156, R157), the queue, CLOCK and the timer settings as every command leaves them. -/

namespace Sys2Proof.Machine

/-! ## The transfers granted -/

/-- A law of the transfers granted that a grant and the end of a transfer keep, and that holds when none is granted. -/
structure GrantedLaw (P : State → Prop) : Prop where
  same : ∀ s t : State, t.port.granted = s.port.granted → P s → P t
  none : ∀ s : State, s.port.granted = [] → P s
  grant : ∀ s, P s → P (grantOne s)
  ended : ∀ index o s, P s → P (endTransfer index o s)

/-- The answers of the terminal leave the granted transfers alone. -/
theorem granted_cardWaited (x : Holder) (s t : State) (h : cardWaited x s = some t) : t.port.granted = s.port.granted := by
  unfold cardWaited at h
  split at h <;> cases h
  simp

theorem granted_approvedAnswer (amount : Nat) (code : List Byte) (x : Holder) (s t : State) (h : approvedAnswer amount code x s = some t) :
    t.port.granted = s.port.granted := by
  unfold approvedAnswer at h
  (repeat' split at h) <;> cases h <;> simp

theorem granted_outcomeAnswer (outcome : Holder → PayOutcome) (reason : Holder → Option Byte) (x : Holder) (s t : State)
    (h : outcomeAnswer outcome reason x s = some t) : t.port.granted = s.port.granted := by
  unfold outcomeAnswer at h
  (repeat' split at h) <;> cases h <;> simp

theorem granted_voidedAnswer (x : Holder) (s t : State) (h : voidedAnswer x s = some t) : t.port.granted = s.port.granted := by
  unfold voidedAnswer at h
  (repeat' split at h) <;> cases h <;> simp

theorem granted_refusedAnswer (reason : Byte) (x : Holder) (s t : State) (h : refusedAnswer reason x s = some t) :
    t.port.granted = s.port.granted := by
  unfold refusedAnswer at h
  split at h
  · exact granted_outcomeAnswer _ _ x s t h
  all_goals (repeat' split at h) <;> cases h <;> simp

/-- The transfers granted are a part of the core that nothing at the terminal moves. -/
theorem GrantedLaw.coreLaw {P : State → Prop} (G : GrantedLaw P) : CoreLaw P where
  core h := G.same _ _ (granted_of_core h)
  arbiter s := G.same s _ (granted_arbiter s)
  grant := G.grant
  ended := G.ended
  reset _ _ _ _ := G.none _ rfl
  ready s := G.same s _ (granted_readyArrived s)
  cardWait ref s := G.same s _ (granted_exchangeFrame ref _ granted_cardWaited s)
  approved ref amount code s := G.same s _ (granted_exchangeFrame ref _ (granted_approvedAnswer amount code) s)
  outcome ref o r s := G.same s _ (granted_exchangeFrame ref _ (granted_outcomeAnswer o r) s)
  captured ref amount s := G.same s _ (granted_capturedArrived ref amount s)
  voided ref s := G.same s _ (granted_exchangeFrame ref _ granted_voidedAnswer s)
  refused ref reason s := G.same s _ (granted_exchangeFrame ref _ (granted_refusedAnswer reason) s)
  cancelPay n s := G.same s _ (granted_cancelPay n s)
  linkLoss new s _ := G.same s _ (granted_linkLoss new s)
  cardWaitLimit h s := G.same s _ (granted_cardWaitExpires h s)
  authorizationLimit h s _ := G.same s _ (granted_authorizationExpires h s)
  abortLimit h s := G.same s _ (granted_abortUnanswered h s)
  answerLimit h s := G.same s _ (granted_answerLate h s)

/-- A step keeps a law of the transfers granted that a millisecond keeps. -/
theorem GrantedLaw.step {P : State → Prop} (G : GrantedLaw P)
    (tick : ∀ s t : State, t.port.granted = s.port.granted.map tickGranted → P s → P t) (s t : State) (hs : P s)
    (h : step s = .next t) : P t := by
  refine step_keeps (fun u _ => G.same u _ rfl) (fun u hu => ?_) (fun c u v hu h => G.coreLaw.exec hu h ?_ ?_) s t hs h
  · unfold millisecond
    split
    · exact tick u _ rfl hu
    · exact G.same u _ rfl hu
  · rintro (rfl | rfl) <;> cases h <;> exact G.none _ rfl
  · rintro rfl
    exact G.coreLaw.eventKeeps.taking hu h fun n u => G.same u _ (granted_setApertureWork n u)

theorem within_grantedLaw : GrantedLaw PortWithinLimit where
  same _ _ := within_of_granted
  none s h := by simp [PortWithinLimit, busyTransfers, h]
  grant := within_grantOne
  ended := within_endTransfer

/-! ### The order of the outcomes (R157)

The list of the transfers granted, read from the oldest on: the requesters of those still in progress are open, and an outcome may be held for
an open requester alone. -/

/-- Every held outcome is of a requester that is open, or of one that an earlier transfer of the list opens. -/
def HeldBehind (open_ : Requester → Prop) : List Granted → Prop
  | [] => True
  | g :: rest =>
    (g.outcome.isSome = true → open_ g.transfer.requester)
      ∧ HeldBehind (fun r => open_ r ∨ g.outcome = none ∧ g.transfer.requester = r) rest

theorem heldBehind_mono {P Q : Requester → Prop} (h : ∀ r, P r → Q r) {l : List Granted} (k : HeldBehind P l) : HeldBehind Q l := by
  induction l generalizing P Q with
  | nil => trivial
  | cons g rest ih => exact ⟨fun held => h _ (k.1 held), ih (fun r => Or.imp_left (h r)) k.2⟩

/-- What it says place by place. -/
theorem heldBehind_iff {P : Requester → Prop} {l : List Granted} : HeldBehind P l ↔
    ∀ (i : Nat) (g : Granted), l[i]? = some g → g.outcome.isSome = true → P g.transfer.requester
      ∨ ∃ (j : Nat) (f : Granted), j < i ∧ l[j]? = some f ∧ f.transfer.requester = g.transfer.requester ∧ f.outcome = none := by
  induction l generalizing P with
  | nil => simp [HeldBehind]
  | cons x rest ih =>
    simp only [HeldBehind, ih]
    constructor
    · rintro ⟨first, others⟩ i g place held
      cases i with
      | zero =>
        obtain rfl : x = g := by simpa using place
        exact .inl (first held)
      | succ k =>
        obtain (was | ⟨opened, same⟩) | ⟨j, f, lt, found, same, running⟩ := others k g place held
        · exact .inl was
        · exact .inr ⟨0, x, Nat.succ_pos k, rfl, same, opened⟩
        · exact .inr ⟨j + 1, f, Nat.succ_lt_succ lt, found, same, running⟩
    · intro all
      refine ⟨fun held => (all 0 x rfl held).resolve_right (by simp), fun i g place held => ?_⟩
      obtain was | ⟨j, f, lt, found, same, running⟩ := all (i + 1) g place held
      · exact .inl (.inl was)
      · cases j with
        | zero =>
          obtain rfl : x = f := by simpa using found
          exact .inl (.inr ⟨running, same⟩)
        | succ k => exact .inr ⟨k, f, Nat.lt_of_succ_lt_succ lt, found, same, running⟩

theorem outcomesInOrder_iff (s : State) : OutcomesInOrder s ↔ HeldBehind (fun _ => False) s.port.granted := by
  simp [OutcomesInOrder, heldBehind_iff]

/-- A transfer just granted is in progress. -/
theorem heldBehind_append {P : Requester → Prop} {l : List Granted} {g : Granted} (running : g.outcome = none) (h : HeldBehind P l) :
    HeldBehind P (l ++ [g]) := by
  induction l generalizing P with
  | nil => simp [HeldBehind, running]
  | cons x rest ih => exact ⟨h.1, ih h.2⟩

/-- A transfer whose outcome becomes known closes its requester, at the most. -/
theorem heldBehind_ended {P : Requester → Prop} {r : Requester} {o : TransferOutcome} {l : List Granted} {index : Nat} {g : Granted}
    (place : l[index]? = some g) (own : g.transfer.requester = r) (h : HeldBehind P l) :
    HeldBehind (fun x => P x ∨ x = r) (l.modify index fun g => { g with timer := .stopped, outcome := some o }) := by
  induction l generalizing P index with
  | nil => cases index <;> trivial
  | cons x rest ih =>
    cases index with
    | zero =>
      obtain rfl : x = g := by simpa using place
      exact ⟨fun _ => .inr own, heldBehind_mono (fun y => by grind) h.2⟩
    | succ k =>
      refine ⟨fun held => .inl (h.1 held), ?_⟩
      exact heldBehind_mono (fun y => by grind) (ih (by simpa using place) h.2)

/-- R157: what is told to a requester leaves its outcomes in order, whether or not it was open. -/
theorem heldBehind_dropTold {P : Requester → Prop} {r : Requester} {l : List Granted} (h : HeldBehind (fun x => P x ∨ x = r) l) :
    HeldBehind P (dropTold r l) := by
  induction l generalizing P with
  | nil => trivial
  | cons g rest ih =>
    obtain ⟨first, others⟩ := h
    unfold dropTold
    split
    case isTrue own =>
      split
      case h_1 known => exact ih (heldBehind_mono (fun x => by grind) others)
      case h_2 running => exact ⟨by simp [running], heldBehind_mono (fun x => by grind) others⟩
    case isFalse other =>
      exact ⟨fun held => (first held).resolve_right other, ih (heldBehind_mono (fun x => by grind) others)⟩

theorem heldBehind_tick {P : Requester → Prop} {l : List Granted} (h : HeldBehind P l) : HeldBehind P (l.map tickGranted) := by
  induction l generalizing P with
  | nil => trivial
  | cons g rest ih => exact ⟨h.1, ih h.2⟩

theorem outcomesInOrder_of_granted (s t : State) (h : t.port.granted = s.port.granted) (law : OutcomesInOrder s) : OutcomesInOrder t := by
  rw [outcomesInOrder_iff] at law ⊢
  exact h ▸ law

theorem outcomesInOrder_grantOne (s : State) (law : OutcomesInOrder s) : OutcomesInOrder (grantOne s) := by
  unfold grantOne
  split
  case isFalse => exact law
  split
  case h_2 => exact law
  case h_1 i _ =>
    unfold grantTo
    split
    · exact law
    · refine outcomesInOrder_of_granted _ _ (granted_grantNote' _ _) ?_
      rw [outcomesInOrder_iff] at law ⊢
      exact heldBehind_append rfl law

theorem outcomesInOrder_endTransfer (index : Nat) (o : TransferOutcome) (s : State) (law : OutcomesInOrder s) :
    OutcomesInOrder (endTransfer index o s) := by
  rw [outcomesInOrder_iff] at law ⊢
  unfold endTransfer
  split
  · exact law
  case h_2 g place =>
    split
    · exact law
    · rw [granted_tellRequester]
      refine heldBehind_dropTold ?_
      cases o with
      | done d => exact heldBehind_ended place rfl law
      | error c => rw [granted_faultAperture]; exact heldBehind_ended place rfl law

theorem outcomesInOrder_grantedLaw : GrantedLaw OutcomesInOrder where
  same := outcomesInOrder_of_granted
  none s h := by simp [outcomesInOrder_iff, h, HeldBehind]
  grant := outcomesInOrder_grantOne
  ended := outcomesInOrder_endTransfer

theorem busy_tick (l : List Granted) : ((l.map tickGranted).filter inProgress).length = (l.filter inProgress).length := by
  rw [List.filter_map, List.length_map]
  rfl

/-! ## The queue, CLOCK and the timer settings -/

/-- What only CLOCK's tick, SET_TIMERS and the power-on commands change: CLOCK, the timer settings and the commands that wait. -/
def State.ledger (s : State) : W32 × TimerSettings × List Instr := (s.clock, s.timers, s.pending)

theorem ledger_of_shell {s t : State} (h : t.shell = s.shell) : t.ledger = s.ledger :=
  (congrArg State.ledger h : t.shell.ledger = s.shell.ledger)

theorem clock_of_ledger {s t : State} (h : t.ledger = s.ledger) : t.clock = s.clock := congrArg Prod.fst h

theorem timers_of_ledger {s t : State} (h : t.ledger = s.ledger) : t.timers = s.timers := congrArg (·.2.1) h

theorem pending_of_ledger {s t : State} (h : t.ledger = s.ledger) : t.pending = s.pending := congrArg (·.2.2) h

@[simp] theorem ledger_complete (n : SlotId) (st : Status) (why : Reason) (body : Body) (s : State) :
    (complete n st why body s).ledger = s.ledger :=
  ledger_of_shell (shell_complete n st why body s)

@[simp] theorem ledger_refuseSlot (n : SlotId) (st : Status) (s : State) : (refuseSlot n st s).ledger = s.ledger :=
  ledger_of_shell (shell_refuseSlot n st s)

theorem ledger_openOrderWork (i : StationId) (n : SlotId) (s : State) : (openOrderWork i n s).ledger = s.ledger := by
  unfold openOrderWork
  (repeat' split) <;> exact ledger_complete _ _ _ _ _

theorem ledger_setApertureWork (n : SlotId) (s : State) : (setApertureWork n s).ledger = s.ledger := by
  have checked : ∀ a, (apertureChecked a n s).ledger = s.ledger := fun a => by
    simp only [apertureChecked]
    (repeat' split) <;> exact ledger_complete _ _ _ _ _
  unfold setApertureWork
  split
  · exact checked _
  · exact ledger_refuseSlot _ _ _

theorem ledger_writeRequest (n : SlotId) (offset : Nat) (data : List Byte) (s : State) : (writeRequest n offset data s).ledger = s.ledger := by
  unfold writeRequest
  split <;> rfl

theorem ledger_postSlot (n : SlotId) (s : State) : (postSlot n s).ledger = s.ledger := by
  unfold postSlot
  split <;> rfl

theorem ledger_releaseSlot (n : SlotId) (s : State) : (releaseSlot n s).ledger = s.ledger := by
  unfold releaseSlot
  split <;> rfl

theorem ledger_cancelSlot (n : SlotId) (s : State) : (cancelSlot n s).ledger = s.ledger := by
  unfold cancelSlot
  split
  case h_1 => exact ledger_refuseSlot _ _ _
  case h_2 => exact ledger_of_shell ((shell_settle _ _).trans (shell_cancelTaken n s))
  case h_3 => rfl
  case h_4 => rfl

theorem ledger_giveBackSlot (n : SlotId) (s : State) : (giveBackSlot n s).ledger = s.ledger := by
  unfold giveBackSlot
  split
  · split
    · exact ledger_of_shell (by simp)
    · rfl
  · rfl

theorem ledger_of_event {f : State → State} {s t : State} (effect : ∀ u, (f u).ledger = u.ledger) (h : event f s = .next t) :
    t.ledger = s.ledger := by
  obtain rfl | ⟨-, rfl⟩ := event_cases h
  · rfl
  · exact (ledger_of_shell (shell_closeEvent _ _)).trans (effect _)

theorem ledger_of_hostEvent {f : State → State} {s t : State} (effect : ∀ u, (f u).ledger = u.ledger) (h : hostEvent f s = .next t) :
    t.ledger = s.ledger := by
  obtain rfl | ⟨-, rfl⟩ := hostEvent_cases h
  · rfl
  · exact (ledger_of_shell (shell_closeEvent _ _)).trans (effect _)

theorem ledger_of_controlWrite {f : State → State} {s t : State} (effect : ∀ u, (f u).ledger = u.ledger) (h : controlWrite f s = .next t) :
    t.ledger = s.ledger := by
  obtain rfl | ⟨-, rfl⟩ := controlWrite_cases h
  · rfl
  · exact (ledger_of_shell (shell_interruptAfterWrite _)).trans (effect _)

theorem ledger_of_taking {k : Kind} {work : SlotId → State → State} {s t : State} (keeps : ∀ n u, (work n u).ledger = u.ledger)
    (h : event (taking k work) s = .next t) : t.ledger = s.ledger := by
  refine ledger_of_event (fun u => ?_) h
  obtain same | ⟨n, rest, -, same⟩ := taking_keeps State.ledger k work keeps ledger_refuseSlot u
  · exact same
  · exact same

/-- The entry to RUN (R182). -/
theorem ledger_enterRun {s t : State} (h : execEnterRun s = .next t) : t.ledger = s.ledger := by
  unfold execEnterRun at h
  injection h with h
  subst h
  split
  · have kept : ∀ u : State, (evalAllLamps (forEach (List.finRange 4) readContact u)).ledger = u.ledger := fun u => ledger_of_shell (by simp)
    exact (ledger_of_shell (shell_closeEvent _ _)).trans (kept _)
  · rfl

/-- The commands that move CLOCK or the timer settings (R162, R178, R180). -/
def movesLedger : Instr → Bool
  | .powerOn | .resetNHigh | .clockTick | .setTimers => true
  | _ => false

theorem movesLedger_cases {c : Instr} (h : movesLedger c = true) : (c = .powerOn ∨ c = .resetNHigh) ∨ c = .clockTick ∨ c = .setTimers := by
  unfold movesLedger at h
  split at h <;> simp at h ⊢

/-- Every other command leaves CLOCK, the settings and the queue alone. -/
theorem exec_ledger {c : Instr} {s t : State} (other : movesLedger c = false) (h : exec c s = .next t) : t.ledger = s.ledger := by
  by_cases hc : changesShell c = false
  · obtain same | ⟨n, rest, -, same⟩ := exec_shell c s t hc h
    · exact ledger_of_shell same
    · exact (ledger_of_shell same).trans rfl
  cases c <;> first | exact absurd rfl hc | simp only [exec] at h
  case powerOn => cases other
  case resetNHigh => cases other
  case clockTick => cases other
  case setTimers => cases other
  case partReset => injection h with h; subst h; split <;> rfl
  case linkDown => injection h with h; subst h; split <;> rfl
  case hotReset => injection h with h; subst h; split <;> rfl
  case enterRun => exact ledger_enterRun h
  case msiEnable => injection h with h; subst h; split <;> rfl
  case pcieLinkUp => injection h with h; subst h; split <;> rfl
  case slotRequestWrite n offset data => exact ledger_of_hostEvent (ledger_writeRequest n offset data) h
  case attn v => exact ledger_of_controlWrite (f := clearAttn v) (fun _ => rfl) h
  case attnEnable v => exact ledger_of_controlWrite (f := fun u => { u with attnEnable := v.setWidth 5 }) (fun _ => rfl) h
  case post n => exact ledger_of_hostEvent (ledger_postSlot n) h
  case cancel n => exact ledger_of_hostEvent (ledger_cancelSlot n) h
  case release n => exact ledger_of_hostEvent (ledger_releaseSlot n) h
  case giveBack n => exact ledger_of_hostEvent (ledger_giveBackSlot n) h
  case stripWriteRefused => exact ledger_of_hostEvent (f := misuse) (fun _ => rfl) h
  case openOrder =>
    exact ledger_of_taking (withStation_keeps State.ledger _ ledger_openOrderWork ledger_refuseSlot fun i u => ledger_of_shell (by simp)) h
  case setAperture => exact ledger_of_taking ledger_setApertureWork h
  case contactClose b => exact (ledger_of_shell (event_shell _ _ t (shell_closeContact b) h)).trans rfl
  case contactOpen b => exact (ledger_of_shell (event_shell _ _ t (shell_openContact b) h)).trans rfl

/-- R178: a taking of SET_TIMERS leaves the settings or clamps them from a request. -/
theorem execSetTimers_timers {s t : State} (h : exec .setTimers s = .next t) :
    t.pending = s.pending ∧ t.clock = s.clock ∧ (t.timers = s.timers ∨ ∃ c, t.timers = settingsAfter s.timers c) := by
  have done : ∀ (n : SlotId) (u : State), (setTimersWork n u).ledger = (u.clock, settingsAfter u.timers (u.slot n), u.pending) :=
    fun n u => ledger_complete _ _ _ _ _
  obtain rfl | ⟨-, rfl⟩ := event_cases (h : event (taking .setTimers setTimersWork) s = .next t)
  · exact ⟨rfl, rfl, .inl rfl⟩
  have close : ∀ u : State, (closeEvent s.quiet u).ledger = u.ledger := fun u => ledger_of_shell (shell_closeEvent _ _)
  suffices work : (taking .setTimers setTimersWork s.quiet).ledger = s.ledger
      ∨ ∃ c, (taking .setTimers setTimersWork s.quiet).ledger = (s.clock, settingsAfter s.timers c, s.pending) by
    rw [← close] at work
    obtain kept | ⟨c, kept⟩ := work
    · exact ⟨pending_of_ledger kept, clock_of_ledger kept, .inl (timers_of_ledger kept)⟩
    · exact ⟨congrArg (·.2.2) kept, congrArg Prod.fst kept, .inr ⟨c, congrArg (·.2.1) kept⟩⟩
  unfold taking
  split
  · exact .inl rfl
  split
  case isFalse => exact .inl rfl
  unfold dispatch
  (repeat' split)
  · exact .inl (ledger_refuseSlot _ _ _)
  · exact .inl (ledger_refuseSlot _ _ _)
  · exact .inr ⟨_, done _ _⟩

/-- Settles O3. -/
theorem everyCommandEndsInANextState : Obligations.EveryCommandEndsInANextState := by
  intro c s
  obtain ⟨t, h⟩ := exec_next c s
  refine ⟨t, h, ?_⟩
  cases other : movesLedger c with
  | false => exact pending_of_ledger (exec_ledger other h)
  | true =>
    obtain (rfl | rfl) | rfl | rfl := movesLedger_cases other
    · injection h with h; exact h ▸ rfl
    · injection h with h; exact h ▸ rfl
    · simp only [exec] at h; injection h with h; subst h; split <;> rfl
    · exact (execSetTimers_timers h).1

theorem clamp_mem {low high : Nat} (range : low ≤ high) (v : Nat) : low ≤ clamp low high v ∧ clamp low high v ≤ high := by
  unfold clamp
  split
  · exact ⟨Nat.le_refl _, range⟩
  split <;> omega

theorem newSetting_mem {low high old : Nat} (range : low ≤ high) (was : low ≤ old ∧ old ≤ high) (change : Bool) (v : Nat) :
    low ≤ newSetting change low high old v ∧ newSetting change low high old v ≤ high := by
  unfold newSetting
  split
  · exact clamp_mem range v
  · exact was

/-- R178: a setting taken over is brought into its range. -/
theorem settingsInRange_of_timers {s t : State} (law : SettingsInRange s) (h : t.timers = s.timers ∨ ∃ c, t.timers = settingsAfter s.timers c) :
    SettingsInRange t := by
  obtain same | ⟨c, after⟩ := h
  · unfold SettingsInRange
    rwa [same]
  · obtain ⟨idle, hold, auth, grace⟩ := law
    unfold SettingsInRange
    rw [after]
    exact ⟨newSetting_mem (by decide) idle _ _, newSetting_mem (by decide) hold _ _, newSetting_mem (by decide) auth _ _,
      newSetting_mem (by decide) grace _ _⟩

theorem settingsInRange_powerOn : SettingsInRange State.reset := by
  unfold SettingsInRange
  decide

theorem settingsInRange_exec (c : Instr) (s t : State) (law : SettingsInRange s) (h : exec c s = .next t) : SettingsInRange t := by
  cases other : movesLedger c with
  | false => exact settingsInRange_of_timers law (.inl (timers_of_ledger (exec_ledger other h)))
  | true =>
    obtain (rfl | rfl) | rfl | rfl := movesLedger_cases other
    · injection h with h; exact h ▸ settingsInRange_powerOn
    · injection h with h; exact h ▸ settingsInRange_powerOn
    · simp only [exec] at h
      injection h with h
      subst h
      split <;> exact law
    · exact settingsInRange_of_timers law (execSetTimers_timers h).2.2

/-- Settles O5: two laws of the transfers granted, and the settings, which SET_TIMERS alone moves. -/
theorem portAndTimerSettingsStayInBounds : Obligations.PortAndTimerSettingsStayInBounds := by
  refine ⟨within_grantedLaw.step fun s t h law => ?_, step_keeps (fun _ _ law => law) (fun s law => ?_) settingsInRange_exec,
    outcomesInOrder_grantedLaw.step fun s t h law => ?_⟩
  · unfold PortWithinLimit busyTransfers
    rw [h, busy_tick]
    exact law
  · exact settingsInRange_of_timers law (.inl (by unfold millisecond; split <;> rfl))
  · rw [outcomesInOrder_iff] at law ⊢
    exact h ▸ heldBehind_tick law

end Sys2Proof.Machine
end

section
/-! SUPPORT. The apertures (R150 to R153, R158): the terminal and the master port leave them alone, a link error faults one, and SET_APERTURE
rewrites one that is not in use. -/

namespace Sys2Proof.Machine

@[simp] theorem apertures_onTerminal (s : State) (f : Terminal → Terminal) : (s.onTerminal f).core.apertures = s.core.apertures := rfl

@[simp] theorem apertures_endHolding (s : State) : (endHolding s).core.apertures = s.core.apertures := rfl

@[simp] theorem apertures_clearHolder (s : State) : (clearHolder s).core.apertures = s.core.apertures := rfl

@[simp] theorem apertures_startFollowUp (ref : W16) (amount : Nat) (s : State) :
    (startFollowUp ref amount s).core.apertures = s.core.apertures := rfl

@[simp] theorem apertures_terminalBack (s : State) : (terminalBack s).core.apertures = s.core.apertures := rfl

@[simp] theorem apertures_endSettlement (o : OrderId) (how : SettleStatus) (s : State) :
    (endSettlement o how s).core.apertures = s.core.apertures := by simp [endSettlement]

@[simp] theorem apertures_voidAttemptFailed (h : Holder) (s : State) : (voidAttemptFailed h s).core.apertures = s.core.apertures := by
  simp only [voidAttemptFailed]
  split <;> simp

@[simp] theorem apertures_grantPay (e : PayEntry) (s : State) : (grantPay e s).core.apertures = s.core.apertures := by simp [grantPay]

@[simp] theorem apertures_grantSettlement (e : PendingSettlement) (s : State) :
    (grantSettlement e s).core.apertures = s.core.apertures := by simp [grantSettlement]

@[simp] theorem apertures_grantVoid (e : VoidEntry) (s : State) : (grantVoid e s).core.apertures = s.core.apertures := rfl

@[simp] theorem apertures_arbiter (s : State) : (arbiter s).core.apertures = s.core.apertures := by
  simp only [arbiter]
  (repeat' split) <;> simp

@[simp] theorem apertures_loseHolding (s : State) : (loseHolding s).core.apertures = s.core.apertures := by
  simp only [loseHolding]
  (repeat' split) <;> simp

@[simp] theorem apertures_linkLoss (new : TerminalState) (s : State) : (linkLoss new s).core.apertures = s.core.apertures := by
  simp [linkLoss]

@[simp] theorem apertures_cancelPay (n : SlotId) (s : State) : (cancelPay n s).core.apertures = s.core.apertures := by
  simp only [cancelPay, abortExchange]
  (repeat' split) <;> simp

@[simp] theorem apertures_readyMeetsHolder (h : Holder) (s : State) : (readyMeetsHolder h s).core.apertures = s.core.apertures := by
  simp only [readyMeetsHolder]
  (repeat' split) <;> simp

@[simp] theorem apertures_readyArrived (s : State) : (readyArrived s).core.apertures = s.core.apertures := by
  simp only [readyArrived]
  (repeat' split) <;> simp

@[simp] theorem apertures_cardWaitExpires (h : Holder) (s : State) : (cardWaitExpires h s).core.apertures = s.core.apertures := by
  simp only [cardWaitExpires]
  (repeat' split) <;> simp

@[simp] theorem apertures_authorizationExpires (h : Holder) (s : State) : (authorizationExpires h s).core.apertures = s.core.apertures := by
  simp only [authorizationExpires, authorizationTimesOut]
  (repeat' split) <;> simp

@[simp] theorem apertures_abortUnanswered (h : Holder) (s : State) : (abortUnanswered h s).core.apertures = s.core.apertures := by
  simp only [abortUnanswered]
  (repeat' split) <;> simp

@[simp] theorem apertures_answerLate (h : Holder) (s : State) : (answerLate h s).core.apertures = s.core.apertures := by
  simp only [answerLate, settlementUnanswered]
  (repeat' split) <;> simp

/-! ### The answers of the terminal -/

theorem apertures_exchangeFrame {ref : W16} {answer : Holder → State → Option State} (s : State)
    (answered : ∀ x u v, answer x u = some v → v.core.apertures = u.core.apertures) :
    (exchangeFrame ref answer s).core.apertures = s.core.apertures :=
  exchangeFrame_keeps (P := fun u => u.core.apertures = s.core.apertures) rfl (fun u h => by simpa using h) (fun u h => by simpa using h)
    fun x u v h _ e => (answered x u v e).trans h

theorem apertures_cardWaited (x : Holder) (s t : State) (h : cardWaited x s = some t) : t.core.apertures = s.core.apertures := by
  unfold cardWaited at h
  split at h <;> cases h
  simp

theorem apertures_approvedAnswer (amount : Nat) (code : List Byte) (x : Holder) (s t : State) (h : approvedAnswer amount code x s = some t) :
    t.core.apertures = s.core.apertures := by
  unfold approvedAnswer at h
  (repeat' split at h) <;> cases h <;> simp

theorem apertures_outcomeAnswer (outcome : Holder → PayOutcome) (reason : Holder → Option Byte) (x : Holder) (s t : State)
    (h : outcomeAnswer outcome reason x s = some t) : t.core.apertures = s.core.apertures := by
  unfold outcomeAnswer at h
  (repeat' split at h) <;> cases h <;> simp

theorem apertures_capturedAnswer (amount : Nat) (x : Holder) (s t : State) (h : capturedAnswer amount x s = some t) :
    t.core.apertures = s.core.apertures := by
  unfold capturedAnswer at h
  split at h
  · split at h <;> cases h
    simp
  · cases h

theorem apertures_voidedAnswer (x : Holder) (s t : State) (h : voidedAnswer x s = some t) : t.core.apertures = s.core.apertures := by
  unfold voidedAnswer at h
  (repeat' split at h) <;> cases h <;> simp

theorem apertures_refusedAnswer (reason : Byte) (x : Holder) (s t : State) (h : refusedAnswer reason x s = some t) :
    t.core.apertures = s.core.apertures := by
  unfold refusedAnswer at h
  split at h
  · exact apertures_outcomeAnswer _ _ x s t h
  all_goals (repeat' split at h) <;> cases h <;> simp

@[simp] theorem apertures_capturedArrived (ref : W16) (amount : Nat) (s : State) :
    (capturedArrived ref amount s).core.apertures = s.core.apertures := by
  simp only [capturedArrived]
  split
  case h_1 u answered =>
    obtain ⟨x, -, h⟩ := Option.bind_eq_some_iff.1 answered
    simpa using apertures_capturedAnswer amount x _ u h
  case h_2 => simp

/-! ### The master port -/

@[simp] theorem apertures_grantTo (i : Fin 7) (s : State) : (grantTo i s).core.apertures = s.core.apertures := by
  simp only [grantTo]
  split
  · rfl
  · rw [core_sendTransfer, core_grantNote]
    rfl

@[simp] theorem apertures_grantOne (s : State) : (grantOne s).core.apertures = s.core.apertures := by
  unfold grantOne
  (repeat' split) <;> simp

@[simp] theorem apertures_tellRequester (r : Requester) (s : State) : (tellRequester r s).core.apertures = s.core.apertures := by
  unfold tellRequester
  exact (congrArg Core.apertures
    (core_forEach (fun (x : Transfer × TransferOutcome) u => tellOne x.1 x.2 u) (fun x u => core_tellOne x.1 x.2 u) _ _)).trans rfl

/-! ### The law of an aperture in use -/

/-- R153, R158: the entry keeps range and access, and its state or it is FAULTED. -/
def RangeKept (e f : Aperture) : Prop :=
  f.base = e.base ∧ f.limit = e.limit ∧ f.access = e.access ∧ (f.state = e.state ∨ f.state = .faulted)

theorem rangeKept_refl (e : Aperture) : RangeKept e e := ⟨rfl, rfl, rfl, .inl rfl⟩

theorem rangeKept_of_apertures {e : Aperture} {a : ApertureId} {s t : State} (h : t.core.apertures = s.core.apertures)
    (kept : RangeKept e (s.aperture a)) : RangeKept e (t.aperture a) := by
  have same : t.aperture a = s.aperture a := congrArg (fun v : Vector Aperture 8 => look v a) h
  rwa [same]

/-- R158: a link error faults an entry and keeps its range. -/
theorem rangeKept_faultAperture {e : Aperture} {a : ApertureId} (x : Transfer) (cause : FaultCause) {s : State}
    (kept : RangeKept e (s.aperture a)) : RangeKept e ((faultAperture x cause s).aperture a) := by
  simp only [faultAperture]
  split
  · refine rangeKept_of_apertures (congrArg Core.apertures ((core_killAll _ _).trans (core_withdrawUnder _ _))) ?_
    rw [aperture_onAperture]
    split
    · exact ⟨kept.1, kept.2.1, kept.2.2.1, .inr rfl⟩
    · exact kept
  · exact kept

theorem rangeKept_endTransfer {e : Aperture} {a : ApertureId} (index : Nat) (o : TransferOutcome) {s : State}
    (kept : RangeKept e (s.aperture a)) : RangeKept e ((endTransfer index o s).aperture a) := by
  unfold endTransfer
  split
  · exact kept
  split
  · exact kept
  · refine rangeKept_of_apertures (apertures_tellRequester _ _) ?_
    cases o with
    | done d => exact kept
    | error cause => exact rangeKept_faultAperture _ cause kept

/-- No command but SET_APERTURE and a power-on changes range or access. -/
theorem rangeKept_coreLaw (e : Aperture) (a : ApertureId) : CoreLaw fun t => RangeKept e (t.aperture a) where
  core h := rangeKept_of_apertures (congrArg Core.apertures h)
  arbiter s := rangeKept_of_apertures (apertures_arbiter s)
  grant s := rangeKept_of_apertures (apertures_grantOne s)
  ended index o _ := rangeKept_endTransfer index o
  reset s _ _ kept := rangeKept_of_apertures (s := s) rfl kept
  ready s := rangeKept_of_apertures (apertures_readyArrived s)
  cardWait _ s := rangeKept_of_apertures (apertures_exchangeFrame s apertures_cardWaited)
  approved _ amount code s := rangeKept_of_apertures (apertures_exchangeFrame s (apertures_approvedAnswer amount code))
  outcome _ o r s := rangeKept_of_apertures (apertures_exchangeFrame s (apertures_outcomeAnswer o r))
  captured ref amount s := rangeKept_of_apertures (apertures_capturedArrived ref amount s)
  voided _ s := rangeKept_of_apertures (apertures_exchangeFrame s apertures_voidedAnswer)
  refused _ reason s := rangeKept_of_apertures (apertures_exchangeFrame s (apertures_refusedAnswer reason))
  cancelPay n s := rangeKept_of_apertures (apertures_cancelPay n s)
  linkLoss new s _ := rangeKept_of_apertures (apertures_linkLoss new s)
  cardWaitLimit h s := rangeKept_of_apertures (apertures_cardWaitExpires h s)
  authorizationLimit h s _ := rangeKept_of_apertures (apertures_authorizationExpires h s)
  abortLimit h s := rangeKept_of_apertures (apertures_abortUnanswered h s)
  answerLimit h s := rangeKept_of_apertures (apertures_answerLate h s)

/-! ### SET_APERTURE -/

/-- R153: an entry in use is not rewritten. -/
theorem aperture_apertureChecked_inUse {a : ApertureId} (b : ApertureId) (n : SlotId) (s : State) (used : 0 < s.useCount a) :
    (apertureChecked b n s).aperture a = s.aperture a := by
  have completed : ∀ st why body (u : State), (complete n st why body u).aperture a = u.aperture a := fun st why body u =>
    congrArg (fun v : Vector Aperture 8 => look v a) (apertures_of_core (core_complete n st why body u))
  simp only [apertureChecked]
  split
  · exact completed _ _ _ _
  split
  case h_1 => exact completed _ _ _ _
  case h_2 free =>
    rw [completed]
    refine aperture_onAperture_ne s (fun same => ?_) _
    subst same
    simp [apertureState, used] at free

theorem aperture_setApertureWork_inUse {a : ApertureId} (n : SlotId) (s : State) (used : 0 < s.useCount a) :
    (setApertureWork n s).aperture a = s.aperture a := by
  unfold setApertureWork
  split
  · exact aperture_apertureChecked_inUse _ n s used
  · exact congrArg (fun v : Vector Aperture 8 => look v a) (apertures_of_core (core_refuseSlot n .noSuch s))

theorem aperture_execSetAperture_inUse {a : ApertureId} {s t : State} (used : 0 < s.useCount a) (h : exec .setAperture s = .next t) :
    t.aperture a = s.aperture a := by
  have looked : ∀ {u v : State}, v.core = u.core → v.aperture a = u.aperture a := fun h =>
    congrArg (fun v : Vector Aperture 8 => look v a) (apertures_of_core h)
  obtain rfl | ⟨-, rfl⟩ := event_cases (h : event (taking .setAperture setApertureWork) s = .next t)
  · rfl
  rw [looked (core_closeEvent _ _)]
  unfold taking
  split
  · rfl
  split
  case isFalse => rfl
  unfold dispatch
  (repeat' split)
  · exact looked (core_refuseSlot _ _ _)
  · exact looked (core_refuseSlot _ _ _)
  · exact aperture_setApertureWork_inUse _ _ used

/-- Settles O7: a law of the core; SET_APERTURE refuses an entry in use. -/
theorem apertureInUseKeepsItsRange : Obligations.ApertureInUseKeepsItsRange := by
  intro c s t a notPower notReset used h
  refine (rangeKept_coreLaw (s.aperture a) a).exec (rangeKept_refl _) h ?_ ?_
  · rintro (rfl | rfl)
    · exact absurd rfl notPower
    · exact absurd rfl notReset
  · rintro rfl
    rw [aperture_execSetAperture_inUse used h]
    exact rangeKept_refl _

end Sys2Proof.Machine
end

section
/-! SUPPORT. Why the law of the amounts is not kept: it does not say that the terminal's settlement has no PAY behind it, and where one stands
there, the end of a card-wait limit takes the order out of SETTLING with its settlement amount (R138, R31). -/

namespace Sys2Proof.Machine

/-- A settlement of order 0 that holds the terminal, with a PAY's slot and card-wait limit left in it. -/
def settlementWithSlot : Holder :=
  { kind := .settlement, reference := 1, amount := 0, exchange := .answerWait, order := some 0, slot := some 0, attempts := 0,
    cardSeen := false, cardWaitLimit := some 0, authorizationLimit := none, abortLimit := none, answerLimit := none }

def settlingOrder : Order := { Order.reset with state := .settling, settlement := some 0 }

/-- The part in RUN with that settlement in progress, about to take the expiry of its card-wait limit. -/
def settlementMeetsCardWait : State :=
  { (State.reset.onOrder 0 fun _ => settlingOrder) with
    part := .run, terminal := { Terminal.reset with state := .settling, holder := some settlementWithSlot }, pending := [.cardWaitLimitExpiry] }

theorem order_settlementMeetsCardWait (o : OrderId) :
    settlementMeetsCardWait.order o = if 0 = o then settlingOrder else Order.reset := by
  have same := order_onOrder State.reset 0 o fun _ => settlingOrder
  have fresh : State.reset.order o = Order.reset := by simp [State.order, State.reset]
  rw [fresh] at same
  exact same

theorem moneyLaw_settlementMeetsCardWait : MoneyLaw settlementMeetsCardWait := by
  have noCopy : ∀ p, (settlementMeetsCardWait.printer p).copy = none := by decide
  have noItems : ∀ o, (settlementMeetsCardWait.order o).items = [] := fun o => by
    rw [order_settlementMeetsCardWait]
    split <;> rfl
  have noPays : payParties settlementMeetsCardWait = [] := rfl
  have one : settleParties settlementMeetsCardWait = [0] := rfl
  refine ⟨fun o => ?_, by decide, fun p c inFlight => ?_, fun o k i item => ?_, ?_, ?_, ?_, ?_⟩
  · rw [order_settlementMeetsCardWait]
    split <;> simp [AmountsRight, settlingOrder, Order.reset]
  · simp [noCopy] at inFlight
  · simp [noItems] at item
  · simp [noPays]
  · simp [noPays]
  · simp [one, order_settlementMeetsCardWait, settlingOrder]
  · simp [one]

/-- Refutes O59: after the step order 0 is a DRAFT with a settlement amount. -/
theorem not_capturesStayWithinTheQuote : ¬ Obligations.CapturesStayWithinTheQuote := by
  rintro ⟨kept, -⟩
  have after : ∃ t, step settlementMeetsCardWait = .next t ∧ (t.order 0).state = .draft ∧ (t.order 0).settlement = some 0 :=
    ⟨_, rfl, by decide +kernel, by decide +kernel⟩
  obtain ⟨t, next, draft, amount⟩ := after
  have law := kept _ t moneyLaw_settlementMeetsCardWait next
  obtain ⟨-, -, -, -, onlySettling, -⟩ := law.1 0
  simp [draft, amount] at onlySettling

end Sys2Proof.Machine
end

section
/-! SUPPORT. The step, the queue, the resets, CLOCK and the link (R162, R175, R176, R180 to R182). -/

namespace Sys2Proof.Machine

/-- Settles O1. -/
theorem stepRunsFrontCommand : Obligations.StepRunsFrontCommand := by
  intro c rest s queue
  simp only [step, queue]

/-! ## The state after reset -/

theorem slot_reset (n : SlotId) : State.reset.slot n = Slot.reset := by simp [State.slot, State.reset]

theorem order_reset (o : OrderId) : State.reset.order o = Order.reset := by simp [State.order, State.reset]

theorem moneyLaw_reset : MoneyLaw State.reset := by
  refine ⟨fun o => ?_, by decide, fun p c inFlight => ?_, fun o k i item => ?_, ?_, List.nodup_nil, ?_, List.nodup_nil⟩
  · simp [order_reset, AmountsRight, Order.reset]
  · simp [State.printer, State.reset, Printer.resetWith] at inFlight
  · simp [order_reset, Order.reset] at item
  · simp [payParties, State.reset, Terminal.reset]
  · simp [settleParties, State.reset, Terminal.reset]

/-- Settles O2. -/
theorem resetMeetsTheInvariants : Obligations.ResetMeetsTheInvariants :=
  ⟨⟨List.nodup_nil, fun n => by rw [slot_reset]; simp [Slot.reset, State.reset]⟩, fun n => by simp [slot_reset, Slot.reset, Mem.wf],
    within_grantedLaw.none _ rfl, settingsInRange_powerOn, holding_powerOnState .starting State.reset,
    outcomesInOrder_grantedLaw.none _ rfl, moneyLaw_reset⟩

/-! ## The resets -/

/-- R181: what both resets leave in every block, for a state that differs from the power-on state in what R181 lets differ. -/
theorem blocksAtReset_of {t : State}
    (rest : { t with part := .starting, pcieUp := false, msiEnable := false, clock := 0, timers := TimerSettings.reset, orderSerial := 1,
                     price := PriceUnit.reset, printers := State.reset.printers, bays := State.reset.bays,
                     contactPins := State.reset.contactPins, apertures := State.reset.apertures, terminal := Terminal.reset,
                     pending := [] } = State.reset)
    (printers : ∀ p, ∃ id, t.printer p = Printer.resetWith id) (bays : ∀ b, ∃ generation, t.bay b = Bay.resetWith generation)
    (price : t.price.load = none ∧ t.price.last = none ∧ t.price.loadFailedLatched = false)
    (terminal : t.terminal.state = .absent ∧ t.terminal.watch = none ∧ t.terminal.holder = none ∧ t.terminal.waitList = []
      ∧ t.terminal.pendingSettlements = []) : BlocksAtReset t := by
  have slots : t.slots = Vector.replicate 64 Slot.reset := congrArg State.slots rest
  have stations : t.stations = Vector.replicate 4 Station.reset := congrArg State.stations rest
  have sessions : t.sessions = Vector.replicate 8 Session.reset := congrArg State.sessions rest
  have orders : t.orders = Vector.replicate 32 Order.reset := congrArg State.orders rest
  have notes : t.retryNotes = Vector.replicate 32 none := congrArg State.retryNotes rest
  have stock : t.stock = Vector.replicate 2 StockEntry.reset := congrArg State.stock rest
  have port : t.port = Port.reset := congrArg State.port rest
  refine ⟨fun n => ?_, congrArg State.intake rest, congrArg State.attnDone rest, congrArg State.attnProgress rest,
    congrArg State.attnMisuse rest, congrArg State.attnEnable rest, congrArg State.unitChanged rest, congrArg State.orderChanged rest,
    fun i => ?_, fun k => ?_, fun o => ?_, fun p => ?_, congrArg State.heldList rest, congrArg State.quoteSequence rest, fun p => ?_,
    fun b => ?_, price.1, price.2.1, price.2.2, ?_, ?_, ?_, ?_, terminal.1, terminal.2.1, terminal.2.2.1, terminal.2.2.2.1,
    terminal.2.2.2.2, congrArg State.out rest⟩
  · simp [State.slot, slots, Slot.reset]
  · simp [State.station, stations, Station.reset, readyOutput]
  · simp [State.session, sessions, Session.reset]
  · simp [State.order, State.note, orders, notes, Order.reset]
  · simp [State.entry, stock, StockEntry.reset]
  · obtain ⟨id, same⟩ := printers p
    simp [same, Printer.resetWith, StripeBuffer.reset]
  · obtain ⟨generation, same⟩ := bays b
    simp [same, Bay.resetWith, Half.reset]
  · simp [port, Port.reset]
  all_goals simp [port, Port.reset]

theorem blocksAtReset_powerOnState (part : PartState) (s : State) : BlocksAtReset (powerOnState part s) :=
  blocksAtReset_of rfl (fun _ => ⟨1, look_replicate _ _⟩) (fun _ => ⟨0, look_replicate _ _⟩) ⟨rfl, rfl, rfl⟩ ⟨rfl, rfl, rfl, rfl, rfl⟩

theorem keptStateAtPowerOn_powerOnState (part : PartState) (s : State) : KeptStateAtPowerOn (powerOnState part s) := by
  refine ⟨rfl, rfl, rfl, fun z => ?_, rfl, rfl, rfl, fun p => ?_, fun b => ?_, fun a => ?_, rfl, rfl, rfl, rfl, rfl, rfl⟩
  · cases z <;> rfl
  · simp [powerOnState, State.printer, State.reset, Printer.resetWith]
  · simp [powerOnState, State.bay, State.reset, Bay.resetWith]
  · simp [powerOnState, State.aperture, State.reset, Aperture.reset]

/-- Settles O8. -/
theorem powerOnSetsEveryBlock : Obligations.PowerOnSetsEveryBlock := fun s =>
  ⟨⟨_, rfl, rfl, blocksAtReset_powerOnState .held s, keptStateAtPowerOn_powerOnState .held s, rfl⟩,
    ⟨_, rfl, rfl, blocksAtReset_powerOnState .starting s, keptStateAtPowerOn_powerOnState .starting s, rfl⟩⟩

/-! ## CLOCK and the link -/

/-- Settles O11: every command but its tick leaves CLOCK as a part of the ledger; the rest is the commands' own text. -/
theorem clockAndLinkCommands : Obligations.ClockAndLinkCommands := by
  refine ⟨fun c s t notTick notPower notReset h => ?_, fun s on => ?_, fun s on notHeld => ⟨fun up => ?_, ?_⟩, fun n => ⟨rfl, rfl, rfl⟩,
    fun s empty => ⟨fun run => ?_, fun notRun => ?_⟩⟩
  · cases other : movesLedger c with
    | false => exact clock_of_ledger (exec_ledger other h)
    | true =>
      obtain (rfl | rfl) | rfl | rfl := movesLedger_cases other
      · exact absurd rfl notPower
      · exact absurd rfl notReset
      · exact absurd rfl notTick
      · exact (execSetTimers_timers h).2.1
  · simp [exec, execClockTick, on]
  · simp [exec, execMsiEnable, up, notHeld]
  · simp [exec, execPcieLinkUp, notHeld]
  · refine ⟨millisecond s, by simp only [step, empty], ?_⟩
    have lasts : millisecond s =
        { s.quiet with printers := s.printers.map tickPrinter, bays := s.bays.map tickBay,
                       port := { s.port with granted := s.port.granted.map tickGranted } } := if_pos run
    have bays : ∀ b, (millisecond s).bay b = tickBay (s.bay b) := fun b => by rw [lasts]; exact look_map _ _ _
    refine ⟨fun b waits => ?_, fun b waits => ?_, fun p => ?_, ?_, ?_, ?_⟩
    · rw [bays, tickBay, tickWait, if_neg (by simp [waits])]
    · rw [bays, tickBay, tickWait, if_pos (by simp [waits])]
      rfl
    · rw [lasts]
      exact look_map _ _ _
    · rw [lasts]
      rfl
    · rw [lasts]
      rfl
    · rw [lasts]
      rfl
  · simp only [step, empty, millisecond, if_neg notRun]

/-! ## Discarded writes and events -/

/-- R161, R176: a host write to the window does nothing outside RUN or while the link is down. -/
theorem hostEvent_discarded (f : State → State) {s : State} (off : s.part ≠ .run ∨ s.pcieUp = false) : hostEvent f s = .next s.quiet := by
  unfold hostEvent
  rw [if_neg]
  rintro ⟨run, up⟩
  obtain notRun | down := off
  · exact notRun run
  · simp [up] at down

theorem controlWrite_discarded (f : State → State) {s : State} (off : s.part ≠ .run ∨ s.pcieUp = false) :
    controlWrite f s = .next s.quiet := by
  unfold controlWrite
  rw [if_neg]
  rintro ⟨run, up⟩
  obtain notRun | down := off
  · exact notRun run
  · simp [up] at down

/-- R182: an event of a block does nothing outside RUN. -/
theorem event_discarded (f : State → State) {s : State} (off : s.part ≠ .run) : event f s = .next s.quiet :=
  congrArg _ (if_neg off)

/-- R161, R162. -/
theorem exec_hostWrite_discarded {c : Instr} {s : State} (write : hostWrite c = true) (off : s.part ≠ .run ∨ s.pcieUp = false) :
    exec c s = .next s.quiet := by
  cases c <;> first | (cases write; done) | simp only [exec]
  case attn => exact controlWrite_discarded _ off
  case attnEnable => exact controlWrite_discarded _ off
  case unitChanged => exact controlWrite_discarded _ off
  case orderChanged => exact controlWrite_discarded _ off
  all_goals exact hostEvent_discarded _ off

theorem exec_blockEvent_discarded {c : Instr} {s : State} (block : blockEvent c = true) (off : s.part ≠ .run) :
    exec c s = .next s.quiet := by
  have settling : ∀ f : State → State, settlingEvent f s = .next s.quiet := fun f => event_discarded _ off
  cases c <;> first | (cases block; done) | simp only [exec]
  case status => exact settling _
  case nextStripe => exact settling _
  case copyDone => exact settling _
  case ready => exact settling _
  case approved => exact settling _
  case declined => exact settling _
  case timedOut => exact settling _
  case aborted => exact settling _
  case captured => exact settling _
  case voided => exact settling _
  case refused => exact settling _
  all_goals exact event_discarded _ off

/-- Settles O12. -/
theorem requestWritesAndDiscards : Obligations.RequestWritesAndDiscards := by
  refine ⟨fun n offset data s run up => ⟨fun busy => ?_, fun free => ?_⟩, fun _ _ s => rfl, fun c s => exec_hostWrite_discarded,
    fun s off => ?_, fun c s => exec_blockEvent_discarded⟩
  · exact hostEvent_none (writeRequest n offset data) s (if_neg busy)
  · refine ⟨Mem.store (s.slot n).request offset data, ?_, fun wf a bound => ?_⟩
    · refine endsAs_congr (hostEvent_endsAs (writeRequest n offset data) s run up) ?_
      refine (if_pos free).trans (onSlot_congr _ _ _ _ rfl)
    · rw [Mem.read_store _ _ _ _ wf bound]
  · refine congrArg _ (if_neg ?_)
    rintro ⟨run, up⟩
    obtain notRun | down := off
    · exact notRun run
    · simp [up] at down

end Sys2Proof.Machine
end

section
/-! SUPPORT. What a loop over the units of a kind does to each of them, the lamps as one evaluation leaves them (R15 to R17), and the entry to
RUN (R126, R182). -/

namespace Sys2Proof.Machine

/-- A loop in which each member's change shows in its own part of a view alone, and is told by what `inv` keeps. -/
theorem forEach_view {α β : Type} [DecidableEq α] (f : α → State → State) (view : State → α → β) (own : α → β → β) (inv : State → Prop)
    (kept : ∀ a s, inv s → inv (f a s)) (same : ∀ a s, inv s → view (f a s) a = own a (view s a))
    (other : ∀ a b s, inv s → a ≠ b → view (f a s) b = view s b) (l : List α) (nodup : l.Nodup) (s : State) (hs : inv s) (b : α) :
    view (forEach l f s) b = if b ∈ l then own b (view s b) else view s b := by
  induction l generalizing s with
  | nil => simp
  | cons a rest ih =>
    obtain ⟨notin, nodup⟩ := List.nodup_cons.1 nodup
    rw [forEach_cons, ih nodup (f a s) (kept a s hs)]
    by_cases e : a = b
    · subst e
      simp [notin, same a s hs]
    · have ne : b ≠ a := fun h => e h.symm
      simp [other a b s hs e, ne]

/-- The same for a loop over all units of a kind. -/
theorem forEach_all {n : Nat} {β : Type} (f : Fin n → State → State) (view : State → Fin n → β) (own : Fin n → β → β) (inv : State → Prop)
    (kept : ∀ a s, inv s → inv (f a s)) (same : ∀ a s, inv s → view (f a s) a = own a (view s a))
    (other : ∀ a b s, inv s → a ≠ b → view (f a s) b = view s b) (s : State) (hs : inv s) (b : Fin n) :
    view (forEach (List.finRange n) f s) b = own b (view s b) := by
  rw [forEach_view f view own inv kept same other _ (List.nodup_finRange n) s hs b, if_pos (List.mem_finRange b)]

/-! ## The lamps -/

/-- What the lamps of every station are told by: the state without the stations, and of each station its session and its notice. -/
def State.causes (s : State) : State × Vector (Option SessionId × Option W32) 4 :=
  ({ s with stations := State.reset.stations }, s.stations.map fun t => (t.session, t.notice))

theorem station_of_causes {s u : State} (h : u.causes = s.causes) (i : StationId) :
    (u.station i).session = (s.station i).session ∧ (u.station i).notice = (s.station i).notice := by
  have at_i := congrArg (fun c : State × Vector (Option SessionId × Option W32) 4 => look c.2 i) h
  have pair : ((u.station i).session, (u.station i).notice) = ((s.station i).session, (s.station i).notice) := by
    simpa [State.causes, State.station] using at_i
  exact ⟨congrArg Prod.fst pair, congrArg Prod.snd pair⟩

theorem rest_of_causes {s u : State} (h : u.causes = s.causes) :
    { u with stations := State.reset.stations } = { s with stations := State.reset.stations } := congrArg Prod.fst h

/-- R15 to R17: an evaluation reads nothing but the causes. -/
theorem lampsOf_of_causes {s u : State} (h : u.causes = s.causes) (i : StationId) (t : Station) : lampsOf u i t = lampsOf s i t := by
  obtain ⟨session, notice⟩ := station_of_causes h i
  have rest := rest_of_causes h
  have stock : someStock u = someStock s := (congrArg someStock rest : someStock { u with stations := _ } = _)
  have terminal : u.terminal = s.terminal := (congrArg State.terminal rest : _)
  have sessions : ∀ k, u.session k = s.session k := fun k => (congrArg (State.session · k) rest : _)
  have orders : ∀ o, u.order o = s.order o := fun o => (congrArg (State.order · o) rest : _)
  have bays : ∀ b, u.bay b = s.bay b := fun b => (congrArg (State.bay · b) rest : _)
  have later : ∀ n, u.after n = s.after n := fun n => (congrArg (State.after · n) rest : _)
  have mode : readyMode u i = readyMode s i := by simp only [readyMode, session, stock, terminal]
  have held : u.orderHeld i = s.orderHeld i := by
    unfold State.orderHeld
    rw [session]
    cases (s.station i).session <;> simp only [sessions, orders]
  have cause : u.callCause i = s.callCause i := by
    simp only [State.callCause, State.bayFaulted, State.payNotice, held, notice, bays]
  simp only [lampsOf, mode, cause, later]

/-- R17: an evaluation changes no cause. -/
theorem causes_evalLamps (i : StationId) (s : State) : (evalLamps i s).causes = s.causes := by
  have lit : ∀ t : Station, (lampsOf s i t).session = t.session ∧ (lampsOf s i t).notice = t.notice := fun t => by
    simp only [lampsOf]
    (repeat' split) <;> exact ⟨rfl, rfl⟩
  refine Prod.ext rfl (table_ext fun j => ?_)
  show look (Vector.map _ _) j = look (Vector.map _ _) j
  rw [look_map, look_map]
  show (((s.onStation i (lampsOf s i)).station j).session, ((s.onStation i (lampsOf s i)).station j).notice) = _
  rw [station_onStation]
  split
  · rw [(lit _).1, (lit _).2]
    rfl
  · rfl

theorem causes_evalAllLamps (s : State) : (evalAllLamps s).causes = s.causes := forEach_keeps State.causes _ causes_evalLamps _ s

/-- R17: one evaluation of all lamps evaluates those of each station once, on the state at its start. -/
theorem station_evalAllLamps (s : State) (i : StationId) : (evalAllLamps s).station i = lampsOf s i (s.station i) := by
  refine forEach_all evalLamps State.station (lampsOf s) (fun u => u.causes = s.causes) (fun j u hu => (causes_evalLamps j u).trans hu)
    (fun j u hu => ?_) (fun j k u _ ne => station_onStation_ne u ne _) s rfl i
  rw [evalLamps, station_onStation_same, lampsOf_of_causes hu]

/-- R17: an evaluation of the lamps changes nothing but the stations. -/
theorem evalAllLamps_rest (s : State) : { evalAllLamps s with stations := s.stations } = s :=
  (congrArg (fun u : State => { u with stations := s.stations }) (rest_of_causes (causes_evalAllLamps s)) :)

/-! ## The entry to RUN -/

/-- R126: a closed contact is a card arriving in EMPTY. -/
def contactRead (s : State) (b : BayId) (y : Bay) : Bay :=
  if s.pin b = true ∧ y.state = .empty then { y with contact := true, state := .settling, settle := .running Config.settleMs } else y

theorem bay_readContacts (s : State) (b : BayId) : (forEach (List.finRange 4) readContact s).bay b = contactRead s b (s.bay b) := by
  have pins : ∀ a u, (readContact a u).contactPins = u.contactPins := fun a u => by
    unfold readContact closeContact
    (repeat' split) <;> rfl
  refine forEach_all readContact State.bay (contactRead s) (fun u => u.contactPins = s.contactPins) (fun a u hu => (pins a u).trans hu)
    (fun a u hu => ?_) (fun a c u _ ne => ?_) s rfl b
  · have pin : u.pin a = s.pin a := congrArg (look · a) hu
    unfold readContact closeContact contactRead
    rw [pin]
    by_cases closed : s.pin a = true <;> by_cases empty : (u.bay a).state = .empty <;> simp [closed, empty, startSettling]
  · unfold readContact closeContact
    split
    · split
      · exact bay_onBay_ne u ne _
      · rfl
    · rfl

/-- R126: reading the contacts changes nothing but the bays. -/
theorem readContacts_rest (s : State) : { forEach (List.finRange 4) readContact s with bays := s.bays } = s := by
  refine (forEach_keeps (fun u : State => { u with bays := s.bays }) readContact (fun a u => ?_) _ s :)
  unfold readContact closeContact
  (repeat' split) <;> rfl

/-- R15, R16: without session, stock, notice and faulted bay the lamps of a station are off. -/
theorem lampsOf_off {s : State} {i : StationId} (session : (s.station i).session = none) (notice : (s.station i).notice = none)
    (stock : someStock s = false) (fine : (s.bay i).state ≠ .faulted) (t : Station) (minimum : t.minimumOn = none) :
    (lampsOf s i t).ready = .off ∧ (lampsOf s i t).call = false := by
  simp [lampsOf, readyMode, State.callCause, State.bayFaulted, State.orderHeld, State.payNotice, session, notice, stock, fine, minimum]

/-- R173, R175: the end of an event shows in the change bits and in what is sent alone. -/
theorem closeEvent_rest (b u : State) :
    { closeEvent b u with unitChanged := u.unitChanged, orderChanged := u.orderChanged, out := u.out } = u := (marked_closeEvent b u).1

/-- R126, R182: the part at the entry to RUN, the contacts read. -/
def contactsRead (s : State) : State := forEach (List.finRange 4) readContact { s.quiet with part := .run }

theorem execEnterRun_next {s : State} (starting : s.part = .starting) :
    exec .enterRun s = .next (closeEvent { s.quiet with part := .run } (evalAllLamps (contactsRead s))) :=
  congrArg _ (if_pos starting)

/-- R182: beside the bays the contacts show nowhere. -/
theorem contactsRead_rest (s : State) : { contactsRead s with bays := s.bays } = { s.quiet with part := .run } := by
  unfold contactsRead
  exact readContacts_rest { s.quiet with part := .run }

theorem bay_contactsRead (s : State) (b : BayId) : (contactsRead s).bay b = contactRead s b (s.bay b) :=
  bay_readContacts { s.quiet with part := .run } b

/-- R62, R63: with both printers ABSENT there is no stock. -/
theorem someStock_of_absent {s : State} (absent : ∀ p, (s.printer p).state = .absent) : someStock s = false := by
  simp [someStock, State.usable, absent]

/-- R126, R182: what the entry to RUN leaves, from what its three parts leave alone: the contacts `r`, the lamps `e`, the end `t`. -/
theorem enterRun_parts {s r e t : State} (contacts : { r with bays := s.bays } = { s.quiet with part := .run })
    (lamps : { e with stations := r.stations } = r)
    (ended : { t with unitChanged := e.unitChanged, orderChanged := e.orderChanged, out := e.out } = e) :
    t.part = .run ∧ t.bays = r.bays ∧ t.stations = e.stations ∧ r.stations = s.stations ∧ r.printers = s.printers
      ∧ { t with part := s.part, bays := s.bays, unitChanged := s.unitChanged, orderChanged := s.orderChanged, stations := s.stations,
                 out := s.out } = s := by
  cases s
  cases r
  cases e
  cases t
  simp only [State.quiet, State.mk.injEq] at contacts lamps ended ⊢
  simp_all

/-- Settles O10: the lamps of a reset part stay off, for no bay is FAULTED once the contacts are read. -/
theorem enterRunReadsTheContacts : Obligations.EnterRunReadsTheContacts := by
  intro s starting reset
  obtain ⟨-, -, -, -, -, -, units, orders, stations, -, -, -, -, -, printers, bays, -, -, -, -, -, -, -, -, -, -, -, -, out⟩ := reset
  obtain ⟨t, h⟩ := exec_next .enterRun s
  have ends := (execEnterRun_next starting).symm.trans h
  injection ends with ends
  have marked := closeEvent_rest { s.quiet with part := .run } (evalAllLamps (contactsRead s))
  rw [ends] at marked
  obtain ⟨run, bay, lit, station, printer, rest⟩ := enterRun_parts (contactsRead_rest s) (evalAllLamps_rest (contactsRead s)) marked
  have stock : someStock (contactsRead s) = false :=
    someStock_of_absent fun p => by rw [State.printer, printer]; exact (printers p).1
  have bayRead : ∀ b, t.bay b = contactRead s b (s.bay b) := fun b => (congrArg (look · b) bay).trans (bay_contactsRead s b)
  have fine : ∀ b, ((contactsRead s).bay b).state ≠ .faulted := fun b => by
    rw [bay_contactsRead, contactRead]
    split
    · simp
    · simp [(bays b).1]
  refine ⟨t, h, run, fun b closed => ?_, fun b opened => ?_, fun i => ?_, ?_⟩
  · rw [bayRead, contactRead, if_pos ⟨closed, (bays b).1⟩]
    exact ⟨rfl, rfl, rfl⟩
  · rw [bayRead, contactRead, if_neg (by simp [opened])]
  · obtain ⟨session, -, -, -, notice, -, -, -, minimum, -⟩ := stations i
    have looked : (contactsRead s).station i = s.station i := congrArg (look · i) station
    have on : t.station i = lampsOf (contactsRead s) i (s.station i) := by
      rw [← looked, ← station_evalAllLamps]
      exact congrArg (look · i) lit
    rw [on]
    exact lampsOf_off (by rw [looked, session]) (by rw [looked, notice]) stock (fine i) _ minimum
  · rw [starting, units, orders, out] at rest
    exact rest

end Sys2Proof.Machine
end

section
/-! SUPPORT. The control words (R162, R172, R174, R175) and the strip (R164 to R169). -/

namespace Sys2Proof.Machine

/-! ## The acknowledgement of the unit records (R174) -/

/-- What the record of a unit is about. -/
inductive UnitPart
  | station (t : Station)
  | bay (y : Bay)
  | printer (q : Printer)
  | terminal (t : Terminal)
  | price (u : PriceUnit)

def unitPart (s : State) (n : UnitId) : UnitPart :=
  if h : n.val < 4 then .station (s.station ⟨n.val, h⟩)
  else if h : n.val < 8 then .bay (s.bay ⟨n.val - 4, by omega⟩)
  else if h : n.val < 10 then .printer (s.printer ⟨n.val - 8, by omega⟩)
  else if n.val = 10 then .terminal s.terminal
  else .price s.price

def UnitPart.ack : UnitPart → UnitPart
  | .station t => .station (ackStation t)
  | .bay y => .bay (ackBay y)
  | .printer q => .printer (ackPrinter q)
  | .terminal t => .terminal (ackTerminal t)
  | .price u => .price (ackPrice u)

theorem unitPart_ackUnit_same (n : UnitId) (s : State) : unitPart (ackUnit n s) n = (unitPart s n).ack := by
  unfold ackUnit unitPart
  (repeat' split) <;> simp [UnitPart.ack, State.onTerminal, State.onPrice]

theorem unitPart_ackUnit_ne {a b : UnitId} (ne : a ≠ b) (s : State) : unitPart (ackUnit a s) b = unitPart s b := by
  have differ : a.val ≠ b.val := fun h => ne (Fin.ext h)
  unfold ackUnit unitPart
  (repeat' split) <;> first | rfl | omega | skip
  · rw [station_onStation_ne _ (by simpa using differ)]
  · rw [bay_onBay_ne _ (by simp only [ne_eq, Fin.mk.injEq]; omega)]
  · rw [printer_onPrinter_ne _ (by simp only [ne_eq, Fin.mk.injEq]; omega)]

/-- R174: each unit whose bit is written 1 is acknowledged. -/
theorem unitPart_ackUnits (v : W32) (s : State) (n : UnitId) :
    unitPart (ackUnits v s) n = if v.getLsbD n.val then (unitPart s n).ack else unitPart s n := by
  have each := forEach_all (fun (n : UnitId) (u : State) => if v.getLsbD n.val then ackUnit n u else u) unitPart
    (fun n p => if v.getLsbD n.val then p.ack else p) (fun _ => True) (fun _ _ _ => trivial)
    (fun a u _ => by split <;> simp [unitPart_ackUnit_same])
    (fun a b u _ ne => by split <;> simp [unitPart_ackUnit_ne ne]) s trivial n
  exact each

theorem station_ackUnits (v : W32) (s : State) (i : StationId) :
    (ackUnits v s).station i = if v.getLsbD i.val then ackStation (s.station i) else s.station i := by
  have part := unitPart_ackUnits v s ⟨i.val, by omega⟩
  by_cases on : v.getLsbD i.val <;> simpa [unitPart, UnitPart.ack, on] using part

theorem bay_ackUnits (v : W32) (s : State) (b : BayId) :
    (ackUnits v s).bay b = if v.getLsbD (4 + b.val) then ackBay (s.bay b) else s.bay b := by
  have part := unitPart_ackUnits v s ⟨4 + b.val, by omega⟩
  have bay : ¬4 + b.val < 4 ∧ 4 + b.val < 8 := by omega
  by_cases on : v.getLsbD (4 + b.val) <;> simpa [unitPart, UnitPart.ack, on, bay] using part

theorem printer_ackUnits (v : W32) (s : State) (p : PrinterId) :
    (ackUnits v s).printer p = if v.getLsbD (8 + p.val) then ackPrinter (s.printer p) else s.printer p := by
  have part := unitPart_ackUnits v s ⟨8 + p.val, by omega⟩
  have printer : ¬8 + p.val < 4 ∧ ¬8 + p.val < 8 ∧ 8 + p.val < 10 := by omega
  by_cases on : v.getLsbD (8 + p.val) <;> simpa [unitPart, UnitPart.ack, on, printer] using part

theorem terminal_ackUnits (v : W32) (s : State) :
    (ackUnits v s).terminal = if v.getLsbD 10 then ackTerminal s.terminal else s.terminal := by
  have part := unitPart_ackUnits v s 10
  refine UnitPart.terminal.inj (part.trans ?_)
  rw [apply_ite UnitPart.terminal]
  rfl

theorem price_ackUnits (v : W32) (s : State) : (ackUnits v s).price = if v.getLsbD 11 then ackPrice s.price else s.price := by
  have part := unitPart_ackUnits v s 11
  refine UnitPart.price.inj (part.trans ?_)
  rw [apply_ite UnitPart.price]
  rfl

/-- R174: beside the records and their bits an acknowledgement changes nothing. -/
theorem ackUnits_rest (v : W32) (s : State) :
    { ackUnits v s with unitChanged := s.unitChanged, stations := s.stations, bays := s.bays, printers := s.printers, terminal := s.terminal,
                        price := s.price } = s := by
  refine (forEach_keeps
    (fun u : State => { u with unitChanged := s.unitChanged, stations := s.stations, bays := s.bays, printers := s.printers,
                               terminal := s.terminal, price := s.price })
    (fun (n : UnitId) (u : State) => if v.getLsbD n.val then ackUnit n u else u) (fun n u => ?_) (List.finRange 12) s :)
  unfold ackUnit
  (repeat' split) <;> rfl

theorem unitChanged_ackUnits (v : W32) (s : State) : (ackUnits v s).unitChanged = s.unitChanged &&& ~~~(v.setWidth 12) := by
  have same : (forEach (List.finRange 12) (fun (n : UnitId) (u : State) => if v.getLsbD n.val then ackUnit n u else u) s).unitChanged
      = s.unitChanged := forEach_keeps State.unitChanged _ (fun n u => by
    unfold ackUnit
    (repeat' split) <;> rfl) _ s
  exact congrArg (· &&& ~~~(v.setWidth 12)) same

/-! ## The interrupt check after a host write -/

theorem attnPending_iff (s : State) : attnPending s = true ↔ (attnFlags s &&& s.attnEnable) ≠ 0 := by
  simp [attnPending]

/-- R175, second case, in RUN and with the link up. -/
theorem interruptAfterWrite_messaged {s : State} (run : s.part = .run) (up : s.pcieUp = true) : interruptAfterWrite s = messaged s := by
  unfold interruptAfterWrite messaged
  by_cases pending : attnPending s = true
  · have flags := (attnPending_iff s).1 pending
    by_cases on : s.msiEnable = true
    · rw [if_pos pending, if_pos ⟨flags, on⟩]
      exact if_pos ⟨run, up, on⟩
    · rw [if_pos pending, if_neg fun both => on both.2]
      exact if_neg fun all => on all.2.2
  · rw [if_neg pending, if_neg fun both => pending ((attnPending_iff s).2 both.1)]

/-- Settles O13: the three words that are one field each, and the acknowledgement unit by unit. -/
theorem controlWordsTakeTheirWrites : Obligations.ControlWordsTakeTheirWrites := by
  refine ⟨fun v s run up => ⟨?_, ?_, ?_⟩, fun v s run up => ⟨ackUnits v s.quiet, ?_, unitChanged_ackUnits v s.quiet,
    station_ackUnits v s.quiet, bay_ackUnits v s.quiet, printer_ackUnits v s.quiet, terminal_ackUnits v s.quiet,
    price_ackUnits v s.quiet, ackUnits_rest v s.quiet⟩⟩
  · refine (controlWrite_next (clearAttn v) s run up).trans (congrArg _ ?_)
    exact interruptAfterWrite_messaged run up
  · refine (controlWrite_next (fun t => { t with attnEnable := v.setWidth 5 }) s run up).trans (congrArg _ ?_)
    exact interruptAfterWrite_messaged run up
  · refine (controlWrite_next (fun t => { t with orderChanged := t.orderChanged &&& ~~~v }) s run up).trans (congrArg _ ?_)
    exact interruptAfterWrite_messaged run up
  · refine (controlWrite_next (ackUnits v) s run up).trans (congrArg _ ?_)
    have rest := ackUnits_rest v s.quiet
    exact interruptAfterWrite_messaged ((congrArg State.part rest :).trans run) ((congrArg State.pcieUp rest :).trans up)

/-! ## The strip -/

/-- R115: a read that GIVE_BACK may reach is the active read of a bay. -/
theorem active_of_alternateRead {s : State} {n : SlotId} {b : BayId} {r : Read} (h : alternateRead s n = some (b, r)) :
    (s.bay b).active = some r ∧ r.slot = n ∧ r.mode = .alternate := by
  obtain ⟨a, -, found⟩ := List.exists_of_findSome?_eq_some h
  split at found
  case h_1 x active =>
    split at found
    case isTrue own =>
      cases found
      exact ⟨active, own⟩
    case isFalse => cases found
  case h_2 => cases found

/-- R168: a GIVE_BACK that no read of the slot takes is refused. -/
theorem giveBackSlot_refused {n : SlotId} {s : State}
    (refused : (s.slot n).state ≠ .taken
      ∨ ∀ b r, (s.bay b).active = some r → r.slot = n → r.mode = .alternate → r.filled ≤ r.givenBack) : giveBackSlot n s = misuse s := by
  unfold giveBackSlot
  split
  case h_1 b r found =>
    obtain ⟨active, own, mode⟩ := active_of_alternateRead found
    refine if_neg ?_
    rintro ⟨taken, room⟩
    obtain free | full := refused
    · exact free taken
    · exact absurd (full b r active own mode) (Nat.not_le.2 room)
  case h_2 => rfl

/-- R167: a CANCEL that meets a POSTED slot answers it, and the slot leaves the intake list. -/
theorem cancelPosted_answered (n : SlotId) (s : State) : cancelPosted n s = answered n (s.intake.filter (· != n)) .cancelled .none .zero s :=
  complete_takeSlot n (s.intake.filter (· != n)) .cancelled .none .zero s

/-- Settles O14: each strip write by the state of its slot. -/
theorem stripWritesActByTheSlotState : Obligations.StripWritesActByTheSlotState := by
  intro n s run up
  have host : ∀ f : State → State, EndsAs (hostEvent f s) (f s.quiet) := fun f => hostEvent_endsAs f s run up
  refine ⟨fun free => ?_, fun busy => ?_, fun done => ?_, fun open_ => ?_, fun posted => ?_, fun still => ?_, fun refused => ?_,
    fun _ => host misuse⟩
  · exact endsAs_congr (host (postSlot n)) (if_pos free)
  · exact endsAs_congr (host (postSlot n)) (if_neg busy)
  · exact endsAs_congr (host (releaseSlot n)) (if_pos done)
  · exact endsAs_congr (host (releaseSlot n)) (if_neg open_)
  · refine endsAs_congr (host (cancelSlot n)) (Eq.trans ?_ (cancelPosted_answered n s.quiet))
    unfold cancelSlot
    rw [show (s.quiet.slot n).state = .posted from posted]
  · refine hostEvent_none (cancelSlot n) s ?_
    unfold cancelSlot
    obtain free | done := still
    · rw [show (s.quiet.slot n).state = .free from free]
    · rw [show (s.quiet.slot n).state = .done from done]
  · exact endsAs_congr (host (giveBackSlot n)) (giveBackSlot_refused refused)

end Sys2Proof.Machine
end

section
/-! SUPPORT. The checks of a taking before its own: FORMAT, PRIVILEGE and NO_SUCH (R163, R170, R177), and the idle watch (R11). -/

namespace Sys2Proof.Machine

/-! ## The bytes of a canonical request part (R163) -/

/-- A listed byte is not zero, and it is the byte at its address. -/
theorem Mem.read_of_mem {l : List Host.Cell} (wf : Mem.wf l = true) {c : Host.Cell} (listed : c ∈ l) : Mem.read l c.1 = c.2 ∧ c.2 ≠ 0#8 := by
  induction l with
  | nil => cases listed
  | cons x rest ih =>
    obtain ⟨b, w⟩ := x
    obtain ⟨nonzero, above, wf⟩ := (Mem.wf_cons b w rest).1 wf
    obtain rfl | later := List.mem_cons.1 listed
    · exact ⟨if_pos rfl, nonzero⟩
    · refine ⟨?_, (ih wf later).2⟩
      have := above c later
      rw [Mem.read, if_neg (by omega), (ih wf later).1]

/-- A byte that is not zero is listed. -/
theorem Mem.mem_of_read {l : List Host.Cell} {a : Nat} (nonzero : Mem.read l a ≠ 0) : (a, Mem.read l a) ∈ l := by
  induction l with
  | nil => exact absurd rfl nonzero
  | cons x rest ih =>
    obtain ⟨b, w⟩ := x
    by_cases here : a = b
    · subst here
      simp [Mem.read]
    · simp only [Mem.read, if_neg here] at nonzero ⊢
      exact List.mem_cons_of_mem _ (ih nonzero)

/-! ## FORMAT (R170, first check) -/

theorem covers_iff (l : List (Nat × Nat)) (a : Nat) : covers l a = true ↔ ∃ f ∈ l, f.1 ≤ a ∧ a < f.1 + f.2 := by
  simp [covers, Prod.exists]

/-- R163, R184: a canonical request part has nothing in its reserved bytes. -/
theorem reservedZero_iff {k : Kind} {c : Slot} (wf : Mem.wf c.request = true) (bound : ∀ x ∈ c.request, x.1 < 384)
    {fields : List (Nat × Nat)} (same : ∀ f, f ∈ k.headerSpan ++ k.span c ↔ f ∈ fields) :
    reservedZero k c = true ↔ ∀ a, a < 384 → (∀ f ∈ fields, a < f.1 ∨ f.1 + f.2 ≤ a) → reqByte c a = 0 := by
  have free : ∀ a, (∀ f ∈ fields, a < f.1 ∨ f.1 + f.2 ≤ a) ↔ ¬ covers (k.headerSpan ++ k.span c) a = true := fun a => by
    rw [covers_iff]
    constructor
    · rintro outside ⟨f, mem, lo, hi⟩
      have := outside f ((same f).1 mem)
      omega
    · intro none f mem
      exact Classical.byContradiction fun inside => none ⟨f, (same f).2 mem, by omega, by omega⟩
  simp only [free]
  unfold reservedZero
  rw [List.all_eq_true]
  constructor
  · intro all a _ uncovered
    refine Classical.byContradiction fun nonzero => ?_
    have nonzero : Mem.read c.request a ≠ 0 := fun h => nonzero (by simp [reqByte, h])
    have good := all _ (Mem.mem_of_read nonzero)
    simp only [Bool.or_eq_true, beq_iff_eq] at good
    exact good.elim uncovered nonzero
  · intro zero x mem
    obtain ⟨value, nonzero⟩ := Mem.read_of_mem wf mem
    simp only [Bool.or_eq_true, beq_iff_eq]
    refine .inl (Classical.byContradiction fun uncovered => nonzero ?_)
    have := zero x.1 (bound x mem) uncovered
    rw [← value]
    exact BitVec.eq_of_toNat_eq this

/-- R184: the fields of header and kind, as the kinds of each form share them. -/
def requestFields (c : Slot) (k : Kind) : List (Nat × Nat) :=
  [(0, 2), (4, 4)] ++ (match k with
    | .openSession | .closeSession | .openOrder => [(2, 1)]
    | .addItem => [(16, 1), (20, 4), (24, 1), (25, 1), (26, 1), (32, 8), (40, 4)]
    | .changeItem => [(16, 1), (20, 4), (24, 1), (25, 1), (26, 1)]
    | .removeItem | .setPromo => [(16, 1), (20, 4), (24, 1)]
    | .quote | .pay | .cancelOrder | .retireOrder => [(16, 1), (20, 4)]
    | .readCard => [(2, 1), (16, 1), (17, 1), (18, 2), (20, 4), (24, 2), (32, 8)]
        ++ (if reqByte c 17 ≠ 1 then [(40, 4)] else []) ++ (if reqByte c 17 ≠ 0 then [(28, 4), (48, 8)] else [])
    | .loadPrices => [(16, 4), (24, 8), (32, 4)]
    | .setAperture => [(16, 1), (17, 1), (24, 8), (32, 8)]
    | .setTimers => [(16, 1), (20, 4), (24, 4), (28, 4), (32, 4)]
    | .shiftClose => []
    | .resetUnit | .printerService => [(16, 1), (17, 1)])

theorem mem_requestFields (c : Slot) (k : Kind) (f : Nat × Nat) : f ∈ k.headerSpan ++ k.span c ↔ f ∈ requestFields c k := by
  cases k
  case readCard =>
    simp only [requestFields, Kind.headerSpan, Kind.carriesStation, Kind.span, readSpan]
    by_cases single : reqByte c 17 = 0
    · simp [single]
      grind
    by_cases alternate : reqByte c 17 = 1
    · simp [alternate]
      grind
    · simp [single, alternate]
      grind
  all_goals
    simp [requestFields, Kind.headerSpan, Kind.carriesStation, Kind.span, handleSpan]
  all_goals grind

/-- R178, R179: the reserved bits inside a field. -/
theorem innerZero_iff (k : Kind) (c : Slot) :
    innerZero k c = true ↔ (k = .setTimers → reqByte c 16 < 16) ∧ (k = .resetUnit → reqByte c 16 = 3 → reqByte c 17 = 0) := by
  cases k <;> simp [innerZero, Decidable.imp_iff_not_or]

theorem formatGood_iff {k : Kind} {c : Slot} (wf : Mem.wf c.request = true) (bound : ∀ x ∈ c.request, x.1 < 384) :
    formatGood k c = true ↔
      (∀ a, a < 384 → (∀ f ∈ requestFields c k, a < f.1 ∨ f.1 + f.2 ≤ a) → reqByte c a = 0)
        ∧ (k = .setTimers → reqByte c 16 < 16) ∧ (k = .resetUnit → reqByte c 16 = 3 → reqByte c 17 = 0) := by
  unfold formatGood
  rw [Bool.and_eq_true, reservedZero_iff wf bound (mem_requestFields c k), innerZero_iff]

/-! ## The taking of a kind -/

/-- The work of each kind's taking, after FORMAT and PRIVILEGE. -/
def Kind.work : Kind → SlotId → State → State
  | .openSession => withStation openSessionWork
  | .closeSession => withStation closeSessionWork
  | .openOrder => withStation openOrderWork
  | .addItem => withOrder addItemWork
  | .changeItem => withOrder changeItemWork
  | .removeItem => withOrder removeItemWork
  | .setPromo => withOrder setPromoWork
  | .quote => withOrder quoteWork
  | .pay => withOrder payWork
  | .cancelOrder => withOrder cancelOrderWork
  | .retireOrder => withOrder retireOrderWork
  | .readCard => readCardTaken
  | .loadPrices => loadPricesWork
  | .setAperture => setApertureWork
  | .setTimers => setTimersWork
  | .shiftClose => shiftCloseWork
  | .resetUnit => resetUnitWork
  | .printerService => printerServiceWork

theorem exec_command (k : Kind) (s : State) : exec k.command s = event (taking k k.work) s := by
  cases k <;> rfl

/-- R170: a request with a bad format completes FORMAT. -/
theorem taking_endsAs_format {s : State} {k : Kind} {n : SlotId} {rest : List SlotId} (run : s.part = .run) (head : s.intake = n :: rest)
    (kind : kindCode (s.slot n) = k.code) (bad : formatGood k (s.slot n) = false) (work : SlotId → State → State) :
    EndsAs (event (taking k work) s) (answered n rest .format .none .zero s.quiet) := by
  refine endsAs_congr (event_endsAs _ s run) ?_
  have dispatched : taking k work s.quiet = dispatch k work n (takeSlot n rest s.quiet) := by
    rw [taking, show s.quiet.intake = n :: rest from head]
    exact if_pos kind
  have fails : formatGood k ((takeSlot n rest s.quiet).slot n) = false := (formatGood_takeSlot k n rest s.quiet).trans bad
  rw [dispatched, dispatch, if_pos fails, refuseSlot, complete_takeSlot]

theorem takeUnknown_answered {s : State} {n : SlotId} {rest : List SlotId} (head : s.intake = n :: rest)
    (unknown : ∀ k : Kind, kindCode (s.slot n) ≠ k.code) : takeUnknown s = answered n rest .format .none .zero s := by
  have none : ¬ (allKinds.any fun k => k.code == kindCode (s.slot n)) = true := by
    rw [List.any_eq_true]
    rintro ⟨k, -, same⟩
    exact unknown k (beq_iff_eq.1 same).symm
  simp only [takeUnknown, head]
  rw [if_neg none, refuseSlot, complete_takeSlot]

/-- Settles O15. -/
theorem formatAndPrivilegeComeFirst : Obligations.FormatAndPrivilegeComeFirst := by
  refine ⟨fun s n rest run head => ⟨fun unknown => ?_, fun k kind => ⟨fun bad => ?_, fun good service station => ?_⟩⟩,
    fun k c fields wf bound same => ?_⟩
  · exact endsAs_congr (event_endsAs takeUnknown s run) (takeUnknown_answered (s := s.quiet) head unknown)
  · rw [exec_command]
    exact taking_endsAs_format run head kind bad k.work
  · rw [exec_command]
    exact taking_endsAs_privilege run head kind good service station k.work
  · subst same
    exact formatGood_iff wf bound

/-! ## NO_SUCH (R170, third check) -/

/-- R163: a taking leaves the request part alone. -/
@[simp] theorem request_takeSlot (n : SlotId) (rest : List SlotId) (s : State) : ((takeSlot n rest s).slot n).request = (s.slot n).request := by
  rw [slot_takeSlot]

@[simp] theorem reqByte_takeSlot (n : SlotId) (rest : List SlotId) (s : State) (a : Nat) :
    reqByte ((takeSlot n rest s).slot n) a = reqByte (s.slot n) a := by simp only [reqByte, request_takeSlot]

@[simp] theorem reqField_takeSlot (n : SlotId) (rest : List SlotId) (s : State) (a m : Nat) :
    reqField ((takeSlot n rest s).slot n) a m = reqField (s.slot n) a m := by simp only [reqField, request_takeSlot]

@[simp] theorem stationField_takeSlot (n : SlotId) (rest : List SlotId) (s : State) :
    stationField ((takeSlot n rest s).slot n) = stationField (s.slot n) := reqByte_takeSlot n rest s 2

@[simp] theorem handleField_takeSlot (n : SlotId) (rest : List SlotId) (s : State) :
    handleField ((takeSlot n rest s).slot n) = handleField (s.slot n) := by simp only [handleField, reqByte_takeSlot, reqField_takeSlot]

/-- R171: a refusal of the slot just taken. -/
theorem refuseSlot_takeSlot (n : SlotId) (rest : List SlotId) (st : Status) (s : State) :
    refuseSlot n st (takeSlot n rest s) = answered n rest st .none .zero s := complete_takeSlot n rest st .none .zero s

/-- R1: a station that does not exist. -/
theorem withStation_noSuch {n : SlotId} {s : State} (absent : 3 < stationField (s.slot n)) (rest : List SlotId)
    (work : StationId → SlotId → State → State) :
    withStation work n (takeSlot n rest s) = answered n rest .noSuch .none .zero s := by
  unfold withStation
  rw [dif_neg (by rw [stationField_takeSlot]; omega), refuseSlot_takeSlot]

/-- R19: a handle that is not current. -/
theorem withOrder_noSuch {n : SlotId} {s : State} (stale : ∀ h, handleField (s.slot n) = some h → s.isCurrent h = false) (rest : List SlotId)
    (work : OrderId → SlotId → State → State) :
    withOrder work n (takeSlot n rest s) = answered n rest .noSuch .none .zero s := by
  unfold withOrder
  rw [handleField_takeSlot]
  split
  case h_1 h found =>
    have old : ¬ (takeSlot n rest s).isCurrent h = true := by
      rw [show (takeSlot n rest s).isCurrent h = s.isCurrent h from rfl, stale h found]
      exact Bool.false_ne_true
    rw [if_neg old, refuseSlot_takeSlot]
  case h_2 => exact refuseSlot_takeSlot n rest .noSuch s

/-- R170: a taking that passes the first two checks and whose work refuses. -/
theorem command_endsAs {s : State} {k : Kind} {n : SlotId} {rest : List SlotId} (hh : Heads s k n rest) {u : State}
    (work : k.work n (takeSlot n rest s.quiet) = u) : EndsAs (exec k.command s) u := by
  rw [exec_command]
  exact endsAs_congr (taking_endsAs hh k.work) work

/-! ## The idle watch (R11) -/

theorem restartSession_runs {k : SessionId} {s : State} (active : (s.session k).state = .active) (runs : (s.session k).deadline.isSome = true) :
    restartSession k s = s.onSession k fun e => { e with deadline := some (s.clock + BitVec.ofNat 32 s.timers.idle) } := if_pos ⟨active, runs⟩

theorem restartSession_stopped {k : SessionId} {s : State} (stopped : (s.session k).state ≠ .active ∨ (s.session k).deadline = none) :
    restartSession k s = s := by
  refine if_neg ?_
  rintro ⟨active, runs⟩
  obtain other | none := stopped
  · exact other active
  · simp [none] at runs

/-- Settles O16. -/
theorem thirdCheckAndIdleWatch : Obligations.ThirdCheckAndIdleWatch := by
  refine ⟨fun k s n rest hh => ⟨fun carries absent => ?_, fun names stale => ?_, ?_, ?_, ?_, ?_⟩, fun s => ⟨?_, ?_, ?_, ?_, ?_⟩⟩
  · refine command_endsAs hh ?_
    have station : ∀ work, withStation work n (takeSlot n rest s.quiet) = answered n rest .noSuch .none .zero s.quiet :=
      withStation_noSuch (s := s.quiet) absent rest
    cases k
    case openSession => exact station _
    case closeSession => exact station _
    case openOrder => exact station _
    case readCard =>
      show readCardTaken n _ = _
      unfold readCardTaken
      split
      · exact refuseSlot_takeSlot n rest .noSuch s.quiet
      · exact station _
    all_goals cases carries
  · refine command_endsAs hh ?_
    have order : ∀ work, withOrder work n (takeSlot n rest s.quiet) = answered n rest .noSuch .none .zero s.quiet :=
      withOrder_noSuch (s := s.quiet) stale rest
    cases k <;> first | (cases names; done) | exact order _
  · rintro rfl absent
    refine command_endsAs hh ((if_pos ?_).trans (refuseSlot_takeSlot n rest .noSuch s.quiet))
    rwa [reqByte_takeSlot]
  · rintro rfl absent
    refine command_endsAs hh ((dif_neg ?_).trans (refuseSlot_takeSlot n rest .noSuch s.quiet))
    rw [reqByte_takeSlot]
    exact Nat.not_lt.2 absent
  · rintro rfl absent
    refine command_endsAs hh ((dif_neg ?_).trans (refuseSlot_takeSlot n rest .noSuch s.quiet))
    rw [reqByte_takeSlot]
    exact Nat.not_lt.2 absent
  · rintro rfl absent
    refine command_endsAs hh (Eq.trans ?_ (refuseSlot_takeSlot n rest .noSuch s.quiet))
    simp only [Kind.work, resetUnitWork, reqByte_takeSlot]
    have byte : ∀ a, reqByte (s.quiet.slot n) a = reqByte (s.slot n) a := fun _ => rfl
    simp only [byte]
    obtain ⟨bay, number⟩ | ⟨printer, number⟩ := absent
    · rw [if_pos bay, dif_neg (by omega)]
    · rw [if_neg (by omega), if_pos printer, dif_neg (by omega)]
  · intro i k session active runs
    unfold restartForStation
    rw [session]
    exact restartSession_runs active runs
  · intro i k session stopped
    unfold restartForStation
    rw [session]
    exact restartSession_stopped stopped
  · intro i none
    unfold restartForStation
    rw [none]
  · intro o member active runs
    exact (if_pos member).trans (restartSession_runs active runs)
  · intro o stopped
    unfold restartForOrder
    split
    case isTrue member =>
      exact restartSession_stopped (stopped.resolve_left (by rw [member]; exact Bool.false_ne_true.symm))
    case isFalse => rfl

end Sys2Proof.Machine
end

section
/-! SUPPORT. Stations and sessions: the lamps (R15 to R17), OPEN_SESSION, CLOSE_SESSION and the idle expiry (R7, R9, R13), OPEN_ORDER (R22). -/

namespace Sys2Proof.Machine

/-- R11, R170: the report to the station controller does not see that a slot has been taken. -/
theorem restartForStation_takeSlot (i : StationId) (n : SlotId) (rest : List SlotId) (s : State) :
    restartForStation i (takeSlot n rest s) = takeSlot n rest (restartForStation i s) := by
  unfold restartForStation
  rw [show ((takeSlot n rest s).station i).session = (s.station i).session from rfl]
  cases (s.station i).session with
  | none => rfl
  | some k => exact restartSession_takeSlot k n rest s

/-- R170: a taking of a kind that carries a station completes with the work of its kind, on the slot taken. -/
theorem taking_withStation_endsAs {s : State} {k : Kind} {n : SlotId} {rest : List SlotId} {i : StationId} (hh : Heads s k n rest)
    (station : stationField (s.slot n) = i.val) (work : StationId → SlotId → State → State) :
    EndsAs (event (taking k (withStation work)) s) (work i n (takeSlot n rest (restartForStation i s.quiet))) := by
  have ⟨run, _⟩ := hh
  refine endsAs_congr (event_endsAs _ s run) ?_
  rw [taking_of_heads hh, withStation_of_station rest station, restartForStation_takeSlot]

/-- R11: without a session no watch restarts. -/
theorem restartForStation_none {i : StationId} {s : State} (none : (s.station i).session = none) : restartForStation i s = s := by
  unfold restartForStation
  rw [none]

/-- R11: what the report to the station controller changes is a deadline. -/
theorem restartForStation_rest (i : StationId) (s : State) : { restartForStation i s with sessions := s.sessions } = s := by
  unfold restartForStation restartSession
  (repeat' split) <;> rfl

theorem session_restartSession (k j : SessionId) (s : State) :
    ∃ d, (restartSession k s).session j = { s.session j with deadline := d } := by
  unfold restartSession
  split
  · rw [session_onSession]
    split
    · exact ⟨_, rfl⟩
    · exact ⟨_, rfl⟩
  · exact ⟨_, rfl⟩

theorem session_restartForStation (i : StationId) (j : SessionId) (s : State) :
    ∃ d, (restartForStation i s).session j = { s.session j with deadline := d } := by
  unfold restartForStation
  split
  · exact session_restartSession _ j s
  · exact ⟨_, rfl⟩

theorem openedAt_restartForStation (i : StationId) (j : SessionId) (s : State) :
    ((restartForStation i s).session j).openedAt = (s.session j).openedAt := by
  obtain ⟨d, same⟩ := session_restartForStation i j s
  rw [same]

theorem orders_restartForStation (i : StationId) (j : SessionId) (s : State) :
    ((restartForStation i s).session j).orders = (s.session j).orders := by
  obtain ⟨d, same⟩ := session_restartForStation i j s
  rw [same]

theorem station_restartForStation (i j : StationId) (s : State) : (restartForStation i s).station j = s.station j :=
  (congrArg (State.station · j) (restartForStation_rest i s) :)

@[simp] theorem order_restartForStation (i : StationId) (o : OrderId) (s : State) : (restartForStation i s).order o = s.order o :=
  (congrArg (State.order · o) (restartForStation_rest i s) :)

/-! ## OPEN_SESSION (R7) -/

/-- R17: an evaluation of the lamps does not see that a slot has been taken. -/
theorem evalLamps_takeSlot (i : StationId) (n : SlotId) (rest : List SlotId) (s : State) :
    evalLamps i (takeSlot n rest s) = takeSlot n rest (evalLamps i s) := rfl

/-- The lowest index that satisfies a condition. -/
theorem find?_finRange {n : Nat} {p : Fin n → Bool} {i : Fin n} (found : p i = true) (below : ∀ j, j < i → p j = false) :
    (List.finRange n).find? p = some i := by
  refine List.find?_eq_some_iff_getElem.2 ⟨found, i.val, by simp, by simp, fun j lt => ?_⟩
  simpa using below ⟨j, by omega⟩ lt

/-- R2: the lowest FREE entry. -/
theorem lowestFree_eq {s : State} {k : SessionId} (free : (s.session k).state = .free) (below : ∀ j, j < k → (s.session j).state ≠ .free) :
    lowestFree s = some k :=
  find?_finRange (by simp [free]) fun j lt => by simp [below j lt]

theorem openSessionAt_takeSlot (i : StationId) (k : SessionId) (n : SlotId) (rest : List SlotId) (s : State) :
    openSessionAt i k (takeSlot n rest s) = takeSlot n rest (openSessionAt i k s) := rfl

theorem lowestFree_none {s : State} (full : ∀ k, (s.session k).state ≠ .free) : lowestFree s = none := by
  simp [lowestFree, full]

/-- Settles O20. -/
theorem openSessionOpensOrRefuses : Obligations.OpenSessionOpensOrRefuses := by
  intro s n rest i hh station
  have ends := taking_withStation_endsAs hh station openSessionWork
  refine ⟨fun k session => endsAs_congr ends ?_, fun none full => endsAs_congr ends ?_, fun k none free below => endsAs_congr ends ?_⟩
  · have known : ((takeSlot n rest (restartForStation i s.quiet)).station i).session = some k :=
      (congrArg Station.session (station_restartForStation i i s.quiet)).trans session
    have opened : ((takeSlot n rest (restartForStation i s.quiet)).session k).openedAt = (s.session k).openedAt :=
      openedAt_restartForStation i k s.quiet
    rw [openSessionWork, known]
    simp only [opened]
    exact complete_takeSlot n rest _ _ _ _
  · rw [restartForStation_none (s := s.quiet) none]
    have known : ((takeSlot n rest s.quiet).station i).session = Option.none := none
    have noEntry : lowestFree (takeSlot n rest s.quiet) = Option.none := lowestFree_none (s := takeSlot n rest s.quiet) full
    rw [openSessionWork, known]
    simp only [noEntry]
    exact refuseSlot_takeSlot n rest _ _
  · rw [restartForStation_none (s := s.quiet) none]
    have known : ((takeSlot n rest s.quiet).station i).session = Option.none := none
    have entry : lowestFree (takeSlot n rest s.quiet) = some k := lowestFree_eq (s := takeSlot n rest s.quiet) free below
    rw [openSessionWork, known]
    simp only [entry]
    rw [openSessionAt_takeSlot, complete_takeSlot]
    rfl

/-! ## The lamps -/

theorem callCause_iff (s : State) (i : StationId) : s.callCause i = true ↔ (s.bay i).state = .faulted ∨ (s.station i).notice.isSome = true
    ∨ ∃ k, (s.station i).session = some k ∧ ∃ o ∈ (s.session k).orders, (s.order o).state = .held := by
  have held : s.orderHeld i = true ↔ ∃ k, (s.station i).session = some k ∧ ∃ o ∈ (s.session k).orders, (s.order o).state = .held := by
    unfold State.orderHeld
    cases (s.station i).session <;> simp
  simp only [State.callCause, Bool.or_eq_true, held, State.bayFaulted, State.payNotice, beq_iff_eq]
  rw [or_assoc, or_congr_right or_comm]

theorem someStock_iff (s : State) : someStock s = true ↔ 0 < s.usable 0 ∨ 0 < s.usable 1 := by simp [someStock]

/-- R15: the READY mode by session, stock and terminal. -/
theorem readyMode_of_session {s : State} {i : StationId} (session : (s.station i).session.isSome = true) : readyMode s i = .blink :=
  if_pos session

theorem readyMode_steady {s : State} {i : StationId} (none : (s.station i).session = none) (stock : 0 < s.usable 0 ∨ 0 < s.usable 1)
    (idle : s.terminal.state = .idle) : readyMode s i = .steady := by
  simp [readyMode, none, (someStock_iff s).2 stock, idle]

theorem readyMode_off {s : State} {i : StationId} (none : (s.station i).session = none)
    (dark : (s.usable 0 = 0 ∧ s.usable 1 = 0) ∨ s.terminal.state ≠ .idle) : readyMode s i = .off := by
  obtain empty | busy := dark
  · have stock : someStock s = false := by simp [someStock, empty]
    simp [readyMode, none, stock]
  · simp [readyMode, none, busy]

/-- R15: the READY lamp after an evaluation. -/
theorem ready_lampsOf (s : State) (i : StationId) (t : Station) :
    (lampsOf s i t).ready = readyMode s i
      ∧ (lampsOf s i t).blinkOn = (readyMode s i == .blink && (t.ready != .blink || t.blinkOn)) := by
  simp only [lampsOf]
  (repeat' split) <;> exact ⟨rfl, rfl⟩

/-- R16, R17: the CALL lamp after an evaluation. -/
theorem call_lampsOf (s : State) (i : StationId) (t : Station) :
    ((lampsOf s i t).call, (lampsOf s i t).minimumOn) =
      if s.callCause i = true then (if t.call = true then (t.call, t.minimumOn) else (true, some (s.after Config.minimumOnSeconds)))
      else if t.minimumOn.isSome = true then (t.call, t.minimumOn) else (false, t.minimumOn) := by
  simp only [lampsOf]
  (repeat' split) <;> simp_all

theorem lampsOf_rest (s : State) (i : StationId) (t : Station) :
    { lampsOf s i t with ready := .off, blinkOn := false, call := false, minimumOn := none }
      = { t with ready := .off, blinkOn := false, call := false, minimumOn := none } := by
  simp only [lampsOf]
  (repeat' split) <;> rfl

/-- An event that acts under a condition. -/
theorem event_if_endsAs {c : State → Prop} [∀ u, Decidable (c u)] {f : State → State} {s : State} (run : s.part = .run) (holds : c s.quiet) :
    EndsAs (event (fun u => if c u then f u else u) s) (f s.quiet) :=
  endsAs_congr (event_endsAs _ s run) (if_pos holds)

theorem event_if_none {c : State → Prop} [∀ u, Decidable (c u)] {f : State → State} {s : State} (fails : ¬ c s.quiet) :
    event (fun u => if c u then f u else u) s = .next s.quiet :=
  event_none _ s fun _ => if_neg fails

/-- Settles O23. -/
theorem lampsFollowTheirCauses : Obligations.LampsFollowTheirCauses := by
  refine ⟨fun i s => ⟨lampsOf s i (s.station i), ?_, fun session => ?_, fun none stock idle => ?_, fun none dark => ?_, fun cause unlit => ?_,
    fun cause lit => ?_, fun calm runs => ?_, fun calm stopped => ?_, callCause_iff s i, lampsOf_rest s i _⟩,
    fun i s run => ⟨fun runs => ?_, fun runs => ?_, fun blinks => ?_, fun stopped => ?_, fun stopped => ?_, fun still => ?_⟩⟩
  · exact congrArg (fun v => { s with stations := v }) (upd_congr _ _ _ _ rfl)
  · obtain ⟨ready, blink⟩ := ready_lampsOf s i (s.station i)
    rw [ready, blink, readyMode_of_session session]
    refine ⟨rfl, fun other => ?_, fun was => ?_⟩
    · simp [other]
    · simp [was]
  · rw [(ready_lampsOf s i _).1, readyMode_steady none stock idle]
  · rw [(ready_lampsOf s i _).1, readyMode_off none dark]
  · have call := call_lampsOf s i (s.station i)
    rw [if_pos cause, if_neg (by simp [unlit])] at call
    exact Prod.mk.inj call
  · have call := call_lampsOf s i (s.station i)
    rw [if_pos cause, if_pos lit] at call
    exact ⟨(Prod.mk.inj call).1.trans lit, (Prod.mk.inj call).2⟩
  · have call := call_lampsOf s i (s.station i)
    rw [if_neg (by simp [calm]), if_pos runs] at call
    exact Prod.mk.inj call
  · have call := call_lampsOf s i (s.station i)
    rw [if_neg (by simp [calm]), if_neg (by simp [stopped])] at call
    exact ⟨(Prod.mk.inj call).1, (Prod.mk.inj call).2.trans stopped⟩
  · exact event_if_endsAs (c := fun u => (u.station i).notice.isSome = true)
      (f := fun t => evalLamps i (t.onStation i fun e => { e with notice := none })) run runs
  · exact event_if_endsAs (c := fun u => (u.station i).minimumOn.isSome = true)
      (f := fun t => evalLamps i (t.onStation i fun e => { e with minimumOn := none })) run runs
  · exact event_if_endsAs (c := fun u => (u.station i).ready = .blink) (f := fun t => t.onStation i fun e => { e with blinkOn := !e.blinkOn })
      run blinks
  · refine event_if_none (c := fun u => (u.station i).notice.isSome = true)
      (f := fun t => evalLamps i (t.onStation i fun e => { e with notice := none })) fun runs => ?_
    simp [stopped, show (s.quiet.station i).notice = (s.station i).notice from rfl] at runs
  · refine event_if_none (c := fun u => (u.station i).minimumOn.isSome = true)
      (f := fun t => evalLamps i (t.onStation i fun e => { e with minimumOn := none })) fun runs => ?_
    simp [stopped, show (s.quiet.station i).minimumOn = (s.station i).minimumOn from rfl] at runs
  · exact event_if_none (c := fun u => (u.station i).ready = .blink) (f := fun t => t.onStation i fun e => { e with blinkOn := !e.blinkOn })
      still

end Sys2Proof.Machine
end

section
/-! SUPPORT. The settling reads of the state at the start of an event what the host sees and the free room: a taking and the restart of a watch
do not show there. And CLOSE_SESSION, the idle expiry (R9, R13). -/

namespace Sys2Proof.Machine

/-- R42, R72, R173: what the settling reads of the state before. -/
def Alike (b c : State) : Prop :=
  (∀ n, unitRecord b false n = unitRecord c false n) ∧ (∀ o, orderRecord b false o = orderRecord c false o) ∧ ∀ p, b.freeRoom p = c.freeRoom p

theorem Alike.refl (b : State) : Alike b b := ⟨fun _ => rfl, fun _ => rfl, fun _ => rfl⟩

theorem Alike.symm {b c : State} (h : Alike b c) : Alike c b :=
  ⟨fun n => (h.1 n).symm, fun o => (h.2.1 o).symm, fun p => (h.2.2 p).symm⟩

theorem Alike.trans {b c d : State} (h : Alike b c) (k : Alike c d) : Alike b d :=
  ⟨fun n => (h.1 n).trans (k.1 n), fun o => (h.2.1 o).trans (k.2.1 o), fun p => (h.2.2 p).trans (k.2.2 p)⟩

theorem markChanges_of_alike {b c : State} (h : Alike b c) (u : State) : markChanges b u = markChanges c u := by
  obtain ⟨units, orders, -⟩ := h
  simp only [markChanges, unitDiff, orderDiff, units, orders]

/-- R173: the settling from alike states is the same. -/
theorem settle_of_alike {b c : State} (h : Alike b c) (u : State) : settle b u = settle c u := by
  have scan : ∀ t, (if roomGrew b t = true then scanHeld t else t) = if roomGrew c t = true then scanHeld t else t := fun t => by
    rw [show roomGrew b t = roomGrew c t by simp only [roomGrew, h.2.2]]
  have released : releaseBoth (noteChanges b u) = releaseBoth (noteChanges c u) := by simp only [noteChanges, markChanges_of_alike h]
  refine congrArg (fun t => evalAllLamps (grantLoop (arbiter (beginCheck 1 (beginCheck 0 t))))) ((scan _).trans ?_)
  rw [released]

/-- R170: slots and intake list are not read. -/
theorem alike_takeSlot (n : SlotId) (rest : List SlotId) (s : State) : Alike (takeSlot n rest s) s := ⟨fun _ => rfl, fun _ => rfl, fun _ => rfl⟩

/-- R11: the same session but for the time its deadline gives. -/
def SameWatch (c d : Session) : Prop := c = { d with deadline := c.deadline } ∧ c.deadline.isSome = d.deadline.isSome

theorem sameWatch_restartSession (k j : SessionId) (s : State) : SameWatch ((restartSession k s).session j) (s.session j) := by
  unfold restartSession
  split
  case isTrue runs =>
    rw [session_onSession]
    split
    case isTrue own =>
      subst own
      exact ⟨rfl, runs.2.symm⟩
    case isFalse => exact ⟨rfl, rfl⟩
  case isFalse => exact ⟨rfl, rfl⟩

theorem restartSession_rest (k : SessionId) (s : State) : { restartSession k s with sessions := s.sessions } = s := by
  unfold restartSession
  split <;> rfl

/-- R173: the remaining time of an idle watch is a countdown field. -/
theorem stationRecord_of_sameWatch {b c : State} (rest : { b with sessions := c.sessions } = c)
    (sessions : ∀ j, SameWatch (b.session j) (c.session j)) (i : StationId) : stationRecord b false i = stationRecord c false i := by
  have stations : b.stations = c.stations := (congrArg State.stations rest :)
  have bays : b.bays = c.bays := (congrArg State.bays rest :)
  have orders : b.orders = c.orders := (congrArg State.orders rest :)
  have fields : ∀ j, (b.session j).orders = (c.session j).orders ∧ (b.session j).openedAt = (c.session j).openedAt
      ∧ (b.session j).deadline.isSome = (c.session j).deadline.isSome := fun j => by
    obtain ⟨same, runs⟩ := sessions j
    exact ⟨(congrArg Session.orders same :), (congrArg Session.openedAt same :), runs⟩
  have station : b.station i = c.station i := congrArg (look · i) stations
  have bay : b.bay i = c.bay i := congrArg (look · i) bays
  have order : ∀ o, b.order o = c.order o := fun o => congrArg (look · o) orders
  cases none : (c.station i).session with
  | none => simp [stationRecord, watchCode, State.bayFaulted, State.orderHeld, State.payNotice, station, bay, none, orZero]
  | some k =>
    obtain ⟨list, openedAt, runs⟩ := fields k
    have count : b.nonFinalCount k = c.nonFinalCount k := by simp only [State.nonFinalCount, list, order]
    simp [stationRecord, watchCode, State.bayFaulted, State.orderHeld, State.payNotice, station, bay, none, list, openedAt, runs, count, order,
      orZero]

theorem alike_of_sameWatch {b c : State} (rest : { b with sessions := c.sessions } = c)
    (sessions : ∀ j, SameWatch (b.session j) (c.session j)) : Alike b c := by
  refine ⟨fun n => ?_, fun o => ?_, fun p => ?_⟩
  · unfold unitRecord
    split
    · exact stationRecord_of_sameWatch rest sessions _
    · (repeat' split)
      · exact (congrArg (fun u : State => bayRecord u false _) rest :)
      · exact (congrArg (fun u : State => printerRecord u false _) rest :)
      · exact (congrArg (fun u : State => terminalRecord u false) rest :)
      · exact (congrArg (fun u : State => priceRecord u) rest :)
  · exact (congrArg (fun u : State => orderRecord u false o) rest :)
  · exact (congrArg (fun u : State => u.freeRoom p) rest :)

/-- R11: the restart of a watch does not show. -/
theorem alike_restartSession (k : SessionId) (s : State) : Alike (restartSession k s) s :=
  alike_of_sameWatch (restartSession_rest k s) fun j => sameWatch_restartSession k j s

theorem alike_restartForStation (i : StationId) (s : State) : Alike (restartForStation i s) s := by
  unfold restartForStation
  split
  · exact alike_restartSession _ s
  · exact Alike.refl s

theorem alike_restartForOrder (o : OrderId) (s : State) : Alike (restartForOrder o s) s := by
  unfold restartForOrder
  split
  · exact alike_restartSession _ s
  · exact Alike.refl s

/-! ## The takings as they stand -/

theorem event_next (f : State → State) {s : State} (run : s.part = .run) : event f s = .next (closeEvent s.quiet (f s.quiet)) :=
  congrArg _ (if_pos run)

/-- R170: a taking of a kind that carries a station. -/
theorem taking_withStation_next {s : State} {k : Kind} {n : SlotId} {rest : List SlotId} {i : StationId} (hh : Heads s k n rest)
    (station : stationField (s.slot n) = i.val) (work : StationId → SlotId → State → State) :
    event (taking k (withStation work)) s = .next (closeEvent s.quiet (work i n (takeSlot n rest (restartForStation i s.quiet)))) := by
  have ⟨run, _⟩ := hh
  rw [event_next _ run, taking_of_heads hh, withStation_of_station rest station, restartForStation_takeSlot]

/-- R170: a taking of a kind that names an order. -/
theorem taking_withOrder_next {s : State} {k : Kind} {n : SlotId} {rest : List SlotId} {o : OrderId} (hh : Heads s k n rest)
    (hn : Names s n o) (work : OrderId → SlotId → State → State) :
    event (taking k (withOrder work)) s = .next (closeEvent s.quiet (work o n (takeSlot n rest (restartForOrder o s.quiet)))) := by
  have ⟨run, _⟩ := hh
  rw [event_next _ run, taking_of_heads hh, withOrder_of_names rest hn, restartForOrder_takeSlot]

theorem alike_takenForStation (i : StationId) (n : SlotId) (rest : List SlotId) (s : State) :
    Alike (takeSlot n rest (restartForStation i s)) s := (alike_takeSlot n rest _).trans (alike_restartForStation i s)

theorem alike_takenForOrder (o : OrderId) (n : SlotId) (rest : List SlotId) (s : State) :
    Alike (takeSlot n rest (restartForOrder o s)) s := (alike_takeSlot n rest _).trans (alike_restartForOrder o s)

/-- R11: what a taking that carries a station leaves alone of the sessions, orders and bays. -/
theorem takenForStation (i : StationId) (k : SessionId) (n : SlotId) (rest : List SlotId) (s : State) :
    ((takeSlot n rest (restartForStation i s)).station i).session = (s.station i).session
      ∧ ((takeSlot n rest (restartForStation i s)).session k).orders = (s.session k).orders
      ∧ (∀ o, (takeSlot n rest (restartForStation i s)).order o = s.order o)
      ∧ ∀ b, (takeSlot n rest (restartForStation i s)).bay b = s.bay b :=
  ⟨congrArg Station.session (station_restartForStation i i s), orders_restartForStation i k s, fun o => order_restartForStation i o s,
    fun b => (congrArg (State.bay · b) (restartForStation_rest i s) :)⟩

/-- A taking whose work settles from the moment the slot was taken settles from the start of the event. -/
theorem thenSettles_of_alike {r : Result} {before b u : State} (next : r = .next (closeEvent before (settle b u))) (h : Alike b before) :
    ThenSettles r before u := by
  rw [ThenSettles, next, settle_of_alike h]

/-! ## CLOSE_SESSION and the idle expiry (R9, R13) -/

/-- R9: the first order of the session's list in PAYING. -/
theorem payingOrder_eq {s : State} {k : SessionId} {before after : List OrderId} {o : OrderId}
    (list : (s.session k).orders = before ++ o :: after) (first : ∀ x ∈ before, (s.order x).state ≠ .paying)
    (paying : (s.order o).state = .paying) : payingOrder s k = some o := by
  unfold payingOrder
  rw [list, List.find?_append, List.find?_eq_none.2 fun x mem => by simpa using first x mem, List.find?_cons]
  simp [paying]

theorem payingOrder_none {s : State} {k : SessionId} (free : ∀ o ∈ (s.session k).orders, (s.order o).state ≠ .paying) :
    payingOrder s k = none := by
  unfold payingOrder
  exact List.find?_eq_none.2 fun x mem => by simpa using free x mem

/-- Settles O22. -/
theorem sessionsCloseByHostOrIdle : Obligations.SessionsCloseByHostOrIdle := by
  refine ⟨fun s n rest i hh station => ⟨fun none => ?_, fun k before o after session list first paying => ?_,
    fun k session free => ⟨_, rfl, ?_⟩⟩, fun k s run active runs => ?_⟩
  · refine endsAs_congr (taking_withStation_endsAs hh station closeSessionWork) ?_
    rw [restartForStation_none (s := s.quiet) none, closeSessionWork, show ((takeSlot n rest s.quiet).station i).session = Option.none from none]
    exact complete_takeSlot n rest _ _ _ _
  · refine endsAs_congr (taking_withStation_endsAs hh station closeSessionWork) ?_
    obtain ⟨known, orders, order, -⟩ := takenForStation i k n rest s.quiet
    rw [closeSessionWork, known.trans session]
    have found := payingOrder_eq (s := takeSlot n rest (restartForStation i s.quiet)) (orders.trans list)
      (fun x mem => fun e => first x mem ((congrArg Order.state (order x)).symm.trans e)) ((congrArg Order.state (order o)).trans paying)
    simp only [found, order]
    exact complete_takeSlot n rest _ _ _ _
  · rw [restartForStation_takeSlot]
    refine thenSettles_of_alike ((taking_withStation_next hh station closeSessionWork).trans (congrArg _ (congrArg _ ?_)))
      (alike_takenForStation i n rest s.quiet)
    obtain ⟨known, orders, order, bay⟩ := takenForStation i k n rest s.quiet
    rw [closeSessionWork, known.trans session]
    have notPaying := payingOrder_none (s := takeSlot n rest (restartForStation i s.quiet)) (k := k) fun x mem => by
      rw [order]
      exact free x (orders ▸ mem)
    have listed : cancellable (takeSlot n rest (restartForStation i s.quiet)) k
        = (s.session k).orders.filter fun o => (s.order o).state == .draft || (s.order o).state == .priced := by
      simp only [cancellable, orders, order]
      rfl
    have reads : (takeSlot n rest (restartForStation i s.quiet)).bay i = s.bay i := bay i
    simp only [notPaying, listed, reads]
  · refine (event_next (idleExpires k) run).trans (congrArg _ (congrArg _ ?_))
    exact if_pos ⟨active, runs⟩

end Sys2Proof.Machine
end

section
/-! SUPPORT. The takings of the order requests up to QUOTE (R19, R22 to R28). -/

namespace Sys2Proof.Machine

/-! ## OPEN_ORDER (R22) -/

theorem lowestFreeOrder_eq {s : State} {o : OrderId} (free : (s.order o).state = .free) (below : ∀ x, x < o → (s.order x).state ≠ .free) :
    lowestFreeOrder s = some o :=
  find?_finRange (by simp [free]) fun j lt => by simp [below j lt]

theorem lowestFreeOrder_none {s : State} (full : ∀ o, (s.order o).state ≠ .free) : lowestFreeOrder s = none := by
  simp [lowestFreeOrder, full]

/-- A condition that one index meets before a change and no longer after it. -/
theorem length_filter_finRange_change {n : Nat} (p q : Fin n → Bool) (i : Fin n) (was : p i = true) (now : q i = false)
    (others : ∀ j, j ≠ i → q j = p j) : ((List.finRange n).filter q).length + 1 = ((List.finRange n).filter p).length := by
  have split : ((List.finRange n).filter p).Perm (i :: (List.finRange n).filter q) := by
    refine (List.perm_ext_iff_of_nodup ((List.nodup_finRange n).filter _) ?_).2 fun j => ?_
    · exact List.nodup_cons.2 ⟨by simp [now], (List.nodup_finRange n).filter _⟩
    · by_cases e : j = i
      · simp [e, was]
      · simp [e, others j e]
  rw [split.length_eq]
  rfl

/-- R22: a new order takes one FREE record. -/
theorem freeOrders_createOrder {s : State} {o : OrderId} (free : (s.order o).state = .free) (i : StationId) (k : SessionId) :
    freeOrders (createOrder i k o s) + 1 = ((List.finRange 32).filter fun x => (s.order x).state == .free).length := by
  have created : ∀ x, (createOrder i k o s).order x = if o = x then
      { Order.reset with state := .draft, serial := s.orderSerial, station := i, session := k, openedAt := s.clock } else s.order x :=
    fun x => order_onOrder s o x _
  refine length_filter_finRange_change (fun x => (s.order x).state == .free) (fun x => ((createOrder i k o s).order x).state == .free) o
    (by simp [free]) (by simp [created]) fun x ne => ?_
  simp [created, Ne.symm ne]

theorem createOrder_takeSlot (i : StationId) (k : SessionId) (o : OrderId) (n : SlotId) (rest : List SlotId) (s : State) :
    createOrder i k o (takeSlot n rest s) = takeSlot n rest (createOrder i k o s) := rfl

/-- R22 case by case. -/
theorem openOrderWork_noSession {i : StationId} {u : State} (none : (u.station i).session = none) (n : SlotId) :
    openOrderWork i n u = complete n .state .noSession .zero u := by
  simp only [openOrderWork, none]

theorem openOrderWork_limit {i : StationId} {k : SessionId} {u : State} (session : (u.station i).session = some k)
    (limit : 2 ≤ u.nonFinalCount k) (n : SlotId) : openOrderWork i n u = complete n .state .orderLimit .zero u := by
  simp only [openOrderWork, session]
  exact if_pos limit

theorem openOrderWork_full {i : StationId} {k : SessionId} {u : State} (session : (u.station i).session = some k)
    (room : u.nonFinalCount k < 2) (full : ∀ o, (u.order o).state ≠ .free) (n : SlotId) :
    openOrderWork i n u = refuseSlot n .tableFull u := by
  simp only [openOrderWork, session, lowestFreeOrder_none full]
  exact if_neg (Nat.not_le.2 room)

theorem openOrderWork_creates {i : StationId} {k : SessionId} {o : OrderId} {u : State} (session : (u.station i).session = some k)
    (room : u.nonFinalCount k < 2) (free : (u.order o).state = .free) (below : ∀ x, x < o → (u.order x).state ≠ .free) (n : SlotId) :
    openOrderWork i n u =
      complete n .ok .none (.openOrder { index := o, serial := u.orderSerial } k (freeOrders (createOrder i k o u))) (createOrder i k o u) := by
  simp only [openOrderWork, session, lowestFreeOrder_eq free below]
  exact if_neg (Nat.not_le.2 room)

/-- What the restart of a station's watch leaves alone of the clock and of the serial counter. -/
theorem serial_restartForStation (i : StationId) (s : State) :
    (restartForStation i s).orderSerial = s.orderSerial ∧ (restartForStation i s).clock = s.clock :=
  ⟨(congrArg State.orderSerial (restartForStation_rest i s) :), (congrArg State.clock (restartForStation_rest i s) :)⟩

/-- Settles O24. -/
theorem openOrderCreatesOrRefuses : Obligations.OpenOrderCreatesOrRefuses := by
  intro s n rest i hh station
  have ends := taking_withStation_endsAs hh station openOrderWork
  refine ⟨fun none => endsAs_congr ends ?_, fun k session => ?_⟩
  · rw [restartForStation_none (s := s.quiet) none, openOrderWork_noSession (u := takeSlot n rest s.quiet) none]
    exact complete_takeSlot n rest _ _ _ _
  obtain ⟨known, orders, order, -⟩ := takenForStation i k n rest s.quiet
  have count : (takeSlot n rest (restartForStation i s.quiet)).nonFinalCount k = s.nonFinalCount k := by
    simp only [State.nonFinalCount, orders, order]
    rfl
  have state : ∀ o, ((takeSlot n rest (restartForStation i s.quiet)).order o).state = (s.order o).state := fun o =>
    congrArg Order.state (order o)
  refine ⟨fun limit => endsAs_congr ends ?_, fun room full => endsAs_congr ends ?_, fun o room free below =>
    ⟨freeOrders (createOrder i k o (restartForStation i s.quiet)), endsAs_congr ends ?_, ?_⟩⟩
  · rw [openOrderWork_limit (known.trans session) (count ▸ limit)]
    exact complete_takeSlot n rest _ _ _ _
  · rw [openOrderWork_full (known.trans session) (count ▸ room) fun o => fun e => full o ((state o).symm.trans e)]
    exact refuseSlot_takeSlot n rest _ _
  · rw [openOrderWork_creates (known.trans session) (count ▸ room) ((state o).trans free) fun x lt e => below x lt ((state x).symm.trans e),
      createOrder_takeSlot, complete_takeSlot]
    obtain ⟨serial, clock⟩ := serial_restartForStation i s.quiet
    rw [show (takeSlot n rest (restartForStation i s.quiet)).orderSerial = s.orderSerial from serial]
    refine congrArg (answered n rest .ok .none _) ?_
    unfold createOrder nextSerial
    rw [serial, clock]
    rfl
  · have free := (state o).trans free
    have counted := freeOrders_createOrder (s := restartForStation i s.quiet) free i k
    simp only [order_restartForStation] at counted
    exact counted

/-! ## The takings that name an order -/

/-- R11: what the report changes is a deadline. -/
theorem restartForOrder_rest (o : OrderId) (s : State) : { restartForOrder o s with sessions := s.sessions } = s := by
  unfold restartForOrder
  split
  · exact restartSession_rest _ s
  · rfl

/-- What a taking that names an order leaves alone. -/
theorem takenForOrder (o : OrderId) (n : SlotId) (rest : List SlotId) (s : State) :
    { takeSlot n rest (restartForOrder o s) with sessions := s.sessions, slots := s.slots, intake := s.intake } = s := by
  have rest := restartForOrder_rest o s
  exact (congrArg (fun u : State => { u with sessions := s.sessions, slots := s.slots, intake := s.intake }) rest :)

theorem order_takenForOrder (o : OrderId) (n : SlotId) (rest : List SlotId) (s : State) (x : OrderId) :
    (takeSlot n rest (restartForOrder o s)).order x = s.order x := order_restartForOrder o s x

/-- R11: the report leaves the request part alone. -/
theorem slot_restartForOrder (o : OrderId) (n : SlotId) (s : State) : (restartForOrder o s).slot n = s.slot n :=
  (congrArg (State.slot · n) (restartForOrder_rest o s) :)

theorem reqByte_takenForOrder (o : OrderId) (n : SlotId) (rest : List SlotId) (s : State) (a : Nat) :
    reqByte ((takeSlot n rest (restartForOrder o s)).slot n) a = reqByte (s.slot n) a := by
  rw [reqByte_takeSlot, slot_restartForOrder]

theorem reqField_takenForOrder (o : OrderId) (n : SlotId) (rest : List SlotId) (s : State) (a m : Nat) :
    reqField ((takeSlot n rest (restartForOrder o s)).slot n) a m = reqField (s.slot n) a m := by
  rw [reqField_takeSlot, slot_restartForOrder]

/-- R170: a STATE refusal carries the order's state. -/
theorem refuseState_takeSlot (o : OrderId) (n : SlotId) (rest : List SlotId) (s : State) :
    refuseState o n (takeSlot n rest s) = answered n rest .state .none (.orderState (s.order o).state) s :=
  complete_takeSlot n rest .state .none _ s

theorem refuseState_takenForOrder (o : OrderId) (n : SlotId) (rest : List SlotId) (s : State) :
    refuseState o n (takeSlot n rest (restartForOrder o s))
      = answered n rest .state .none (.orderState (s.order o).state) (restartForOrder o s) := by
  rw [refuseState_takeSlot, order_restartForOrder]

/-- R170: how a taking that names an order ends, by its work on the slot taken. -/
theorem order_endsAs {s : State} {k : Kind} {n : SlotId} {rest : List SlotId} {o : OrderId} (hh : Heads s k n rest) (hn : Names s n o)
    {work : OrderId → SlotId → State → State} (kind : k.work = withOrder work) {u : State}
    (done : work o n (takeSlot n rest (restartForOrder o s.quiet)) = u) : EndsAs (exec k.command s) u := by
  rw [exec_command, kind]
  exact endsAs_congr (taking_withOrder_endsAs hh hn work) done

theorem order_thenSettles {s : State} {k : Kind} {n : SlotId} {rest : List SlotId} {o : OrderId} (hh : Heads s k n rest) (hn : Names s n o)
    {work : OrderId → SlotId → State → State} (kind : k.work = withOrder work) {u : State}
    (done : work o n (takeSlot n rest (restartForOrder o s.quiet)) = settle (takeSlot n rest (restartForOrder o s.quiet)) u) :
    ThenSettles (exec k.command s) s.quiet u := by
  rw [exec_command, kind]
  exact thenSettles_of_alike ((taking_withOrder_next hh hn work).trans (congrArg _ (congrArg _ done))) (alike_takenForOrder o n rest s.quiet)

/-! ## Edits (R23 to R27) -/

theorem editable_iff (r : Order) : editable r = true ↔ r.state = .draft ∨ r.state = .priced := by simp [editable]

theorem editable_false {r : Order} (notDraft : r.state ≠ .draft) (notPriced : r.state ≠ .priced) : editable r = false := by
  simp [editable, notDraft, notPriced]

/-- R23: an applied edit, as one change of the record. -/
theorem applyEdit_eq_edited (o : OrderId) (f : Order → Order) (s : State) : applyEdit o f s = edited o f s := by
  unfold applyEdit edited
  simp only []
  split
  case isTrue priced =>
    simp only [toDraft, State.onOrder, State.markOrder, upd_upd]
    congr 1
    exact upd_congr _ _ _ _ (congrArg f (if_pos priced).symm)
  case isFalse other =>
    simp only [State.onOrder, State.markOrder]
    congr 1
    exact upd_congr _ _ _ _ (congrArg f (if_neg other).symm)

theorem edited_takeSlot (o : OrderId) (f : Order → Order) (n : SlotId) (rest : List SlotId) (s : State) :
    edited o f (takeSlot n rest s) = takeSlot n rest (edited o f s) := rfl

/-- R23, R171: an edit of a slot just taken, answered. -/
theorem complete_applyEdit_takeSlot (o : OrderId) (f : Order → Order) (n : SlotId) (rest : List SlotId) (body : Body) (s : State) :
    complete n .ok .none body (applyEdit o f (takeSlot n rest s)) = answered n rest .ok .none body (edited o f s) := by
  rw [applyEdit_eq_edited, edited_takeSlot, complete_takeSlot]

/-- R24: the fields of a request, checked in order. -/
theorem itemFields?_size {u : State} {c : Slot} (bad : 3 < reqByte c 24) : itemFields? u c = .error 0 := by
  unfold itemFields? sizeOfCode
  split
  · rfl
  case h_2 size code => split at code <;> first | omega | cases code

theorem sizeOfCode_sizeCode (z : Size) : sizeOfCode (sizeCode z) = some z := by cases z <;> rfl

theorem finishOfCode_finishCode (f : Finish) : finishOfCode (finishCode f) = some f := by cases f <;> rfl

theorem finishOfCode_none {v : Nat} (bad : 1 < v) : finishOfCode v = none := by
  unfold finishOfCode
  split <;> first | omega | rfl

theorem finishOfCode_some {v : Nat} (good : v ≤ 1) : ∃ f, finishOfCode v = some f := by
  match v, good with
  | 0, _ => exact ⟨_, rfl⟩
  | 1, _ => exact ⟨_, rfl⟩

theorem quantityGood_iff (v : Nat) : quantityGood v = true ↔ 1 ≤ v ∧ v ≤ 99 := by simp [quantityGood]

theorem quantityGood_false {v : Nat} (bad : v = 0 ∨ 99 < v) : quantityGood v = false := by
  simp [quantityGood]
  omega

theorem itemFields?_finish {u : State} {c : Slot} {size : Size} (code : reqByte c 24 = sizeCode size) (bad : 1 < reqByte c 25) :
    itemFields? u c = .error 1 := by
  simp only [itemFields?, code, sizeOfCode_sizeCode, finishOfCode_none bad]

theorem itemFields?_quantity {u : State} {c : Slot} {size : Size} {finish : Finish} (code : reqByte c 24 = sizeCode size)
    (paper : reqByte c 25 = finishCode finish) (bad : reqByte c 26 = 0 ∨ 99 < reqByte c 26) : itemFields? u c = .error 2 := by
  simp only [itemFields?, code, sizeOfCode_sizeCode, paper, finishOfCode_finishCode]
  exact if_pos (quantityGood_false bad)

theorem itemFields?_length {u : State} {c : Slot} {size : Size} {finish : Finish} (code : reqByte c 24 = sizeCode size)
    (paper : reqByte c 25 = finishCode finish) (few : 1 ≤ reqByte c 26) (most : reqByte c 26 ≤ 99)
    (bad : reqField c 40 4 ≠ rasterBytes size) : itemFields? u c = .error 3 := by
  simp only [itemFields?, code, sizeOfCode_sizeCode, paper, finishOfCode_finishCode, (quantityGood_iff _).2 ⟨few, most⟩]
  exact if_pos bad

theorem itemFields?_noAperture {u : State} {c : Slot} {size : Size} {finish : Finish} (code : reqByte c 24 = sizeCode size)
    (paper : reqByte c 25 = finishCode finish) (few : 1 ≤ reqByte c 26) (most : reqByte c 26 ≤ 99)
    (length : reqField c 40 4 = rasterBytes size) (none : u.findAperture .read (reqField c 32 8) (rasterBytes size) = none) :
    itemFields? u c = .error 4 := by
  simp only [itemFields?, code, sizeOfCode_sizeCode, paper, finishOfCode_finishCode, (quantityGood_iff _).2 ⟨few, most⟩, none]
  exact (if_neg Bool.noConfusion).trans (if_neg (Classical.not_not.2 length))

theorem itemFields?_ok {u : State} {c : Slot} {size : Size} {finish : Finish} {a : ApertureId} (code : reqByte c 24 = sizeCode size)
    (paper : reqByte c 25 = finishCode finish) (few : 1 ≤ reqByte c 26) (most : reqByte c 26 ≤ 99)
    (length : reqField c 40 4 = rasterBytes size) (found : u.findAperture .read (reqField c 32 8) (rasterBytes size) = some a) :
    itemFields? u c = .ok { size := size, finish := finish, quantity := reqByte c 26, address := reqField c 32 8, aperture := a } := by
  simp only [itemFields?, code, sizeOfCode_sizeCode, paper, finishOfCode_finishCode, (quantityGood_iff _).2 ⟨few, most⟩, found]
  exact (if_neg Bool.noConfusion).trans (if_neg (Classical.not_not.2 length))

/-- R24 case by case. -/
theorem addItemWork_badField {o : OrderId} {n : SlotId} {u : State} {field : Nat} (bad : itemFields? u (u.slot n) = .error field) :
    addItemWork o n u = complete n .range .none (.badField field) u := by
  simp only [addItemWork, bad]

theorem addItemWork_state {o : OrderId} {n : SlotId} {u : State} {i : NewItem} (good : itemFields? u (u.slot n) = .ok i)
    (notDraft : (u.order o).state ≠ .draft) (notPriced : (u.order o).state ≠ .priced) : addItemWork o n u = refuseState o n u := by
  simp only [addItemWork, good]
  exact if_pos (editable_false notDraft notPriced)

theorem addItemWork_full {o : OrderId} {n : SlotId} {u : State} {i : NewItem} (good : itemFields? u (u.slot n) = .ok i)
    (edit : (u.order o).state = .draft ∨ (u.order o).state = .priced) (full : 24 ≤ (u.order o).items.length) :
    addItemWork o n u = refuseSlot n .tableFull u := by
  simp only [addItemWork, good, (editable_iff _).2 edit]
  exact (if_neg Bool.noConfusion).trans (if_pos full)

theorem addItemWork_adds {o : OrderId} {n : SlotId} {u : State} {i : NewItem} (good : itemFields? u (u.slot n) = .ok i)
    (edit : (u.order o).state = .draft ∨ (u.order o).state = .priced) (room : (u.order o).items.length < 24) :
    addItemWork o n u = settle u (complete n .ok .none (.addItem (u.order o).items.length ((u.order o).items.length + 1))
      (applyEdit o (fun r => { r with items := r.items ++ [freshItem i] }) u)) := by
  simp only [addItemWork, good, (editable_iff _).2 edit]
  exact (if_neg Bool.noConfusion).trans (if_neg (Nat.not_le.2 room))

/-- Settles O25. -/
theorem addItemAppendsAPendingItem : Obligations.AddItemAppendsAPendingItem := by
  intro s n rest o hh hn
  have byte := reqByte_takenForOrder o n rest s.quiet
  have field := reqField_takenForOrder o n rest s.quiet
  have order : ∀ x, (takeSlot n rest (restartForOrder o s.quiet)).order x = s.order x := order_takenForOrder o n rest s.quiet
  have aperture : ∀ d x m, (takeSlot n rest (restartForOrder o s.quiet)).findAperture d x m = s.findAperture d x m := fun d x m =>
    (congrArg (fun u : State => u.findAperture d x m) (takenForOrder o n rest s.quiet) :)
  have bad : ∀ {field}, itemFields? (takeSlot n rest (restartForOrder o s.quiet)) ((takeSlot n rest (restartForOrder o s.quiet)).slot n)
      = .error field → EndsAs (exec .addItem s) (answered n rest .range .none (.badField field) (restartForOrder o s.quiet)) := fun e =>
    order_endsAs hh hn rfl ((addItemWork_badField e).trans (complete_takeSlot n rest _ _ _ _))
  refine ⟨fun code => bad (itemFields?_size (Nat.lt_of_lt_of_eq code (byte 24).symm)), fun size code => ?_⟩
  have code := (byte 24).trans code
  refine ⟨fun paper => bad (itemFields?_finish code (Nat.lt_of_lt_of_eq paper (byte 25).symm)), fun finish paper => ?_⟩
  have paper := (byte 25).trans paper
  refine ⟨fun count => bad (itemFields?_quantity code paper ?_), fun few most => ?_⟩
  · rwa [byte]
  have few := Nat.lt_of_lt_of_eq few (byte 26).symm
  have most := Nat.le_trans (Nat.le_of_eq (byte 26)) most
  refine ⟨fun length => bad (itemFields?_length code paper few most (fun e => length ((field 40 4).symm.trans e))), fun length => ?_⟩
  have length := (field 40 4).trans length
  refine ⟨fun none => bad (itemFields?_noAperture code paper few most length ?_), fun a found => ?_⟩
  · rw [field, aperture]
    exact none
  have good := itemFields?_ok code paper few most length (a := a) (by rw [field, aperture]; exact found)
  refine ⟨fun ⟨notDraft, notPriced⟩ => ?_, fun edit => ⟨fun full => ?_, fun room => ?_⟩⟩
  · refine order_endsAs hh hn rfl ((addItemWork_state good ?_ ?_).trans (refuseState_takenForOrder o n rest s.quiet)) <;> rwa [order]
  · refine order_endsAs hh hn rfl ((addItemWork_full good ?_ ?_).trans (refuseSlot_takeSlot n rest _ _)) <;> rwa [order]
  · refine order_thenSettles hh hn rfl ((addItemWork_adds good ?_ ?_).trans ?_)
    · rwa [order]
    · rwa [order]
    · rw [complete_applyEdit_takeSlot, order, byte, field]
      rfl

/-! ### CHANGE_ITEM, REMOVE_ITEM and SET_PROMO (R25 to R27) -/

theorem changeItemWork_position {o : OrderId} {n : SlotId} {u : State} (bad : (u.order o).items.length ≤ reqByte (u.slot n) 24) :
    changeItemWork o n u = refuseSlot n .range u := by
  simp only [changeItemWork, List.getElem?_eq_none bad]

theorem changeItemWork_finish {o : OrderId} {n : SlotId} {u : State} (bad : 1 < reqByte (u.slot n) 25) :
    changeItemWork o n u = refuseSlot n .range u := by
  simp only [changeItemWork, finishOfCode_none bad]
  cases (u.order o).items[reqByte (u.slot n) 24]? <;> rfl

theorem changeItemWork_quantity {o : OrderId} {n : SlotId} {u : State} (bad : reqByte (u.slot n) 26 = 0 ∨ 99 < reqByte (u.slot n) 26) :
    changeItemWork o n u = refuseSlot n .range u := by
  simp only [changeItemWork]
  split
  · exact if_pos (quantityGood_false bad)
  · rfl

theorem changeItemWork_state {o : OrderId} {n : SlotId} {u : State} {i : Item} {finish : Finish}
    (item : (u.order o).items[reqByte (u.slot n) 24]? = some i) (paper : finishOfCode (reqByte (u.slot n) 25) = some finish)
    (few : 1 ≤ reqByte (u.slot n) 26) (most : reqByte (u.slot n) 26 ≤ 99)
    (refused : editable (u.order o) = false ∨ i.state = .unprintable) : changeItemWork o n u = refuseState o n u := by
  simp only [changeItemWork, item, paper, (quantityGood_iff _).2 ⟨few, most⟩]
  exact (if_neg Bool.noConfusion).trans (if_pos refused)

theorem changeItemWork_changes {o : OrderId} {n : SlotId} {u : State} {i : Item} {finish : Finish}
    (item : (u.order o).items[reqByte (u.slot n) 24]? = some i) (paper : finishOfCode (reqByte (u.slot n) 25) = some finish)
    (few : 1 ≤ reqByte (u.slot n) 26) (most : reqByte (u.slot n) 26 ≤ 99)
    (edit : (u.order o).state = .draft ∨ (u.order o).state = .priced) (printable : i.state ≠ .unprintable) :
    changeItemWork o n u = settle u (complete n .ok .none .zero (applyEdit o (fun r =>
      { r with items := r.items.modify (reqByte (u.slot n) 24) fun x => { x with quantity := reqByte (u.slot n) 26, finish := finish } }) u)) := by
  simp only [changeItemWork, item, paper, (quantityGood_iff _).2 ⟨few, most⟩]
  refine (if_neg Bool.noConfusion).trans (if_neg ?_)
  rintro (other | dead)
  · rw [(editable_iff _).2 edit] at other
    cases other
  · exact printable dead

theorem removeItemWork_position {o : OrderId} {n : SlotId} {u : State} (bad : (u.order o).items.length ≤ reqByte (u.slot n) 24) :
    removeItemWork o n u = refuseSlot n .range u := if_pos bad

theorem removeItemWork_state {o : OrderId} {n : SlotId} {u : State} (good : reqByte (u.slot n) 24 < (u.order o).items.length)
    (refused : editable (u.order o) = false) : removeItemWork o n u = refuseState o n u :=
  (if_neg (Nat.not_le.2 good)).trans (if_pos refused)

theorem removeItemWork_removes {o : OrderId} {n : SlotId} {u : State} (good : reqByte (u.slot n) 24 < (u.order o).items.length)
    (edit : (u.order o).state = .draft ∨ (u.order o).state = .priced) :
    removeItemWork o n u = settle u (complete n .ok .none (.itemCount ((u.order o).items.length - 1))
      (applyEdit o (fun r => { r with items := r.items.eraseIdx (reqByte (u.slot n) 24) }) u)) :=
  (if_neg (Nat.not_le.2 good)).trans (if_neg (by simp [(editable_iff _).2 edit]))

theorem promotionOfCode_none {v : Nat} (high : 16 ≤ v) (named : v ≠ 0xFF) : promotionOfCode v = none :=
  (if_neg (Nat.not_lt.2 high)).trans (if_neg named)

theorem promotionOfCode_some {v : Nat} (good : v < 16 ∨ v = 0xFF) : ∃ p, promotionOfCode v = some p := by
  obtain low | all := good
  · exact ⟨_, if_pos low⟩
  · exact ⟨none, by rw [all]; rfl⟩

theorem setPromoWork_range {o : OrderId} {n : SlotId} {u : State} (bad : promotionOfCode (reqByte (u.slot n) 24) = none) :
    setPromoWork o n u = refuseSlot n .range u := by
  simp only [setPromoWork, bad]

theorem setPromoWork_state {o : OrderId} {n : SlotId} {u : State} {p : Option Nat} (good : promotionOfCode (reqByte (u.slot n) 24) = some p)
    (refused : editable (u.order o) = false) : setPromoWork o n u = refuseState o n u := by
  simp only [setPromoWork, good]
  exact if_pos refused

theorem setPromoWork_sets {o : OrderId} {n : SlotId} {u : State} {p : Option Nat} (good : promotionOfCode (reqByte (u.slot n) 24) = some p)
    (edit : (u.order o).state = .draft ∨ (u.order o).state = .priced) :
    setPromoWork o n u = settle u (complete n .ok .none .zero (applyEdit o (fun r => { r with promotion := p }) u)) := by
  simp only [setPromoWork, good]
  exact if_neg (by simp [(editable_iff _).2 edit])

/-- A list with one member changed, by its position. -/
theorem modify_eq_set {α : Type} {l : List α} {k : Nat} {i : α} (item : l[k]? = some i) (f : α → α) : l.modify k f = l.set k (f i) := by
  induction l generalizing k with
  | nil => exact absurd item (by simp)
  | cons x rest ih =>
    cases k with
    | zero =>
      obtain rfl : x = i := by simpa using item
      rfl
    | succ k => rw [List.modify_succ_cons, List.set_cons_succ, ih (by simpa using item)]

/-- Two edits that agree on the record at hand. -/
theorem edited_congr {o : OrderId} {f g : Order → Order} {s : State} (same : f (backToDraft (s.order o)) = g (backToDraft (s.order o))) :
    edited o f s = edited o g s := by
  unfold edited State.onOrder
  rw [upd_congr _ _ (fun r => f (backToDraft r)) (fun r => g (backToDraft r)) same]

theorem items_backToDraft (r : Order) : (backToDraft r).items = r.items := by
  unfold backToDraft
  split <;> rfl

/-- Settles O26. -/
theorem editsReturnToDraftAndApply : Obligations.EditsReturnToDraftAndApply := by
  intro s n rest o hn edit
  have byte := reqByte_takenForOrder o n rest s.quiet
  have order : ∀ x, (takeSlot n rest (restartForOrder o s.quiet)).order x = s.order x := order_takenForOrder o n rest s.quiet
  have edit' : ((takeSlot n rest (restartForOrder o s.quiet)).order o).state = .draft
      ∨ ((takeSlot n rest (restartForOrder o s.quiet)).order o).state = .priced := by rwa [order]
  refine ⟨fun i finish hh item printable paper few most => ?_, fun hh position => ?_, fun hh low => ?_, fun hh all => ?_⟩
  · refine order_thenSettles hh hn rfl ((changeItemWork_changes (i := i) (finish := finish) ?_ ?_ (Nat.lt_of_lt_of_eq few (byte 26).symm)
      (Nat.le_trans (Nat.le_of_eq (byte 26)) most) edit' printable).trans ?_)
    · rw [order, byte]
      exact item
    · rw [byte]
      exact (congrArg finishOfCode paper).trans (finishOfCode_finishCode finish)
    · rw [complete_applyEdit_takeSlot, byte, byte]
      refine congrArg _ (congrArg _ (edited_congr ?_))
      rw [items_backToDraft, order_restartForOrder,
        modify_eq_set (l := (s.quiet.order o).items) (k := reqByte (s.quiet.slot n) 24) item]
      rfl
  · refine order_thenSettles hh hn rfl ((removeItemWork_removes ?_ edit').trans ?_)
    · rw [order, byte]
      exact position
    · rw [complete_applyEdit_takeSlot, order, byte]
      rfl
  · refine order_thenSettles hh hn rfl ((setPromoWork_sets (p := some (reqByte (s.slot n) 24)) ?_ edit').trans ?_)
    · rw [byte]
      exact if_pos low
    · rw [complete_applyEdit_takeSlot]
  · refine order_thenSettles hh hn rfl ((setPromoWork_sets (p := none) ?_ edit').trans ?_)
    · rw [byte, show reqByte (s.quiet.slot n) 24 = 0xFF from all]
      rfl
    · rw [complete_applyEdit_takeSlot]

/-- Settles O27: each request by the check that fails. -/
theorem orderRequestsRefuseStateAndRange : Obligations.OrderRequestsRefuseStateAndRange := by
  intro k s n rest o hh hn
  have byte := reqByte_takenForOrder o n rest s.quiet
  have order : ∀ x, (takeSlot n rest (restartForOrder o s.quiet)).order x = s.order x := order_takenForOrder o n rest s.quiet
  have range := refuseSlot_takeSlot n rest .range (restartForOrder o s.quiet)
  have state := refuseState_takenForOrder o n rest s.quiet
  refine ⟨?_, ?_, ?_, fun notDraft notPriced => ?_, ?_, ?_⟩
  · rintro rfl bad
    refine order_endsAs hh hn rfl (Eq.trans ?_ range)
    obtain position | paper | count := bad
    · exact changeItemWork_position (by rw [order, byte]; exact position)
    · exact changeItemWork_finish (by rw [byte]; exact paper)
    · exact changeItemWork_quantity (by rw [byte]; exact count)
  · rintro rfl bad
    exact order_endsAs hh hn rfl ((removeItemWork_position (by rw [order, byte]; exact bad)).trans range)
  · rintro rfl high named
    exact order_endsAs hh hn rfl ((setPromoWork_range (by rw [byte]; exact promotionOfCode_none high named)).trans range)
  · have refused : editable ((takeSlot n rest (restartForOrder o s.quiet)).order o) = false := by
      rw [order]
      exact editable_false notDraft notPriced
    rintro (⟨rfl, position⟩ | ⟨rfl, named⟩ | ⟨rfl, position, paper, few, most⟩)
    · exact order_endsAs hh hn rfl ((removeItemWork_state (by rw [order, byte]; exact position) refused).trans state)
    · obtain ⟨p, good⟩ := promotionOfCode_some named
      exact order_endsAs hh hn rfl ((setPromoWork_state (by rw [byte]; exact good) refused).trans state)
    · obtain ⟨finish, known⟩ := finishOfCode_some paper
      refine order_endsAs hh hn rfl ((changeItemWork_state (i := (s.order o).items[reqByte (s.slot n) 24]) ?_ (by rw [byte]; exact known)
        (Nat.lt_of_lt_of_eq few (byte 26).symm) (Nat.le_trans (Nat.le_of_eq (byte 26)) most) (.inl refused)).trans state)
      rw [order, byte]
      exact List.getElem?_eq_getElem position
  · rintro i rfl item dead paper few most
    obtain ⟨finish, known⟩ := finishOfCode_some paper
    refine order_endsAs hh hn rfl ((changeItemWork_state (i := i) ?_ (by rw [byte]; exact known) (Nat.lt_of_lt_of_eq few (byte 26).symm)
      (Nat.le_trans (Nat.le_of_eq (byte 26)) most) (.inr dead)).trans state)
    rw [order, byte]
    exact item
  · rintro (⟨rfl, other⟩ | ⟨rfl, other⟩ | ⟨rfl, late⟩)
    · exact order_endsAs hh hn rfl (Eq.trans (if_pos (by rwa [order])) state)
    · exact order_endsAs hh hn rfl (Eq.trans (if_pos (by rwa [order])) state)
    · refine order_endsAs hh hn rfl (Eq.trans ?_ state)
      have none : cancelOrder o (takeSlot n rest (restartForOrder o s.quiet)) = none := by
        unfold cancelOrder
        rw [order]
        obtain paying | settling | closed | cancelled := late
        · rw [paying]
        · rw [settling]
        · rw [closed]
        · rw [cancelled]
      simp only [cancelOrderWork, none]

end Sys2Proof.Machine
end

section
/-! SUPPORT. QUOTE, PAY, CANCEL_ORDER, the settlement trigger and the quote hold (R28 to R30, R34, R35, R37, R38, R64). -/

namespace Sys2Proof.Machine

/-! ## The choice rule (R67) -/

theorem choosePrinter_some {s : State} {need : Nat} {p : PrinterId} : s.choosePrinter need = some p ↔ need ≤ s.freeRoom p
    ∧ (need ≤ s.freeRoom (otherPrinter p) →
      s.freeRoom (otherPrinter p) < s.freeRoom p ∨ (s.freeRoom (otherPrinter p) = s.freeRoom p ∧ p = 0)) := by
  have two : ∀ q : PrinterId, q = 0 ∨ q = 1 := by decide
  unfold State.choosePrinter
  obtain rfl | rfl := two p
  · simp only [otherPrinter, if_true]
    (repeat' split) <;> simp <;> omega
  · simp only [otherPrinter, show ¬(1 : PrinterId) = 0 by decide, if_false]
    (repeat' split) <;> simp <;> omega

theorem choosePrinter_none {s : State} {need : Nat} : s.choosePrinter need = none ↔ s.freeRoom 0 < need ∧ s.freeRoom 1 < need := by
  unfold State.choosePrinter
  (repeat' split) <;> simp <;> omega

/-! ## QUOTE (R28) -/

theorem findIdx?_first {α : Type} {p : α → Bool} {before after : List α} {x : α} (none : ∀ y ∈ before, p y = false) (found : p x = true) :
    (before ++ x :: after).findIdx? p = some before.length := by
  rw [List.findIdx?_append, List.findIdx?_eq_none_iff.2 none, List.findIdx?_cons, found]
  simp

theorem findIdx?_none {α : Type} {p : α → Bool} {l : List α} (none : ∀ y ∈ l, p y = false) : l.findIdx? p = Option.none :=
  List.findIdx?_eq_none_iff.2 none

section Quote
variable {o : OrderId} {n : SlotId} {u : State} (draft : (u.order o).state = .draft)
include draft

theorem quoteWork_empty (empty : (u.order o).items = []) : quoteWork o n u = refuseSlot n .range u :=
  (if_neg (Classical.not_not.2 draft)).trans (if_pos empty)

theorem quoteWork_unprintable {position : Nat} (items : (u.order o).items ≠ [])
    (dead : ((u.order o).items.findIdx? fun i => i.state == .unprintable) = some position) :
    quoteWork o n u = complete n .range .none (.quoteItem position) u := by
  simp only [quoteWork, dead]
  exact (if_neg (Classical.not_not.2 draft)).trans (if_neg items)

theorem quoteWork_computed (items : (u.order o).items ≠ [])
    (alive : ((u.order o).items.findIdx? fun i => i.state == .unprintable) = none) :
    (∀ position, quoteComputation u.price.table (u.order o).items (u.order o).promotion = .noPrice position →
        quoteWork o n u = complete n .noPrice .none (.quoteItem position) u)
      ∧ (∀ total, quoteComputation u.price.table (u.order o).items (u.order o).promotion = .tooLarge total →
        quoteWork o n u = complete n .tooLarge .none (.quoteTooLarge total) u)
      ∧ ∀ prices, quoteComputation u.price.table (u.order o).items (u.order o).promotion = .priced prices →
        (u.choosePrinter (quoteUnits (u.order o).items) = none →
            quoteWork o n u = complete n .noMedia .none (.quoteNoMedia (quoteUnits (u.order o).items)) u)
          ∧ ∀ p, u.choosePrinter (quoteUnits (u.order o).items) = some p →
            quoteWork o n u = complete n .ok .none (.quoted prices p (quoteUnits (u.order o).items)) (priceOrder o prices p u) := by
  have pass : quoteWork o n u = (match quoteComputation u.price.table (u.order o).items (u.order o).promotion with
      | .noPrice position => complete n .noPrice .none (.quoteItem position) u
      | .tooLarge total => complete n .tooLarge .none (.quoteTooLarge total) u
      | .priced prices =>
        match u.choosePrinter (quoteUnits (u.order o).items) with
        | none => complete n .noMedia .none (.quoteNoMedia (quoteUnits (u.order o).items)) u
        | some p => complete n .ok .none (.quoted prices p (quoteUnits (u.order o).items)) (priceOrder o prices p u)) := by
    simp only [quoteWork, alive]
    exact (if_neg (Classical.not_not.2 draft)).trans (if_neg items)
  refine ⟨fun position known => ?_, fun total known => ?_, fun prices known => ⟨fun none => ?_, fun p found => ?_⟩⟩
  · rw [pass, known]
  · rw [pass, known]
  · rw [pass, known, none]
  · rw [pass, known, found]

end Quote

theorem priceOrder_takeSlot (o : OrderId) (prices : FixedPrices) (p : PrinterId) (n : SlotId) (rest : List SlotId) (s : State) :
    priceOrder o prices p (takeSlot n rest s) = takeSlot n rest (priceOrder o prices p s) := rfl

/-- R28, R68: pricing and placing, as one change of the record. -/
theorem priceOrder_eq (o : OrderId) (prices : FixedPrices) (p : PrinterId) (s : State) :
    priceOrder o prices p s =
      { (s.onOrder o fun r =>
          { r with state := .priced, prices := some prices, placement := some p, draftReason := none, quotedAt := some s.clock,
                   stamp := s.quoteSequence, hold := .running (s.clock + BitVec.ofNat 32 s.timers.quoteHold) }) with
        quoteSequence := s.quoteSequence + 1 } := by
  simp only [priceOrder, placeQuoted, State.onOrder, upd_upd]
  rfl

theorem quoteComputation_noPrice {t : PriceTable} {items : List Item} {position : Nat} (missing : firstNotOffered t items = some position)
    (promotion : Option Nat) : quoteComputation t items promotion = .noPrice position := by
  simp only [quoteComputation, missing]

theorem quoteComputation_offered {t : PriceTable} {items : List Item} (offered : ∀ x ∈ items, (sizeEntry t x.size).offered = true)
    (promotion : Option Nat) : quoteComputation t items promotion =
      if 9999999 < (fixedPrices t items promotion).total then .tooLarge (fixedPrices t items promotion).total
      else .priced (fixedPrices t items promotion) := by
  have none : firstNotOffered t items = none := findIdx?_none fun x mem => by simp [offered x mem]
  simp only [quoteComputation, none]
  rfl

/-- Settles O28. -/
theorem quotePricesAndPlaces : Obligations.QuotePricesAndPlaces := by
  intro s n rest o hh hn draft
  have order : ∀ x, (takeSlot n rest (restartForOrder o s.quiet)).order x = s.order x := order_takenForOrder o n rest s.quiet
  have table : (takeSlot n rest (restartForOrder o s.quiet)).price.table = s.price.table :=
    (congrArg (fun u : State => u.price.table) (takenForOrder o n rest s.quiet) :)
  have room : ∀ p, (takeSlot n rest (restartForOrder o s.quiet)).freeRoom p = s.freeRoom p := fun p =>
    (congrArg (fun u : State => u.freeRoom p) (takenForOrder o n rest s.quiet) :)
  have taken := (congrArg Order.state (order o)).trans draft
  refine ⟨fun empty => ?_, fun before i after list dead alive => ?_, fun before i after list alive noPrice priced => ?_,
    fun items good => ⟨fun large => ?_, fun small => ⟨fun full0 full1 => ?_, fun p fits best => ?_⟩⟩⟩
  · exact order_endsAs hh hn rfl ((quoteWork_empty taken ((congrArg Order.items (order o)).trans empty)).trans (refuseSlot_takeSlot n rest _ _))
  · refine order_endsAs hh hn rfl ((quoteWork_unprintable taken (position := before.length) ?_ ?_).trans (complete_takeSlot n rest _ _ _ _))
    · simp [order, list]
    · rw [order, list]
      exact findIdx?_first (fun y mem => by simpa using alive y mem) (by simp [dead])
  · have listed : (s.order o).items ≠ [] := by simp [list]
    obtain ⟨priceless, -, -⟩ := quoteWork_computed (n := n) taken (by rwa [order])
      (findIdx?_none fun x mem => by simpa using alive x (by rwa [order] at mem))
    refine order_endsAs hh hn rfl ((priceless before.length (quoteComputation_noPrice ?_ _)).trans (complete_takeSlot n rest _ _ _ _))
    rw [order, table, firstNotOffered, list]
    exact findIdx?_first (fun y mem => by simp [priced y mem]) (by simp [noPrice])
  all_goals
    obtain ⟨-, large, placed⟩ := quoteWork_computed (n := n) taken (by rwa [order])
      (findIdx?_none fun x mem => by simpa using (good x (by rwa [order] at mem)).1)
    rw [order, table, quoteComputation_offered fun x mem => (good x mem).2] at large placed
  · exact order_endsAs hh hn rfl ((large _ (if_pos ‹_›)).trans (complete_takeSlot n rest _ _ _ _))
  · obtain ⟨noMedia, -⟩ := placed _ (if_neg (Nat.not_lt.2 small))
    refine order_endsAs hh hn rfl ((noMedia (choosePrinter_none.2 ?_)).trans (complete_takeSlot n rest _ _ _ _))
    simp only [room]
    exact ⟨full0, full1⟩
  · obtain ⟨-, chosen⟩ := placed _ (if_neg (Nat.not_lt.2 small))
    refine order_endsAs hh hn rfl ((chosen p (choosePrinter_some.2 ?_)).trans ?_)
    · simp only [room]
      exact ⟨fits, best⟩
    · have rest := restartForOrder_rest o s.quiet
      have clock : (restartForOrder o s.quiet).clock = s.clock := (congrArg State.clock rest :)
      have timers : (restartForOrder o s.quiet).timers = s.timers := (congrArg State.timers rest :)
      have stamp : (restartForOrder o s.quiet).quoteSequence = s.quoteSequence := (congrArg State.quoteSequence rest :)
      rw [priceOrder_takeSlot, complete_takeSlot, priceOrder_eq, clock, timers, stamp]

/-! ## PAY (R30, R132) -/

theorem stationPaying_iff (s : State) (o : OrderId) :
    stationPaying s o = true ↔ ∃ x, x ≠ o ∧ (s.order x).state = .paying ∧ (s.order x).station = (s.order o).station := by
  simp [stationPaying, and_assoc]

section Pay
variable {o : OrderId} {n : SlotId} {u : State} (priced : (u.order o).state = .priced)
include priced

theorem payWork_busy (busy : stationPaying u o = true) : payWork o n u = refuseSlot n .busy u :=
  (if_neg (Classical.not_not.2 priced)).trans (if_pos busy)

theorem payWork_nothing (alone : ¬ stationPaying u o = true) (nothing : orderTotal (u.order o) = 0) :
    payWork o n u = settle u (refuseSlot n .ok (payNothing o u)) :=
  (if_neg (Classical.not_not.2 priced)).trans ((if_neg alone).trans (if_pos nothing))

theorem payWork_noTerminal (alone : ¬ stationPaying u o = true) (some : 0 < orderTotal (u.order o))
    (away : u.terminal.state = .absent ∨ u.terminal.state = .offline) : payWork o n u = refuseSlot n .noTerminal u :=
  (if_neg (Classical.not_not.2 priced)).trans ((if_neg alone).trans ((if_neg (Nat.ne_of_gt some)).trans (if_pos away)))

theorem payWork_accepts (alone : ¬ stationPaying u o = true) (some : 0 < orderTotal (u.order o))
    (here : ¬ (u.terminal.state = .absent ∨ u.terminal.state = .offline)) : payWork o n u = settle u (acceptPay o n u) :=
  (if_neg (Classical.not_not.2 priced)).trans ((if_neg alone).trans ((if_neg (Nat.ne_of_gt some)).trans (if_neg here)))

end Pay

/-- R12, R132: an accepted PAY of an order in its ACTIVE session's list. -/
theorem acceptPay_eq {o : OrderId} {u : State} (active : (u.session (u.order o).session).state = .active)
    (member : (u.session (u.order o).session).orders.contains o = true) (n : SlotId) :
    acceptPay o n u = ((u.onOrder o fun r => { r with state := .paying, hold := .stopped }).onSession (u.order o).session fun e =>
      { e with deadline := none }).onTerminal fun t =>
        { t with waitList := t.waitList ++ [{ slot := n, order := o, station := (u.order o).station }] } := by
  have session : ((u.onOrder o fun r => { r with state := .paying, hold := .stopped }).order o).session = (u.order o).session := by
    rw [order_onOrder_same]
  have stopped : stopWatch o (u.onOrder o fun r => { r with state := .paying, hold := .stopped })
      = (u.onOrder o fun r => { r with state := .paying, hold := .stopped }).onSession (u.order o).session fun e =>
        { e with deadline := none } := by
    simp only [stopWatch, session]
    exact if_pos ⟨active, member⟩
  simp only [acceptPay, stopped]

theorem sameWatch_restartForOrder (o : OrderId) (j : SessionId) (s : State) : SameWatch ((restartForOrder o s).session j) (s.session j) := by
  unfold restartForOrder
  split
  · exact sameWatch_restartSession _ j s
  · exact ⟨rfl, rfl⟩

/-- R11, R12: a watch that stops does not show that it was restarted before. -/
theorem stop_restartForOrder (o : OrderId) (s : State) :
    (restartForOrder o s).onSession (s.order o).session (fun e => { e with deadline := none })
      = s.onSession (s.order o).session fun e => { e with deadline := none } := by
  unfold restartForOrder restartSession
  split
  · split
    · simp only [State.onSession, upd_upd]
    · rfl
  · rfl

theorem upd_self {α : Type} {n : Nat} {t : Vector α n} {i : Fin n} {f : α → α} (same : f (look t i) = look t i) : upd t i f = t := by
  refine table_ext fun j => ?_
  rw [look_upd]
  split
  case isTrue own => subst own; exact same
  case isFalse => rfl

theorem onPrinter_self {s : State} {p : PrinterId} {f : Printer → Printer} (same : f (s.printer p) = s.printer p) : s.onPrinter p f = s :=
  congrArg (fun v => { s with printers := v }) (upd_self same)

theorem onOrder_onOrder (s : State) (o : OrderId) (f g : Order → Order) : (s.onOrder o f).onOrder o g = s.onOrder o fun r => g (f r) := by
  simp only [State.onOrder, upd_upd]

theorem onOrder_congr {s : State} {o : OrderId} {f g : Order → Order} (same : f (s.order o) = g (s.order o)) :
    s.onOrder o f = s.onOrder o g := congrArg (fun v => { s with orders := v }) (upd_congr _ _ _ _ same)

/-- R132: what a PAY changes beside its slot does not see that the slot has been taken. -/
theorem takeSlot_party (n : SlotId) (rest : List SlotId) (o : OrderId) (k : SessionId) (f : Order → Order) (g : Session → Session)
    (h : Terminal → Terminal) (s : State) :
    (((takeSlot n rest s).onOrder o f).onSession k g).onTerminal h = begun n rest id (((s.onSession k g).onOrder o f).onTerminal h) := rfl

theorem takeSlot_onOrder_onPrinter (n : SlotId) (rest : List SlotId) (o : OrderId) (p : PrinterId) (f : Order → Order)
    (g : Printer → Printer) (s : State) :
    ((takeSlot n rest s).onOrder o f).onPrinter p g = takeSlot n rest ((s.onOrder o f).onPrinter p g) := rfl

/-- R82: an order in no queue leaves none. -/
theorem leaveQueues_none {o : OrderId} {s : State} (outside : ∀ q, o ∉ (s.printer q).queue) : leaveQueues o s = s := by
  have kept : ∀ q, removeOrder o (s.printer q).queue = (s.printer q).queue := fun q =>
    List.filter_eq_self.2 fun x mem => by simpa using fun (e : x = o) => outside q (e ▸ mem)
  have stays : ∀ q, (s.onPrinter q fun x => { x with queue := removeOrder o x.queue }) = s := fun q => onPrinter_self (by rw [kept])
  exact (congrArg (State.onPrinter · 1 fun x => { x with queue := removeOrder o x.queue }) (stays 0)).trans (stays 1)

/-- R30: a placed order of total 0 is paid at once. -/
theorem payNothing_placed {o : OrderId} {p : PrinterId} {s : State} (placed : (s.order o).placement = some p)
    (outside : ∀ q, o ∉ (s.printer q).queue) :
    payNothing o s = (s.onOrder o fun r =>
      { r with state := .paid, hold := .none, paidAt := some s.clock, lastOutcome := some .ok, uncertain := false,
               holdReason := none }).onPrinter p fun q => { q with queue := q.queue ++ [o] } := by
  simp only [payNothing, order_onOrder_same, placed, makePaid, joinQueue, onOrder_onOrder]
  rw [leaveQueues_none (s := s.onOrder o _) outside]
  refine congrArg (State.onPrinter · p fun q => { q with queue := q.queue ++ [o] }) (onOrder_congr ?_)
  rw [← placed]

/-- Settles O29. -/
theorem payJoinsTheWaitListOrIsPaid : Obligations.PayJoinsTheWaitListOrIsPaid := by
  refine ⟨fun s n rest o hh hn priced => ?_, fun s n rest o p hh hn priced others nothing placed outside => ?_⟩
  all_goals
    have order : ∀ x, (takeSlot n rest (restartForOrder o s.quiet)).order x = s.order x := order_takenForOrder o n rest s.quiet
    have terminal : (takeSlot n rest (restartForOrder o s.quiet)).terminal = s.terminal :=
      (congrArg State.terminal (takenForOrder o n rest s.quiet) :)
    have taken := (congrArg Order.state (order o)).trans priced
    have total := congrArg orderTotal (order o)
    have paying := stationPaying_iff (takeSlot n rest (restartForOrder o s.quiet)) o
    simp only [order] at paying
  · refine ⟨fun busy => ?_, fun others some => ⟨fun away => ?_, fun present online active member => ?_⟩⟩
    · exact order_endsAs hh hn rfl ((payWork_busy taken (paying.2 busy)).trans (refuseSlot_takeSlot n rest _ _))
    all_goals
      have alone : ¬ stationPaying (takeSlot n rest (restartForOrder o s.quiet)) o = true := fun busy => by
        obtain ⟨x, ne, pays, station⟩ := paying.1 busy
        exact others x ne pays station
    · refine order_endsAs hh hn rfl ((payWork_noTerminal taken alone (Nat.lt_of_lt_of_eq some total.symm) ?_).trans (refuseSlot_takeSlot n rest _ _))
      rwa [terminal]
    · refine order_thenSettles hh hn rfl ((payWork_accepts taken alone (Nat.lt_of_lt_of_eq some total.symm) ?_).trans (congrArg _ ?_))
      · rw [terminal]
        exact fun away => away.elim present online
      · have watch := sameWatch_restartForOrder o (s.order o).session s.quiet
        have opened : ((takeSlot n rest (restartForOrder o s.quiet)).session (s.order o).session).state = .active :=
          (congrArg Session.state watch.1 :).trans active
        have listed : ((takeSlot n rest (restartForOrder o s.quiet)).session (s.order o).session).orders.contains o = true := by
          rw [show ((takeSlot n rest (restartForOrder o s.quiet)).session (s.order o).session).orders = _ from congrArg Session.orders watch.1]
          exact member
        rw [acceptPay_eq (by rw [order]; exact opened) (by rw [order]; exact listed), order]
        rw [takeSlot_party]
        have stopped := stop_restartForOrder o s.quiet
        exact congrArg (fun u => begun n rest id ((State.onOrder u o _).onTerminal _)) stopped
  · refine order_thenSettles hh hn rfl ((payWork_nothing taken ?_ (total.trans nothing)).trans (congrArg _ ?_))
    · intro busy
      obtain ⟨x, ne, pays, station⟩ := paying.1 busy
      exact others x ne pays station
    · have free : ∀ q, (restartForOrder o s.quiet).printer q = s.printer q := fun q =>
        (congrArg (State.printer · q) (restartForOrder_rest o s.quiet) :)
      have clock : (restartForOrder o s.quiet).clock = s.clock := (congrArg State.clock (restartForOrder_rest o s.quiet) :)
      have paid := payNothing_placed (o := o) (p := p) (s := takeSlot n rest (restartForOrder o s.quiet)) (by rw [order]; exact placed)
        fun q => by rw [show (takeSlot n rest (restartForOrder o s.quiet)).printer q = _ from free q]; exact outside q
      rw [paid, show (takeSlot n rest (restartForOrder o s.quiet)).clock = s.clock from clock]
      rw [takeSlot_onOrder_onPrinter]
      exact refuseSlot_takeSlot n rest .ok _

end Sys2Proof.Machine
end

section
/-! SUPPORT. The way out of an order (R34, R35, R37, R38): what is dropped, the settlement trigger and the report that an order is final;
and the two expiries of R29 and R64. -/

namespace Sys2Proof.Machine

/-! ## What the session table and the lamps change -/

/-- State without its stations, its session table and the unit bits. -/
def State.beyond (s : State) : State :=
  { s with stations := State.reset.stations, sessions := State.reset.sessions, unitChanged := 0 }

@[simp] theorem beyond_onStation (s : State) (i : StationId) (f : Station → Station) : (s.onStation i f).beyond = s.beyond := rfl
@[simp] theorem beyond_onSession (s : State) (k : SessionId) (f : Session → Session) : (s.onSession k f).beyond = s.beyond := rfl
@[simp] theorem beyond_markUnit (s : State) (n : UnitId) : (s.markUnit n).beyond = s.beyond := rfl
@[simp] theorem beyond_evalLamps (i : StationId) (s : State) : (evalLamps i s).beyond = s.beyond := rfl

@[simp] theorem beyond_clearNoRoom (s : State) : (clearNoRoom s).beyond = s.beyond :=
  forEach_keeps State.beyond _ (fun i t => by split <;> simp) _ s

@[simp] theorem beyond_freeEntry (k : SessionId) (s : State) : (freeEntry k s).beyond = s.beyond := by simp [freeEntry]

/-- R10: the report that an order is final moves the session table and the stations alone. -/
@[simp] theorem beyond_reportFinal (o : OrderId) (s : State) : (reportFinal o s).beyond = s.beyond := by
  simp only [reportFinal]
  split <;> simp

section Beyond
variable {s t : State} (same : t.beyond = s.beyond)
include same

theorem order_of_beyond (o : OrderId) : t.order o = s.order o := (congrArg (fun u : State => u.order o) same :)
theorem printer_of_beyond (p : PrinterId) : t.printer p = s.printer p := (congrArg (fun u : State => u.printer p) same :)
theorem heldList_of_beyond : t.heldList = s.heldList := (congrArg (fun u : State => u.heldList) same :)
theorem terminal_of_beyond : t.terminal = s.terminal := (congrArg (fun u : State => u.terminal) same :)
theorem slots_of_beyond : t.slots = s.slots := (congrArg (fun u : State => u.slots) same :)
theorem price_of_beyond : t.price = s.price := (congrArg (fun u : State => u.price) same :)
theorem stock_of_beyond : t.stock = s.stock := (congrArg (fun u : State => u.stock) same :)

end Beyond

/-! ## The settlement trigger (R35) -/

theorem queue_leaveQueues (o : OrderId) (s : State) (p : PrinterId) :
    ((leaveQueues o s).printer p).queue = removeOrder o (s.printer p).queue := by
  unfold leaveQueues
  match p with
  | 0 => rw [printer_onPrinter_ne _ (by decide), printer_onPrinter_same]
  | 1 => rw [printer_onPrinter_same, printer_onPrinter_ne _ (by decide)]

theorem not_mem_removeOrder (o : OrderId) (l : List OrderId) : o ∉ removeOrder o l := fun mem => by
  have ne := (List.mem_filter.1 mem).2
  simp at ne

theorem mem_insertSettlement (e : PendingSettlement) (l : List PendingSettlement) : e ∈ insertSettlement e l := by
  induction l with
  | nil => exact List.mem_singleton_self e
  | cons x rest ih =>
    unfold insertSettlement
    split
    · exact List.mem_cons_self
    · exact List.mem_cons_of_mem _ ih

/-- R35: what the trigger does whatever the total is. -/
def leavesPrinting (o : OrderId) (s : State) : State :=
  ((leaveHeld o (leaveQueues o s)).onNote o fun _ => none).onOrder o fun x =>
    { x with placement := none, holdReason := none, settlement := some (orderSettlement x) }

/-- R17: the lamps are evaluated where the order was HELD. -/
def lampsIfHeld (r : Order) (s : State) : State := if r.state = .held then evalLamps r.station s else s

@[simp] theorem beyond_lampsIfHeld (r : Order) (s : State) : (lampsIfHeld r s).beyond = s.beyond := by
  unfold lampsIfHeld
  split <;> simp

theorem settlementTrigger_due {o : OrderId} {s : State} (due : orderTotal (s.order o) ≠ 0) :
    settlementTrigger o s =
      lampsIfHeld (s.order o) (addSettlement o 0 ((leavesPrinting o s).onOrder o fun x => { x with state := .settling })) := if_neg due

theorem settlementTrigger_free {o : OrderId} {s : State} (free : orderTotal (s.order o) = 0) :
    settlementTrigger o s =
      reportFinal o (lampsIfHeld (s.order o) ((leavesPrinting o s).onOrder o fun x =>
        { x with state := .closed, settleStatus := .nothingDue, closedAt := some (leavesPrinting o s).clock })) := if_pos free

theorem leavesPrinting_keeps (o : OrderId) (s : State) :
    (leavesPrinting o s).heldList = removeOrder o s.heldList ∧ (leavesPrinting o s).terminal = s.terminal
      ∧ (leavesPrinting o s).clock = s.clock ∧ (leavesPrinting o s).slots = s.slots ∧ (leavesPrinting o s).price = s.price
      ∧ (leavesPrinting o s).stock = s.stock := by
  simp [leavesPrinting, leaveHeld, leaveQueues]

theorem order_leavesPrinting (o x : OrderId) (s : State) :
    (leavesPrinting o s).order x = if o = x then
      { s.order o with placement := none, holdReason := none, settlement := some (orderSettlement (s.order o)) } else s.order x :=
  by
  unfold leavesPrinting
  split
  next own => subst own; rw [order_onOrder_same]; simp [State.order, leaveHeld, leaveQueues]
  next ne => rw [order_onOrder_ne _ ne]; simp [State.order, leaveHeld, leaveQueues]

theorem queue_leavesPrinting (o : OrderId) (s : State) (p : PrinterId) :
    ((leavesPrinting o s).printer p).queue = removeOrder o (s.printer p).queue :=
  (congrArg (fun v => (look v p).queue) (rfl : (leavesPrinting o s).printers = (leaveQueues o s).printers)).trans (queue_leaveQueues o s p)

theorem order_addSettlement (o : OrderId) (n : Nat) (s : State) (x : OrderId) : (addSettlement o n s).order x = s.order x := rfl

/-- Settles O31. -/
theorem settlementTriggerRuns : Obligations.SettlementTriggerRuns := by
  intro o s state finished
  have all : finishedPrinting (s.order o) = true := by
    simp only [finishedPrinting, List.all_eq_true, Bool.and_eq_true, Bool.or_eq_true, beq_iff_eq]
    exact finished
  have check : settlementCheck o s = settlementTrigger o s := if_pos ⟨state, all⟩
  rw [check]
  obtain ⟨held, terminal, clock, slots, price, stock⟩ := leavesPrinting_keeps o s
  have queue := queue_leavesPrinting o s
  have order := fun x => order_leavesPrinting o x s
  have due := settlementTrigger_due (o := o) (s := s)
  have nothing := settlementTrigger_free (o := o) (s := s)
  generalize leavesPrinting o s = u at *
  by_cases free : orderTotal (s.order o) = 0
  · have same := congrArg State.beyond (nothing free)
    rw [beyond_reportFinal, beyond_lampsIfHeld, clock] at same
    refine ⟨fun p => ?_, ?_, fun due => absurd free due, fun _ => ⟨?_, ?_⟩, fun x ne => ?_, ?_, ?_, ?_⟩
    · rw [printer_of_beyond same]
      exact fun mem => not_mem_removeOrder o _ ((queue p).subst mem)
    · rw [heldList_of_beyond same]
      exact fun mem => not_mem_removeOrder o _ (held.subst mem)
    · rw [order_of_beyond same, order_onOrder_same, order o, if_pos rfl]
    · exact (terminal_of_beyond same).trans terminal
    · rw [order_of_beyond same, order_onOrder_ne _ ne.symm, order x, if_neg ne.symm]
    · exact (slots_of_beyond same).trans slots
    · exact (price_of_beyond same).trans price
    · exact (stock_of_beyond same).trans stock
  · have same := congrArg State.beyond (due free)
    rw [beyond_lampsIfHeld] at same
    refine ⟨fun p => ?_, ?_, fun _ => ⟨?_, ?_⟩, fun none => absurd none free, fun x ne => ?_, ?_, ?_, ?_⟩
    · rw [printer_of_beyond same]
      exact fun mem => not_mem_removeOrder o _ ((queue p).subst mem)
    · rw [heldList_of_beyond same]
      exact fun mem => not_mem_removeOrder o _ (held.subst mem)
    · rw [order_of_beyond same, order_addSettlement, order_onOrder_same, order o, if_pos rfl]
    · rw [terminal_of_beyond same]
      exact mem_insertSettlement _ _
    · rw [order_of_beyond same, order_addSettlement, order_onOrder_ne _ ne.symm, order x, if_neg ne.symm]
    · exact (slots_of_beyond same).trans slots
    · exact (price_of_beyond same).trans price
    · exact (stock_of_beyond same).trans stock

/-! ## The expiries (R29, R64) -/

theorem graceExpires_eq (p : PrinterId) (s : State) :
    graceExpires p s = s.onEntry p fun _ => { reported := 0, pendingConsumption := 0, grace := none } := rfl

/-- R29: the expiry on the order itself. -/
def holdExpires (o : OrderId) (t : State) : State :=
  match (t.order o).state, (t.order o).hold with
  | .priced, .running _ => settle t (toDraft o .expired t)
  | _, _ => t

theorem holdExpires_priced {o : OrderId} {t : State} {d : W32} (priced : (t.order o).state = .priced) (runs : (t.order o).hold = .running d) :
    holdExpires o t = settle t (toDraft o .expired t) := by simp only [holdExpires, priced, runs]

theorem holdExpires_other {o : OrderId} {t : State} (notPriced : (t.order o).state ≠ .priced) : holdExpires o t = t := by
  unfold holdExpires
  split
  next state _ => exact absurd state notPriced
  next => rfl

theorem exec_holdExpiry (o : OrderId) {s : State} (run : s.part = .run) :
    exec (.quoteHoldExpiry o) s = .next (closeEvent s.quiet (holdExpires o s.quiet)) := event_next (holdExpires o) run

/-- R64: the expiry on the entry itself. -/
def graceEnds (p : PrinterId) (t : State) : State := if (t.entry p).grace.isSome then settle t (graceExpires p t) else t

theorem exec_graceExpiry (p : PrinterId) {s : State} (run : s.part = .run) :
    exec (.faultGraceExpiry p) s = .next (closeEvent s.quiet (graceEnds p s.quiet)) := event_next (graceEnds p) run

/-- Settles O33. -/
theorem holdAndGraceExpire : Obligations.HoldAndGraceExpire := by
  refine ⟨fun o s d run priced runs => ?_, fun p s run some => ?_, fun o s run notPriced => ?_, fun p s run none => ?_⟩
  · rw [exec_holdExpiry o run, holdExpires_priced (t := s.quiet) priced runs]
    rfl
  · have ends : graceEnds p s.quiet = settle s.quiet (graceExpires p s.quiet) := if_pos some
    rw [exec_graceExpiry p run, ends, graceExpires_eq]
    rfl
  · rw [exec_holdExpiry o run, holdExpires_other (t := s.quiet) notPriced, closeEvent_self]
  · have stays : graceEnds p s.quiet = s.quiet :=
      if_neg fun some => Bool.false_ne_true ((congrArg Option.isSome none).symm.trans some)
    rw [exec_graceExpiry p run, stays, closeEvent_self]

/-! ## Dropped copies (R37, R38) -/

theorem dropItem_printed {i : Item} (printed : i.state = .done ∨ i.state = .unprintable) : dropItem i = i := by
  refine if_neg fun prints => ?_
  rcases printed with e | e <;> simp [e] at prints

theorem remaining_dropped {i : Item} (dropped : i.dropped = true) : remaining i = 0 := if_pos (Or.inl dropped)

theorem dropItem_prints {i : Item} (prints : i.state = .pending ∨ i.state = .active) :
    dropItem i = { i with dropped := true, state := if i.inFlight = 0 then .done else i.state } := by
  have none : remaining { i with dropped := true } = 0 := remaining_dropped rfl
  unfold dropItem finishItem
  rw [if_pos prints]
  simp only [none, prints, true_and]
  split <;> rfl

/-! ## What a settling leaves (R171) -/

theorem steady_slot {s t : State} (same : t.steady = s.steady) (n : SlotId) : (t.slot n).steady = (s.slot n).steady := by
  have slots : t.slots.map Slot.steady = s.slots.map Slot.steady := (congrArg State.slots same :)
  have here := congrArg (fun v => look v n) slots
  rwa [look_map, look_map] at here

/-- R135: a TAKEN slot stays TAKEN, and only its body is written. -/
theorem slot_of_steady {c d : Slot} (same : c.steady = d.steady) (taken : d.state = .taken) : ∃ body, c = { d with body := body } := by
  have blank : d.steady = { d with body := .zero } := if_pos taken
  rw [blank] at same
  by_cases here : c.state = .taken
  · have blank' : c.steady = { c with body := .zero } := if_pos here
    rw [blank'] at same
    cases c
    cases d
    simp only [Slot.mk.injEq] at same ⊢
    exact ⟨_, same.1, same.2.1, same.2.2.1, same.2.2.2.1, same.2.2.2.2.1, same.2.2.2.2.2.1, same.2.2.2.2.2.2.1, rfl⟩
  · have stays : c.steady = c := if_neg here
    rw [stays] at same
    exact absurd ((congrArg Slot.state same).trans taken) here

theorem table_of_steady {s t : State} (same : t.steady = s.steady) : t.price.table = s.price.table :=
  (congrArg (fun u : State => u.price.table) same :)

theorem stock_of_steady {s t : State} (same : t.steady = s.steady) : t.stock = s.stock := (congrArg State.stock same :)
theorem apertures_of_steady {s t : State} (same : t.steady = s.steady) : t.apertures = s.apertures := (congrArg State.apertures same :)
theorem intake_of_steady {s t : State} (same : t.steady = s.steady) : t.intake = s.intake := (congrArg State.intake same :)

/-- What a completion after a settling leaves of a slot that was TAKEN before. -/
theorem slot_complete_of_steady {s t : State} (same : t.steady = s.steady) {n : SlotId} (taken : (s.slot n).state = .taken) (st : Status)
    (why : Reason) (body : Body) :
    (complete n st why body t).slot n =
      { s.slot n with state := .done, status := st, reason := why, completedAt := s.clock, body := body } := by
  obtain ⟨old, here⟩ := slot_of_steady (steady_slot same n) taken
  have clock : t.clock = s.clock := (congrArg State.clock same :)
  rw [complete_of_taken _ _ _ _ _ (by rw [here]; exact taken)]
  refine (slot_onSlot_same t n _).trans ?_
  rw [here, clock]

theorem complete_rest (n : SlotId) (st : Status) (why : Reason) (body : Body) (s : State) :
    { complete n st why body s with slots := s.slots, attnDone := s.attnDone } = s := by
  unfold complete
  split <;> rfl

/-! ## CANCEL_ORDER (R37) -/

theorem cancelOrderWork_final {o : OrderId} {n : SlotId} {u : State} (state : (u.order o).state = .draft ∨ (u.order o).state = .priced) :
    cancelOrderWork o n u = complete n .ok .none (.orderState ((settle u (makeCancelled o u)).order o).state) (settle u (makeCancelled o u)) := by
  have cancels : cancelOrder o u = some (makeCancelled o u) := by rcases state with e | e <;> simp only [cancelOrder, e]
  unfold cancelOrderWork
  rw [cancels]

theorem dropCopies_requested (o : OrderId) (u : State) :
    dropCopies o (u.onOrder o fun r => { r with cancelRequested := true }) =
      (u.onOrder o fun r => { r with cancelRequested := true, items := r.items.map dropItem }).onNote o fun _ => none := by
  unfold dropCopies
  rw [onOrder_onOrder]

/-- R38: the cancellation of an order that prints. -/
def cancelsPrinting (o : OrderId) (u : State) : State :=
  settlementCheck o ((u.onOrder o fun r => { r with cancelRequested := true, items := r.items.map dropItem }).onNote o fun _ => none)

theorem cancelOrderWork_paid {o : OrderId} {n : SlotId} {u : State} (state : (u.order o).state = .paid ∨ (u.order o).state = .printing) :
    cancelOrderWork o n u = complete n .ok .none (.orderState ((settle u (cancelsPrinting o u)).order o).state)
      (settle u (cancelsPrinting o u)) := by
  have cancels : cancelOrder o u = some (cancelsPrinting o u) := by
    unfold cancelsPrinting
    rw [← dropCopies_requested]
    rcases state with e | e <;> simp only [cancelOrder, e]
  unfold cancelOrderWork
  rw [cancels]

theorem cancelOrderWork_held {o : OrderId} {n : SlotId} {u : State} (state : (u.order o).state = .held) :
    cancelOrderWork o n u = complete n .ok .none (.orderState ((settle u (settlementCheck o (dropCopies o u))).order o).state)
      (settle u (settlementCheck o (dropCopies o u))) := by
  have cancels : cancelOrder o u = some (settlementCheck o (dropCopies o u)) := by simp only [cancelOrder, state]
  unfold cancelOrderWork
  rw [cancels]

/-- The parts of State of which the first clause of O30 speaks, past the completion and the end of the event. -/
theorem ended_keeps (b : State) (n : SlotId) (st : Status) (why : Reason) (body : Body) (s : State) :
    (closeEvent b (complete n st why body s)).orders = s.orders ∧ (closeEvent b (complete n st why body s)).intake = s.intake
      ∧ (closeEvent b (complete n st why body s)).price = s.price ∧ (closeEvent b (complete n st why body s)).stock = s.stock
      ∧ (closeEvent b (complete n st why body s)).apertures = s.apertures
      ∧ (closeEvent b (complete n st why body s)).slots = (complete n st why body s).slots := by
  have close := closeEvent_rest b (complete n st why body s)
  have done := complete_rest n st why body s
  exact ⟨(congrArg State.orders close :).trans (congrArg State.orders done :), (congrArg State.intake close :).trans (congrArg State.intake done :),
    (congrArg State.price close :).trans (congrArg State.price done :), (congrArg State.stock close :).trans (congrArg State.stock done :),
    (congrArg State.apertures close :).trans (congrArg State.apertures done :), (congrArg State.slots close :)⟩

/-- R37: a DRAFT or PRICED order becomes CANCELLED: what the record and the rest of State take. -/
theorem makeCancelled_order (o : OrderId) (s : State) (x : OrderId) : (makeCancelled o s).order x = if o = x then
    { s.order o with state := .cancelled, hold := .none, placement := none, settleStatus := .none, closedAt := some s.clock }
    else s.order x := by
  unfold makeCancelled
  rw [order_of_beyond (beyond_reportFinal o _)]
  split
  next own => subst own; rw [order_onOrder_same]
  next ne => rw [order_onOrder_ne _ ne]

theorem beyond_makeCancelled (o : OrderId) (s : State) :
    { (makeCancelled o s).beyond with orders := s.orders } = s.beyond := by
  unfold makeCancelled
  rw [beyond_reportFinal]
  rfl

/-- Settles O30. -/
theorem cancelOrderByTheOrderState : Obligations.CancelOrderByTheOrderState := by
  refine ⟨fun s n rest o hh hn => ?_, fun i => ⟨dropItem_printed, fun prints => ⟨dropItem_prints prints, ?_⟩⟩⟩
  · have order : ∀ x, (takeSlot n rest (restartForOrder o s.quiet)).order x = s.order x := order_takenForOrder o n rest s.quiet
    have frame := takenForOrder o n rest s.quiet
    have slot := slot_takeSlot n rest (restartForOrder o s.quiet)
    have cell : (restartForOrder o s.quiet).slot n = s.slot n := (congrArg (State.slot · n) (restartForOrder_rest o s.quiet) :)
    have intake : (takeSlot n rest (restartForOrder o s.quiet)).intake = rest := rfl
    have next : exec .cancelOrder s = _ := (exec_command Kind.cancelOrder s).trans (taking_withOrder_next hh hn cancelOrderWork)
    have same := settle_of_alike (alike_takenForOrder o n rest s.quiet)
    rw [cell] at slot
    rw [restartForOrder_takeSlot]
    generalize takeSlot n rest (restartForOrder o s.quiet) = u at *
    have state := congrArg Order.state (order o)
    refine ⟨fun drafted => ?_, fun paid => ⟨settle s.quiet (cancelsPrinting o u), rfl, ?_⟩,
      fun held => ⟨settle s.quiet (settlementCheck o (dropCopies o u)), rfl, ?_⟩⟩
    · rw [← state] at drafted
      obtain ⟨steady, rests, -⟩ := Moves.settle u (makeCancelled o u)
      rw [next, cancelOrderWork_final drafted]
      obtain ⟨orders, list, price, stock, apertures, slots⟩ := ended_keeps s.quiet n .ok .none
        (.orderState ((settle u (makeCancelled o u)).order o).state) (settle u (makeCancelled o u))
      have here := makeCancelled_order o u o
      have others := fun x (ne : o ≠ x) => (makeCancelled_order o u x).trans (if_neg ne)
      rw [if_pos rfl] at here
      have kept := rests o (by rw [here]; rfl)
      have before := beyond_makeCancelled o u
      have cells : (makeCancelled o u).slot n = u.slot n := (congrArg (fun v : State => v.slot n) before :)
      have time : (makeCancelled o u).clock = s.clock :=
        (congrArg State.clock before :).trans (congrArg State.clock frame :)
      have done := slot_complete_of_steady steady (n := n) (by rw [cells, slot]) .ok .none
        (.orderState ((settle u (makeCancelled o u)).order o).state)
      have table := table_of_steady steady
      have stocks := stock_of_steady steady
      have ranges := apertures_of_steady steady
      have queue := intake_of_steady steady
      generalize settle u (makeCancelled o u) = w at *
      generalize makeCancelled o u = v at *
      have look_eq : ∀ x, State.order (closeEvent s.quiet (complete n .ok .none
        (.orderState (w.order o).state) w)) x
          = w.order x := fun x => congrArg (look · x) orders
      have frameClock : u.clock = s.clock := (congrArg State.clock frame :)
      refine ⟨_, rfl, ?_, ?_, ?_, ?_, ?_, ?_, fun x ne still => ?_⟩
      · rw [look_eq, kept, here, order, frameClock]
      · refine (congrArg (look · n) slots).trans (done.trans ?_)
        rw [cells, slot, time, kept, here]
      · exact list.trans (queue.trans ((congrArg State.intake before :).trans intake))
      · exact (congrArg PriceUnit.table price).trans (table.trans
          ((congrArg (fun v : State => v.price.table) before :).trans (congrArg (fun v : State => v.price.table) frame :)))
      · exact stock.trans (stocks.trans ((congrArg State.stock before :).trans (congrArg State.stock frame :)))
      · exact apertures.trans (ranges.trans ((congrArg State.apertures before :).trans (congrArg State.apertures frame :)))
      · have other := (others x ne.symm).trans (order x)
        rw [look_eq, rests x (by rw [other]; exact still), other]
    · rw [← state] at paid
      rw [next, cancelOrderWork_paid paid, same]
    · rw [← state] at held
      rw [next, cancelOrderWork_held held, same]
  · rw [dropItem_prints prints]
    exact remaining_dropped rfl

end Sys2Proof.Machine
end

section
/-! SUPPORT. The service kinds that end in one taking: LOAD_PRICES (R46), SET_APERTURE (R153, R154) and SET_TIMERS (R178). -/

namespace Sys2Proof.Machine

/-! ## SET_TIMERS (R178) -/

theorem clamp_eq {low high : Nat} (range : low ≤ high) (v : Nat) : clamp low high v = max low (min high v) := by
  unfold clamp
  split
  · omega
  split <;> omega

theorem newSetting_eq {low high : Nat} (range : low ≤ high) (change : Bool) (old v : Nat) :
    newSetting change low high old v = if change then max low (min high v) else old := by
  unfold newSetting
  rw [clamp_eq range]

theorem wasClamped_iff (change : Bool) (low high v : Nat) : wasClamped change low high v = true ↔ change = true ∧ (v < low ∨ high < v) := by
  simp [wasClamped]

theorem setTimers_takeSlot (n : SlotId) (rest : List SlotId) (t : TimerSettings) (s : State) :
    { takeSlot n rest s with timers := t } = takeSlot n rest { s with timers := t } := rfl

theorem setTimersWork_takeSlot (n : SlotId) (rest : List SlotId) (s : State) :
    setTimersWork n (takeSlot n rest s) =
      answered n rest .ok .none
        (.timers (settingsAfter s.timers (s.slot n))
          (wasClamped (changes (s.slot n) 0) Config.idleMin Config.idleMax (reqField (s.slot n) 20 4))
          (wasClamped (changes (s.slot n) 1) Config.holdMin Config.holdMax (reqField (s.slot n) 24 4))
          (wasClamped (changes (s.slot n) 2) Config.authMin Config.authMax (reqField (s.slot n) 28 4))
          (wasClamped (changes (s.slot n) 3) Config.graceMin Config.graceMax (reqField (s.slot n) 32 4)))
        { s with timers := settingsAfter s.timers (s.slot n) } := by
  have after : ∀ old, settingsAfter old ((takeSlot n rest s).slot n) = settingsAfter old (s.slot n) := fun old => by
    simp only [settingsAfter, changes, reqByte_takeSlot, reqField_takeSlot]
  have timers : (takeSlot n rest s).timers = s.timers := rfl
  simp only [setTimersWork, after, changes, reqByte_takeSlot, reqField_takeSlot, timers, setTimers_takeSlot]
  rw [complete_takeSlot]

/-- Settles O50. -/
theorem setTimersClampsEachSetting : Obligations.SetTimersClampsEachSetting := by
  intro s n rest hh
  refine ⟨settingsAfter s.timers (s.slot n), _, _, _, _, command_endsAs hh ?_, newSetting_eq (by decide) _ _ _, newSetting_eq (by decide) _ _ _,
    newSetting_eq (by decide) _ _ _, newSetting_eq (by decide) _ _ _, wasClamped_iff _ _ _ _, wasClamped_iff _ _ _ _,
    wasClamped_iff _ _ _ _, wasClamped_iff _ _ _ _⟩
  exact setTimersWork_takeSlot n rest s.quiet

/-! ## LOAD_PRICES (R46) -/

section Load
variable {n : SlotId} {u : State}

theorem loadPricesWork_length (other : reqField (u.slot n) 32 4 ≠ 256) : loadPricesWork n u = refuseSlot n .range u := if_pos other

theorem loadPricesWork_area (outside : u.findAperture .read (reqField (u.slot n) 24 8) 256 = none) :
    loadPricesWork n u = refuseSlot n .range u := by
  by_cases length : reqField (u.slot n) 32 4 = 256
  · refine (if_neg (Classical.not_not.2 length)).trans ?_
    rw [show u.findAperture .read (reqField (u.slot n) 24 8) imageBytes = none from outside]
  · exact loadPricesWork_length length

variable {a : ApertureId} (length : reqField (u.slot n) 32 4 = 256)
  (area : u.findAperture .read (reqField (u.slot n) 24 8) 256 = some a)
include length area

theorem loadPricesWork_busy (busy : u.price.load.isSome = true) : loadPricesWork n u = refuseSlot n .busy u := by
  refine (if_neg (Classical.not_not.2 length)).trans ?_
  rw [show u.findAperture .read (reqField (u.slot n) 24 8) imageBytes = some a from area]
  exact if_pos busy

theorem loadPricesWork_accepts (idle : u.price.load = none) :
    loadPricesWork n u = settle u (acceptLoad n (BitVec.ofNat 32 (reqField (u.slot n) 16 4)) (reqField (u.slot n) 24 8) a u) := by
  refine (if_neg (Classical.not_not.2 length)).trans ?_
  rw [show u.findAperture .read (reqField (u.slot n) 24 8) imageBytes = some a from area]
  exact if_neg (by rw [idle]; decide)

end Load

theorem findAperture_takeSlot (n : SlotId) (rest : List SlotId) (s : State) (d : Direction) (address length : Nat) :
    (takeSlot n rest s).findAperture d address length = s.findAperture d address length := rfl

theorem acceptLoad_takeSlot (n : SlotId) (rest : List SlotId) (tag : W32) (address : Nat) (a : ApertureId) (s : State) :
    acceptLoad n tag address a (takeSlot n rest s) =
      begun n rest id
        { s with
          price := { s.price with
            load := some { slot := n, tag := tag, address := address, aperture := a, fetching := false, cancelled := false, areaDead := false } },
          port := { s.port with
            lines := s.port.lines.set 6 (s.port.lines[6] ++
              [{ requester := .load, direction := .read, address := address, length := 256, aperture := a, purpose := .image, data := [] }]) } } :=
  rfl

/-- Settles O44. -/
theorem loadPricesAsksForItsImage : Obligations.LoadPricesAsksForItsImage := by
  intro s n rest hh
  have field := reqField_takeSlot n rest s.quiet
  have find := findAperture_takeSlot n rest s.quiet
  have load : (takeSlot n rest s.quiet).price.load = s.price.load := rfl
  refine ⟨fun other => command_endsAs hh ?_, fun outside => command_endsAs hh ?_, fun a length area =>
    ⟨fun busy => command_endsAs hh ?_, fun idle => ?_⟩⟩
  · exact (loadPricesWork_length (by rwa [field])).trans (refuseSlot_takeSlot n rest _ _)
  · exact (loadPricesWork_area (by rwa [find, field])).trans (refuseSlot_takeSlot n rest _ _)
  · exact (loadPricesWork_busy (by rwa [field]) (by rwa [find, field]) (by rwa [load])).trans (refuseSlot_takeSlot n rest _ _)
  · have work := loadPricesWork_accepts (n := n) (u := takeSlot n rest s.quiet) (by rwa [field]) (by rwa [find, field]) (load.trans idle)
    rw [field, field, acceptLoad_takeSlot] at work
    refine thenSettles_of_alike (b := takeSlot n rest s.quiet) ?_ (alike_takeSlot n rest s.quiet)
    exact (exec_command Kind.loadPrices s).trans ((event_next _ hh.1).trans (congrArg _ (congrArg _ ((taking_of_heads hh _).trans work))))

/-! ## SET_APERTURE (R153) -/

theorem apertureBody_takeSlot (a : ApertureId) (n : SlotId) (rest : List SlotId) (b s : State) :
    apertureBody a (takeSlot n rest b) (takeSlot n rest s) = apertureBody a b s := rfl

theorem rewriteAperture_takeSlot (a : ApertureId) (access : Access) (base limit : Nat) (n : SlotId) (rest : List SlotId) (s : State) :
    rewriteAperture a access base limit (takeSlot n rest s) = takeSlot n rest (rewriteAperture a access base limit s) := rfl

theorem apertureState_takeSlot (a : ApertureId) (n : SlotId) (rest : List SlotId) (s : State) :
    apertureState (takeSlot n rest s) a = apertureState s a := rfl

theorem accessOfCode_code (access : Access) : accessOfCode (accessCode access) = some access := by cases access <;> rfl

theorem accessOfCode_none {code : Nat} (big : 3 < code) : accessOfCode code = none := by
  unfold accessOfCode
  split <;> first | rfl | omega

/-- R153: an access code other than NONE. -/
theorem accessOfCode_some {code : Nat} {access : Access} (coded : accessOfCode code = some access) : accessCode access = code := by
  unfold accessOfCode at coded
  split at coded <;> first | (injection coded with e; subst e; rfl) | cases coded

theorem apertureRangeGood_iff (access : Access) (base limit : Nat) :
    apertureRangeGood (some access) base limit = true ↔
      base % 4096 = 0 ∧ limit % 4096 = 0 ∧ limit ≤ 4294967296 ∧ base + limit ≤ 2 ^ 64 ∧ (access = .none ↔ limit = 0) := by
  have max : Config.maxLimit = 4294967296 := rfl
  have top : Config.hostMemoryEnd = 2 ^ 64 := rfl
  unfold apertureRangeGood
  rw [max, top]
  by_cases none : access = .none
  · simp [none, and_assoc]
  · simp [none, and_assoc]

theorem apertureState_inUse {a : ApertureId} {s : State} (used : 0 < s.useCount a) : apertureState s a = some .inUse := if_pos used

theorem apertureState_active {a : ApertureId} {s : State} (free : s.useCount a = 0)
    (busy : ∃ g ∈ s.port.granted, g.outcome = none ∧ g.transfer.aperture = a) : apertureState s a = some .transferActive := by
  unfold apertureState
  rw [if_neg (by omega)]
  refine if_pos (List.any_eq_true.2 ?_)
  simpa [inProgress] using busy

theorem apertureState_free {a : ApertureId} {s : State} (free : s.useCount a = 0)
    (quiet : ∀ g ∈ s.port.granted, g.outcome = none → g.transfer.aperture ≠ a) : apertureState s a = none := by
  unfold apertureState
  rw [if_neg (by omega)]
  refine if_neg fun busy => ?_
  obtain ⟨g, mem, g_busy⟩ := List.any_eq_true.1 busy
  simp only [inProgress, Bool.and_eq_true, Option.isNone_iff_eq_none, beq_iff_eq] at g_busy
  exact quiet g mem g_busy.1 g_busy.2

section Rewrite
variable {a : ApertureId} {n : SlotId} {rest : List SlotId} {s : State}

theorem apertureChecked_range (bad : apertureRangeGood (accessOfCode (reqByte (s.slot n) 17)) (reqField (s.slot n) 24 8)
    (reqField (s.slot n) 32 8) = false) :
    apertureChecked a n (takeSlot n rest s) = answered n rest .range .none (apertureBody a s s) s := by
  unfold apertureChecked
  simp only [reqByte_takeSlot, reqField_takeSlot]
  rw [if_pos bad, apertureBody_takeSlot, complete_takeSlot]

variable (good : apertureRangeGood (accessOfCode (reqByte (s.slot n) 17)) (reqField (s.slot n) 24 8) (reqField (s.slot n) 32 8) = true)
include good

theorem apertureChecked_state {why : Reason} (used : apertureState s a = some why) :
    apertureChecked a n (takeSlot n rest s) = answered n rest .state why (apertureBody a s s) s := by
  unfold apertureChecked
  simp only [reqByte_takeSlot, reqField_takeSlot]
  rw [if_neg (by rw [good]; decide), apertureState_takeSlot, used]
  exact (congrArg (complete n .state why · _) (apertureBody_takeSlot a n rest s s)).trans (complete_takeSlot n rest _ _ _ s)

theorem apertureChecked_rewrites (free : apertureState s a = none) {access : Access}
    (coded : accessOfCode (reqByte (s.slot n) 17) = some access) {u : State}
    (rewritten : u = rewriteAperture a access (reqField (s.slot n) 24 8) (reqField (s.slot n) 32 8) s) :
    apertureChecked a n (takeSlot n rest s) = answered n rest .ok .none (apertureBody a s u) u := by
  unfold apertureChecked
  simp only [reqByte_takeSlot, reqField_takeSlot]
  rw [if_neg (by rw [good]; decide), apertureState_takeSlot, free, coded]
  simp only [Option.getD_some, rewriteAperture_takeSlot, ← rewritten]
  rw [apertureBody_takeSlot, complete_takeSlot]

end Rewrite

theorem setApertureWork_eq {a : ApertureId} {n : SlotId} {s : State} (named : reqByte (s.slot n) 16 = a.val) :
    setApertureWork n s = apertureChecked a n s := by
  have inside : reqByte (s.slot n) 16 < 8 := Nat.lt_of_le_of_lt (Nat.le_of_eq named) a.isLt
  have same : (⟨reqByte (s.slot n) 16, inside⟩ : ApertureId) = a := Fin.ext named
  unfold setApertureWork
  rw [dif_pos inside, same]

/-- Settles O49. -/
theorem setApertureRewritesAnEntryOutOfUse : Obligations.SetApertureRewritesAnEntryOutOfUse := by
  intro s n rest a hh named
  have checked : ∀ {u : State}, apertureChecked a n (takeSlot n rest s.quiet) = u → EndsAs (exec .setAperture s) u := fun same =>
    command_endsAs hh ((setApertureWork_eq (by rwa [reqByte_takeSlot])).trans same)
  refine ⟨fun bad => checked (apertureChecked_range (Bool.eq_false_iff.2 fun good => ?_)), fun access coded base limit short inside none => ?_⟩
  · change apertureRangeGood (accessOfCode (reqByte (s.slot n) 17)) (reqField (s.slot n) 24 8) (reqField (s.slot n) 32 8) = true at good
    cases coded : accessOfCode (reqByte (s.slot n) 17) with
    | none => rw [coded] at good; cases good
    | some access =>
      rw [coded] at good
      obtain ⟨base, limit, short, inside, none⟩ := (apertureRangeGood_iff _ _ _).1 good
      have code := accessOfCode_some coded
      have small : accessCode access ≤ 3 := by cases access <;> decide
      have zero : accessCode access = 0 ↔ access = .none := by cases access <;> decide
      rw [← zero] at none
      omega
  · have code : accessOfCode (reqByte (s.slot n) 17) = some access := by rw [coded, accessOfCode_code]
    have good : apertureRangeGood (accessOfCode (reqByte (s.slot n) 17)) (reqField (s.slot n) 24 8) (reqField (s.slot n) 32 8) = true := by
      rw [code]
      exact (apertureRangeGood_iff _ _ _).2 ⟨base, limit, short, inside, none⟩
    refine ⟨fun used => checked ?_, fun free busy => checked ?_, fun free calm u same => checked ?_⟩
    · exact apertureChecked_state (s := s.quiet) good (apertureState_inUse used)
    · exact apertureChecked_state (s := s.quiet) good (apertureState_active free busy)
    · exact apertureChecked_rewrites (s := s.quiet) good (apertureState_free free calm) code same

end Sys2Proof.Machine
end

section
/-! SUPPORT. The records at the end of an event: which of their fields count time, what a comparison of two moments marks (R42, R173), the
interrupt message (R175), and the parts of the settling in their order. -/

namespace Sys2Proof.Machine

/-! ## Change bits (R173) -/

theorem getLsbD_bitsOf (n : Nat) (f : Nat → Bool) (i : Nat) : (bitsOf n f).getLsbD i = (decide (i < n) && f i) := by
  induction n with
  | zero => simp [bitsOf]
  | succ n ih =>
    rw [bitsOf, BitVec.getLsbD_cons, ih]
    by_cases last : i = n
    · simp [last]
    · have bound : i < n + 1 ↔ i < n := by omega
      simp [last, bound]

theorem unitChanged_markChanges (before t : State) (n : UnitId) : (markChanges before t).unitChanged.getLsbD n.val
    = (t.unitChanged.getLsbD n.val || decide (unitRecord before false n ≠ unitRecord t false n)) := by
  have differs : (unitDiff before t).getLsbD n.val = decide (unitRecord before false n ≠ unitRecord t false n) := by
    rw [unitDiff, getLsbD_bitsOf, dif_pos n.isLt]
    refine Bool.eq_iff_iff.2 ?_
    rw [Bool.and_eq_true, bne_iff_ne, decide_eq_true_iff, decide_eq_true_iff]
    exact and_iff_right n.isLt
  exact (BitVec.getLsbD_or ..).trans (congrArg _ differs)

theorem orderChanged_markChanges (before t : State) (o : OrderId) : (markChanges before t).orderChanged.getLsbD o.val
    = (t.orderChanged.getLsbD o.val || decide (orderRecord before false o ≠ orderRecord t false o)) := by
  have differs : (orderDiff before t).getLsbD o.val = decide (orderRecord before false o ≠ orderRecord t false o) := by
    rw [orderDiff, getLsbD_bitsOf, dif_pos o.isLt]
    refine Bool.eq_iff_iff.2 ?_
    rw [Bool.and_eq_true, bne_iff_ne, decide_eq_true_iff, decide_eq_true_iff]
    exact and_iff_right o.isLt
  exact (BitVec.getLsbD_or ..).trans (congrArg _ differs)

/-! ## The fields that count time -/

/-- A record with the fields at the given offsets reading 0. -/
def uncounted (counting : List Nat) (l : List Field) : List Field := l.map fun f => if f.offset ∈ counting then { f with value := 0 } else f

theorem uncounted_append (c : List Nat) (l r : List Field) : uncounted c (l ++ r) = uncounted c l ++ uncounted c r := List.map_append

/-- A list of fields that all lie elsewhere. -/
theorem uncounted_apart {c : List Nat} {l : List Field} (apart : ∀ f ∈ l, f.offset ∉ c) : uncounted c l = l :=
  (List.map_congr_left fun f mem => if_neg (apart f mem)).trans (List.map_id l)

theorem tillFigures_mem (o : Nat) (l : List TillPair) : ∀ f ∈ tillFigures o l, o ≤ f.offset := by
  induction l generalizing o with
  | nil => intro f mem; cases mem
  | cons p rest ih =>
    intro f mem
    simp only [tillFigures, List.mem_cons] at mem
    obtain rfl | rfl | mem := mem
    · exact Nat.le_refl _
    · simp
    · exact Nat.le_trans (Nat.le_add_right o 8) (ih (o + 8) f mem)

theorem itemFields_mem (o : Nat) (l : List Item) : ∀ f ∈ itemFields o l, o ≤ f.offset := by
  induction l generalizing o with
  | nil => intro f mem; cases mem
  | cons i rest ih =>
    intro f mem
    rw [itemFields, List.mem_append] at mem
    obtain mem | mem := mem
    · simp only [List.mem_cons, List.not_mem_nil, or_false] at mem
      obtain rfl | rfl | rfl | rfl | rfl | rfl | rfl | rfl | rfl := mem <;> simp
    · exact Nat.le_trans (Nat.le_add_right o 16) (ih (o + 16) f mem)

theorem uncounted_byteList {c : List Nat} {o n : Nat} (l : List Nat) (short : l.length ≤ n) (apart : ∀ x ∈ c, x < o ∨ o + n < x) :
    uncounted c (byteList o l) = byteList o l := uncounted_apart fun f mem hit => by
  have place := byteList_mem _ _ f mem
  have := apart _ hit
  omega

theorem stationRecord_uncounted (s : State) (i : StationId) : stationRecord s false i = uncounted [18, 29] (stationRecord s true i) := by
  unfold stationRecord
  simp only [uncounted_append]
  rw [uncounted_byteList (n := 32) _ ?_ (by simp)]
  · simp [uncounted, header]
  · split
    · simp [Nat.min_le_left]
    · simp

theorem bayRecord_uncounted (s : State) (b : BayId) : bayRecord s false b = uncounted [42, 52] (bayRecord s true b) := by
  unfold bayRecord
  simp only [uncounted_append]
  rw [uncounted_byteList (n := 4) _ (by simp [Nat.min_le_left]) (by simp)]
  simp [uncounted, header]

theorem printerRecord_uncounted (s : State) (p : PrinterId) : printerRecord s false p = uncounted [112, 150] (printerRecord s true p) := by
  unfold printerRecord
  simp only [uncounted_append]
  rw [uncounted_byteList (n := 32) _ (by simp [Nat.min_le_left]) (by simp), uncounted_byteList (n := 32) _ (by simp [Nat.min_le_left]) (by simp)]
  simp [uncounted, header]

theorem terminalRecord_uncounted (s : State) : terminalRecord s false = uncounted [28] (terminalRecord s true) := by
  have waits : ∀ l, uncounted [28] (waitFields 40 l) = waitFields 40 l := fun l => uncounted_apart fun f mem => by
    have := waitFields_mem _ _ f mem
    simp only [List.mem_singleton]
    omega
  have voids : ∀ l, uncounted [28] (voidFields 72 l) = voidFields 72 l := fun l => uncounted_apart fun f mem => by
    have := voidFields_mem _ _ f mem
    simp only [List.mem_singleton]
    omega
  have till : ∀ l, uncounted [28] (tillFigures 204 l) = tillFigures 204 l := fun l => uncounted_apart fun f mem => by
    have := tillFigures_mem _ _ f mem
    simp only [List.mem_singleton]
    omega
  unfold terminalRecord
  simp only [uncounted_append, waits, voids, till]
  simp [uncounted, header]

/-- R173: the offsets of the countdown and progress fields of a unit record. -/
def countingFields (n : UnitId) : List Nat :=
  if n.val < 4 then [18, 29] else if n.val < 8 then [42, 52] else if n.val < 10 then [112, 150] else if n.val = 10 then [28] else []

theorem unitRecord_uncounted (s : State) (n : UnitId) : unitRecord s false n = uncounted (countingFields n) (unitRecord s true n) := by
  unfold unitRecord countingFields
  split
  · exact stationRecord_uncounted s _
  split
  · exact bayRecord_uncounted s _
  split
  · exact printerRecord_uncounted s _
  split
  · exact terminalRecord_uncounted s
  · exact (uncounted_apart fun f _ => List.not_mem_nil).symm

theorem orderRecord_uncounted (s : State) (o : OrderId) : orderRecord s false o = uncounted [16] (orderRecord s true o) := by
  have items : ∀ l, uncounted [16] (itemFields 128 l) = itemFields 128 l := fun l => uncounted_apart fun f mem => by
    have := itemFields_mem _ _ f mem
    simp only [List.mem_singleton]
    omega
  unfold orderRecord
  dsimp only
  split
  · rfl
  · simp only [uncounted_append, items]
    simp [uncounted]

/-! ## The interrupt message (R175) -/

theorem closeEvent_sends {before t : State} (run : t.part = .run) (up : t.pcieUp = true) (on : t.msiEnable = true)
    (was : attnFlags before &&& before.attnEnable = 0)
    (is : attnFlags (markChanges before t) &&& (markChanges before t).attnEnable ≠ 0) :
    closeEvent before t = { markChanges before t with out := t.out ++ [.interruptMessage] } := by
  have edge : (!attnPending before && attnPending (markChanges before t)) = true := by
    simp only [attnPending, was, bne_self_eq_false, Bool.not_false, Bool.true_and, bne_iff_ne]
    exact is
  exact (if_pos edge).trans (if_pos ⟨run, up, on⟩)

theorem closeEvent_silent {before t : State} (silent : t.part ≠ .run ∨ t.pcieUp = false ∨ t.msiEnable = false
    ∨ attnFlags before &&& before.attnEnable ≠ 0 ∨ attnFlags (markChanges before t) &&& (markChanges before t).attnEnable = 0) :
    closeEvent before t = markChanges before t := by
  by_cases edge : (!attnPending before && attnPending (markChanges before t)) = true
  · refine (if_pos edge).trans (if_neg ?_)
    rintro ⟨run, up, on⟩
    have off : (markChanges before t).part = t.part ∧ (markChanges before t).pcieUp = t.pcieUp
      ∧ (markChanges before t).msiEnable = t.msiEnable := ⟨rfl, rfl, rfl⟩
    rw [off.1] at run
    rw [off.2.1] at up
    rw [off.2.2] at on
    simp only [attnPending, Bool.and_eq_true, Bool.not_eq_true', bne_eq_false_iff_eq, bne_iff_ne] at edge
    obtain h | h | h | h | h := silent
    · exact h run
    · rw [up] at h; cases h
    · rw [on] at h; cases h
    · exact h edge.1
    · exact edge.2 h
  · exact if_neg edge

/-- Settles O18. -/
theorem settlingLeavesTheRestAlone : Obligations.SettlingLeavesTheRestAlone := by
  refine ⟨fun before at0 u => settled_closeEvent at0 before u, ?_, ?_, fun s o => ⟨?_, fun run k bound => ?_⟩, ?_, fun before u =>
    ⟨_, if roomGrew before (releaseBoth (noteChanges before u)) then scanHeld (releaseBoth (noteChanges before u))
      else releaseBoth (noteChanges before u), rfl, ?_, rfl⟩⟩
  · rintro before t u rfl
    exact ⟨unitChanged_markChanges before t, orderChanged_markChanges before t, rfl⟩
  · rintro s n counting rfl
    exact ⟨unitRecord_uncounted s n, fun run k bound => (windowByte_run s run _).trans (windowByteRun_unit s n k bound)⟩
  · rw [orderRecord_uncounted]
    simp only [uncounted, List.mem_singleton]
  · exact (windowByte_run s run _).trans (windowByteRun_order s o k bound)
  · rintro before t u rfl
    exact ⟨closeEvent_sends, closeEvent_silent⟩
  · split
    · exact .inr rfl
    · exact .inl rfl

end Sys2Proof.Machine
end

section
/-! SUPPORT. The stock table (R62 to R72): its figures, the choice of a printer, the orders a release takes and what becomes of each, and
the scan of the held list. -/

namespace Sys2Proof.Machine

/-! ## The figures (R62 to R67) -/

section Figures
variable {s : State} {p : PrinterId} {o : OrderId}

theorem usable_eq (s : State) (p : PrinterId) : s.usable p = match (s.printer p).state with
    | .ready | .printing | .paused => (s.entry p).reported
    | .faulted | .offline => if (s.entry p).grace = none then 0 else (s.entry p).reported
    | .service | .absent => 0 := by
  unfold State.usable
  cases (s.entry p).grace <;> rfl

theorem reservation_unplaced (away : (s.order o).placement = none) : s.reservation o = 0 := by
  unfold State.reservation
  rw [away]

theorem reservation_placed (here : (s.order o).placement = some p) :
    s.reservation o = remainingUnits (s.order o) + s.inFlightUnits p o := by
  unfold State.reservation
  rw [here]

theorem inFlightUnits_none (other : ∀ c, (s.printer p).copy = some c → c.order = o → c.releasedEarly = true) : s.inFlightUnits p o = 0 := by
  unfold State.inFlightUnits
  split
  next c copy =>
    refine if_neg fun ⟨own, kept, _⟩ => ?_
    rw [other c copy own] at kept
    cases kept
  next => rfl

theorem inFlightUnits_own {c : Copy} {i : Item} (copy : (s.printer p).copy = some c) (own : c.order = o) (kept : c.releasedEarly = false)
    (item : (s.order o).items[c.item]? = some i) : s.inFlightUnits p o = if i.state = .unprintable then 0 else sizeUnits c.size := by
  have printable : itemPrintable (s.order o) c.item = true ↔ ¬ i.state = .unprintable := by
    unfold itemPrintable
    rw [item]
    simp
  unfold State.inFlightUnits
  simp only [copy, own, kept, printable, true_and]
  split <;> simp_all

theorem remainingUnits_eq (r : Order) : remainingUnits r =
    (r.items.map fun i => (if i.dropped = true ∨ i.state = .done ∨ i.state = .unprintable then 0
      else i.quantity - i.printed - i.failed - i.inFlight) * sizeUnits i.size).sum := by
  unfold remainingUnits
  exact congrArg List.sum (List.map_congr_left fun i _ => Nat.mul_comm _ _)

theorem trailing_none (idle : (s.printer p).copy = none) : s.trailing p = 0 := by
  unfold State.trailing
  rw [idle]

theorem trailing_some {c : Copy} (copy : (s.printer p).copy = some c) :
    s.trailing p = if c.releasedEarly = false ∧ (s.order c.order).placement ≠ some p then sizeUnits c.size else 0 := by
  unfold State.trailing
  rw [copy]
  cases early : c.releasedEarly <;> by_cases placed : (s.order c.order).placement = some p <;> simp [early, placed]

theorem sum_filter {α : Type} (keep : α → Bool) (f : α → Nat) (l : List α) :
    ((l.filter keep).map f).sum = (l.map fun x => if keep x = true then f x else 0).sum := by
  induction l with
  | nil => rfl
  | cons x rest ih => by_cases k : keep x = true <;> simp [k, ih]

theorem committed_eq (s : State) (p : PrinterId) : s.committed p =
    (((List.finRange 32).filter fun o => (s.order o).placement == some p).map s.reservation).sum + s.trailing p
      + (s.entry p).pendingConsumption := by
  unfold State.committed State.reserved
  rw [sum_filter]
  simp only [beq_iff_eq]

end Figures

/-! ## The release (R32, R69, R70) -/

section Release
variable {p : PrinterId} {o : OrderId} {s : State}

theorem short_iff (s : State) (p : PrinterId) : short s p = true ↔ s.usable p < s.committed p := decide_eq_true_iff

theorem short_false (enough : s.committed p ≤ s.usable p) : short s p = false := by
  rw [Bool.eq_false_iff, ne_eq, short_iff]
  omega

theorem releaseStep_of_enough (enough : s.committed p ≤ s.usable p) (o : OrderId) : releaseStep p o s = s := by
  refine if_neg fun ⟨lacks, _⟩ => ?_
  rw [short_false enough] at lacks
  cases lacks

theorem releaseCopy_of_enough (enough : s.committed p ≤ s.usable p) : releaseCopy p s = s := by
  refine if_neg fun lacks => ?_
  rw [short_false enough] at lacks
  cases lacks

theorem forEach_self {α : Type} {f : α → State → State} {s : State} (stays : ∀ a, f a s = s) (l : List α) : forEach l f s = s := by
  induction l with
  | nil => rfl
  | cons a rest ih => rw [forEach_cons, stays, ih]

theorem release_of_enough (enough : s.committed p ≤ s.usable p) : release p s = s := by
  unfold release
  rw [forEach_self (releaseStep_of_enough enough), releaseCopy_of_enough enough]

theorem releaseStep_eq (p : PrinterId) (o : OrderId) (s : State) :
    releaseStep p o s = if s.usable p < s.committed p ∧ remainingUnits (s.order o) ≠ 0 then releaseOrder p o s else s := by
  unfold releaseStep
  simp only [short_iff]

theorem release_eq (p : PrinterId) (s : State) : release p s = releaseCopy p ((releaseOrderList s p).foldl (fun t o =>
    if t.usable p < t.committed p ∧ remainingUnits (t.order o) ≠ 0 then releaseOrder p o t else t) s) := by
  unfold release forEach
  simp only [releaseStep_eq]

/-! ### The orders a release takes -/

theorem mem_insertNewest (s : State) (o x : OrderId) (l : List OrderId) : x ∈ insertNewest s o l ↔ x = o ∨ x ∈ l := by
  induction l with
  | nil => simp [insertNewest]
  | cons y rest ih =>
    unfold insertNewest
    split
    · simp
    · rw [List.mem_cons, ih, List.mem_cons, or_left_comm]

/-- Newest quote stamp first. -/
def NewestFirst (s : State) (l : List OrderId) : Prop := l.Pairwise fun a b => (s.order b).stamp ≤ (s.order a).stamp

theorem newestFirst_insert {l : List OrderId} (o : OrderId) (sorted : NewestFirst s l) : NewestFirst s (insertNewest s o l) := by
  induction l with
  | nil => exact List.pairwise_singleton _ _
  | cons y rest ih =>
    obtain ⟨first, sorted'⟩ := List.pairwise_cons.1 sorted
    unfold insertNewest
    split
    next newer =>
      refine List.pairwise_cons.2 ⟨fun b mem => ?_, sorted⟩
      obtain rfl | mem := List.mem_cons.1 mem
      · exact Nat.le_of_lt newer
      · exact Nat.le_trans (first b mem) (Nat.le_of_lt newer)
    next older =>
      refine List.pairwise_cons.2 ⟨fun b mem => ?_, ih sorted'⟩
      obtain rfl | mem := (mem_insertNewest s o b rest).1 mem
      · exact Nat.le_of_not_lt older
      · exact first b mem

theorem nodup_insertNewest {l : List OrderId} {o : OrderId} (new : o ∉ l) (nodup : l.Nodup) : (insertNewest s o l).Nodup := by
  induction l with
  | nil => exact List.pairwise_singleton _ o
  | cons y rest ih =>
    obtain ⟨notin, nodup'⟩ := List.nodup_cons.1 nodup
    obtain ⟨ne, new'⟩ := not_or.1 ((not_congr List.mem_cons).1 new)
    unfold insertNewest
    split
    · exact List.nodup_cons.2 ⟨new, nodup⟩
    · refine List.nodup_cons.2 ⟨fun mem => ?_, ih new' nodup'⟩
      obtain e | mem := (mem_insertNewest s o y rest).1 mem
      · exact ne e.symm
      · exact notin mem

theorem sortedNewest {l : List OrderId} (nodup : l.Nodup) :
    (∀ x, x ∈ l.foldr (insertNewest s) [] ↔ x ∈ l) ∧ NewestFirst s (l.foldr (insertNewest s) []) ∧ (l.foldr (insertNewest s) []).Nodup := by
  induction l with
  | nil => exact ⟨fun _ => Iff.rfl, List.Pairwise.nil, List.nodup_nil⟩
  | cons y rest ih =>
    obtain ⟨notin, nodup'⟩ := List.nodup_cons.1 nodup
    obtain ⟨members, sorted, distinct⟩ := ih nodup'
    refine ⟨fun x => ?_, newestFirst_insert y sorted, nodup_insertNewest (fun mem => notin ((members y).1 mem)) distinct⟩
    rw [List.foldr_cons, mem_insertNewest, members, List.mem_cons]

theorem placedNewestFirst_spec (s : State) (p : PrinterId) (st : OrderState) :
    (∀ x, x ∈ placedNewestFirst s p st ↔ (s.order x).state = st ∧ (s.order x).placement = some p)
      ∧ NewestFirst s (placedNewestFirst s p st) ∧ (placedNewestFirst s p st).Nodup := by
  obtain ⟨members, sorted, distinct⟩ := sortedNewest (s := s)
    ((List.nodup_finRange 32).filter fun o => (s.order o).state == st && (s.order o).placement == some p)
  refine ⟨fun x => (members x).trans ?_, sorted, distinct⟩
  simp [List.mem_filter]

/-! ### What becomes of an order -/

theorem otherPrinter_ne (p : PrinterId) : otherPrinter p ≠ p := by
  match p with
  | 0 => decide
  | 1 => decide

theorem leaveQueues_rest (o : OrderId) (s : State) : { leaveQueues o s with printers := s.printers } = s := rfl

theorem printer_leaveQueues (o : OrderId) (s : State) (q : PrinterId) :
    (leaveQueues o s).printer q = { s.printer q with queue := removeOrder o (s.printer q).queue } := by
  unfold leaveQueues
  match q with
  | 0 => rw [printer_onPrinter_ne _ (by decide), printer_onPrinter_same]
  | 1 => rw [printer_onPrinter_same, printer_onPrinter_ne _ (by decide)]

theorem order_joinQueue (o : OrderId) (p : PrinterId) (s : State) (x : OrderId) : (joinQueue o p s).order x = s.order x := rfl

theorem printer_joinQueue (o : OrderId) (p : PrinterId) (s : State) (q : PrinterId) :
    (joinQueue o p s).printer q = { s.printer q with queue := removeOrder o (s.printer q).queue ++ if p = q then [o] else [] } := by
  unfold joinQueue
  by_cases own : p = q
  · subst own
    rw [printer_onPrinter_same, printer_leaveQueues, if_pos rfl]
  · rw [printer_onPrinter_ne _ own, printer_leaveQueues, if_neg own, List.append_nil]

theorem printer_onOrder (s : State) (o : OrderId) (f : Order → Order) (q : PrinterId) : (s.onOrder o f).printer q = s.printer q := rfl

theorem heldList_joinQueue (o : OrderId) (p : PrinterId) (s : State) : (joinQueue o p s).heldList = s.heldList := rfl

theorem stock_joinQueue (o : OrderId) (p : PrinterId) (s : State) : (joinQueue o p s).stock = s.stock := rfl

/-- What the way of an order to a printer's queue or to the held list leaves in the tables (R30 to R33, R71, R82). -/
structure Moved (o : OrderId) (r : Order) (queues : PrinterId → List OrderId) (held : List OrderId) (s t : State) : Prop where
  orders : ∀ x, t.order x = if o = x then r else s.order x
  printers : ∀ q, t.printer q = { s.printer q with queue := queues q }
  heldList : t.heldList = held
  stock : t.stock = s.stock

theorem moved_makePaid (o : OrderId) (p : PrinterId) (s : State) :
    Moved o { s.order o with state := .paid, hold := .none, placement := some p, holdReason := none }
      (fun q => removeOrder o (s.printer q).queue ++ if p = q then [o] else []) s.heldList s (makePaid o p s) where
  orders x := by
    unfold makePaid
    rw [order_joinQueue, order_onOrder]
    split
    next own => rw [own]
    next => rfl
  printers q := by
    unfold makePaid
    rw [printer_joinQueue, printer_onOrder]
  heldList := heldList_joinQueue o p _
  stock := stock_joinQueue o p _

theorem Moved.of_beyond {o : OrderId} {r : Order} {queues : PrinterId → List OrderId} {held : List OrderId} {s t u : State}
    (moved : Moved o r queues held s t) (same : u.beyond = t.beyond) : Moved o r queues held s u where
  orders x := (order_of_beyond same x).trans (moved.orders x)
  printers q := (printer_of_beyond same q).trans (moved.printers q)
  heldList := (heldList_of_beyond same).trans moved.heldList
  stock := (stock_of_beyond same).trans moved.stock

/-- R31, R32, R71: the tables after an order has joined the held list. -/
def heldTables (o : OrderId) (s : State) : State :=
  { ((leaveHeld o (leaveQueues o s)).onOrder o fun r =>
      { r with state := .held, hold := .none, placement := none, holdReason := some .noMedia }) with
    heldList := removeOrder o s.heldList ++ [o] }

theorem beyond_enterHeld (o : OrderId) (s : State) : (enterHeld o s).beyond = (heldTables o s).beyond := by
  unfold enterHeld
  rw [beyond_evalLamps]
  rfl

theorem printer_heldTables (o : OrderId) (s : State) (q : PrinterId) : (heldTables o s).printer q = (leaveQueues o s).printer q :=
  congrArg (fun v => look v q) (rfl : (heldTables o s).printers = (leaveQueues o s).printers)

theorem order_leaveAll (o : OrderId) (s : State) (x : OrderId) : (leaveHeld o (leaveQueues o s)).order x = s.order x := rfl

theorem order_heldTables (o : OrderId) (s : State) (x : OrderId) : (heldTables o s).order x = if o = x then
    { s.order x with state := .held, hold := .none, placement := none, holdReason := some .noMedia } else s.order x := by
  refine (look_upd (leaveHeld o (leaveQueues o s)).orders o x _).trans ?_
  rw [show look (leaveHeld o (leaveQueues o s)).orders x = s.order x from order_leaveAll o s x]

theorem heldTables_heldList (o : OrderId) (s : State) : (heldTables o s).heldList = removeOrder o s.heldList ++ [o] := rfl
theorem heldTables_stock (o : OrderId) (s : State) : (heldTables o s).stock = s.stock := by
  simp [heldTables, leaveHeld, leaveQueues]

theorem moved_heldTables (o : OrderId) (s : State) :
    Moved o { s.order o with state := .held, hold := .none, placement := none, holdReason := some .noMedia }
      (fun q => removeOrder o (s.printer q).queue) (removeOrder o s.heldList ++ [o]) s (heldTables o s) where
  orders x := by
    rw [order_heldTables]
    split
    next own => rw [own]
    next => rfl
  printers q := (printer_heldTables o s q).trans (printer_leaveQueues o s q)
  heldList := heldTables_heldList o s
  stock := heldTables_stock o s

theorem moved_enterHeld (o : OrderId) (s : State) :
    Moved o { s.order o with state := .held, hold := .none, placement := none, holdReason := some .noMedia }
      (fun q => removeOrder o (s.printer q).queue) (removeOrder o s.heldList ++ [o]) s (enterHeld o s) := (moved_heldTables o s).of_beyond (beyond_enterHeld o s)

theorem moved_placeHeld (o : OrderId) (p : PrinterId) (s : State) :
    Moved o { s.order o with state := .paid, hold := .none, placement := some p, holdReason := none }
      (fun q => removeOrder o (s.printer q).queue ++ if p = q then [o] else []) (removeOrder o s.heldList) s (placeHeld o p s) := by
  obtain ⟨orders, printers, held, stock⟩ := moved_makePaid o p (markHeldList (leaveHeld o s))
  exact Moved.of_beyond ⟨orders, printers, held, stock⟩ (beyond_evalLamps _ _)

theorem Moved.copy {o : OrderId} {r : Order} {queues : PrinterId → List OrderId} {held : List OrderId} {s t : State}
    (moved : Moved o r queues held s t) (q : PrinterId) : (t.printer q).copy = (s.printer q).copy := by
  rw [moved.printers]

theorem Moved.others {o : OrderId} {r : Order} {queues : PrinterId → List OrderId} {held : List OrderId} {s t : State}
    (moved : Moved o r queues held s t) {x : OrderId} (ne : x ≠ o) : t.order x = s.order x := (moved.orders x).trans (if_neg ne.symm)

section Cases
variable (p : PrinterId) {o : OrderId} {s : State} (fits : Bool)
  (room : fits = decide (remainingUnits (s.order o) ≤ s.freeRoom (otherPrinter p)))
include room

theorem releaseOrder_priced (state : (s.order o).state = .priced) : releaseOrder p o s = if fits = true then
    s.onOrder o fun r => { r with placement := some (otherPrinter p) } else toDraft o .noMedia s := by
  simp only [releaseOrder, state, room]

theorem releaseOrder_paying (state : (s.order o).state = .paying) : releaseOrder p o s =
    s.onOrder o fun r => { r with placement := if fits = true then some (otherPrinter p) else none } := by
  simp only [releaseOrder, state, room]

theorem releaseOrder_queued (state : (s.order o).state = .paid ∨ (s.order o).state = .printing) :
    releaseOrder p o s = if fits = true then makePaid o (otherPrinter p) s else enterHeld o s := by
  rcases state with e | e <;> simp only [releaseOrder, e, room]

end Cases

/-- R69: an order in another state stays. -/
theorem releaseOrder_other (p : PrinterId) {o : OrderId} {s : State} (state : ¬ ((s.order o).state = .priced ∨ (s.order o).state = .paying
    ∨ (s.order o).state = .paid ∨ (s.order o).state = .printing)) : releaseOrder p o s = s := by
  unfold releaseOrder
  split <;> simp_all

/-- R69: what a release leaves alone. -/
theorem releaseOrder_keeps (p : PrinterId) (o : OrderId) (s : State) :
    (∀ x, x ≠ o → (releaseOrder p o s).order x = s.order x) ∧ (∀ q, ((releaseOrder p o s).printer q).copy = (s.printer q).copy)
      ∧ (releaseOrder p o s).stock = s.stock := by
  by_cases priced : (s.order o).state = .priced
  · rw [releaseOrder_priced p _ rfl priced]
    split <;> exact ⟨fun x ne => order_onOrder_ne _ ne.symm _, fun q => rfl, rfl⟩
  by_cases paying : (s.order o).state = .paying
  · rw [releaseOrder_paying p _ rfl paying]
    exact ⟨fun x ne => order_onOrder_ne _ ne.symm _, fun q => rfl, rfl⟩
  by_cases queued : (s.order o).state = .paid ∨ (s.order o).state = .printing
  · rw [releaseOrder_queued p _ rfl queued]
    split
    · exact ⟨fun x => (moved_makePaid o _ s).others, (moved_makePaid o _ s).copy, (moved_makePaid o _ s).stock⟩
    · exact ⟨fun x => (moved_enterHeld o s).others, (moved_enterHeld o s).copy, (moved_enterHeld o s).stock⟩
  · rw [releaseOrder_other p (by grind)]
    exact ⟨fun _ _ => rfl, fun _ => rfl, rfl⟩

/-! ### The copy in flight (R69, step 5) -/

theorem onPrinter_congr {s : State} {p : PrinterId} {f g : Printer → Printer} (same : f (s.printer p) = g (s.printer p)) :
    s.onPrinter p f = s.onPrinter p g := congrArg (fun v => { s with printers := v }) (upd_congr _ _ _ _ same)

theorem onCopy_none {s : State} {p : PrinterId} (idle : (s.printer p).copy = none) (f : Copy → Copy) : s.onCopy p f = s := by
  refine onPrinter_self ?_
  rw [idle, Option.map_none, ← idle]

theorem copy_onCopy (s : State) (p : PrinterId) (f : Copy → Copy) : ((s.onCopy p f).printer p).copy = (s.printer p).copy.map f := by
  unfold State.onCopy
  rw [printer_onPrinter_same]

theorem onCopy_some {s : State} {p : PrinterId} {c : Copy} (copy : (s.printer p).copy = some c) (f : Copy → Copy) :
    s.onCopy p f = s.onPrinter p fun q => { q with copy := some (f c) } := by
  refine onPrinter_congr ?_
  rw [copy, Option.map_some]

theorem abortCopy_running {s : State} {p : PrinterId} {c : Copy} (copy : (s.printer p).copy = some c) (runs : c.abortCause = none)
    (cause : CopyResult) : abortCopy p cause s = { (s.onPrinter p fun q =>
      { q with copy := some { c with abortCause := some cause, abortDeadline := some (s.clock + 2#32), beginWait := none } }) with
      out := s.out ++ [.abortCopy p c.id],
      port := { s.port with lines := upd s.port.lines (requesterIndex (.printer p)) fun _ => [] } } := by
  unfold abortCopy
  rw [copy]
  refine (if_neg (by rw [runs]; decide)).trans ?_
  rw [onCopy_some (s := s.emit (.abortCopy p c.id)) copy]
  rfl

theorem abortCopy_aborting {s : State} {p : PrinterId} {c : Copy} {was : CopyResult} (copy : (s.printer p).copy = some c)
    (aborts : c.abortCause = some was) (cause : CopyResult) : abortCopy p cause s = s := by
  unfold abortCopy
  rw [copy]
  exact if_pos (by rw [aborts]; rfl)

theorem abortCopy_idle {s : State} {p : PrinterId} (idle : (s.printer p).copy = none) (cause : CopyResult) : abortCopy p cause s = s := by
  unfold abortCopy
  rw [idle]

section Short
variable (lacks : s.usable p < s.committed p)
include lacks

theorem releaseCopy_short : releaseCopy p s = abortCopy p .aborted (s.onCopy p fun c => { c with releasedEarly := true }) :=
  if_pos ((short_iff s p).2 lacks)

theorem releaseCopy_running {c : Copy} (copy : (s.printer p).copy = some c) (runs : c.abortCause = none) :
    releaseCopy p s = { (s.onPrinter p fun q =>
      { q with copy := some { c with releasedEarly := true, abortCause := some .aborted, abortDeadline := some (s.clock + 2#32),
                                     beginWait := none } }) with
      out := s.out ++ [.abortCopy p c.id],
      port := { s.port with lines := upd s.port.lines (requesterIndex (.printer p)) fun _ => [] } } := by
  have early : ((s.onCopy p fun c => { c with releasedEarly := true }).printer p).copy = some { c with releasedEarly := true } := by
    rw [copy_onCopy, copy, Option.map_some]
  rw [releaseCopy_short lacks, abortCopy_running early runs, onCopy_some copy]
  simp only [State.onPrinter, upd_upd]

theorem releaseCopy_aborting {c : Copy} {cause : CopyResult} (copy : (s.printer p).copy = some c) (aborts : c.abortCause = some cause) :
    releaseCopy p s = s.onPrinter p fun q => { q with copy := some { c with releasedEarly := true } } := by
  have early : ((s.onCopy p fun c => { c with releasedEarly := true }).printer p).copy = some { c with releasedEarly := true } := by
    rw [copy_onCopy, copy, Option.map_some]
  rw [releaseCopy_short lacks, abortCopy_aborting early aborts, onCopy_some copy]

end Short

theorem releaseCopy_idle (idle : s.committed p ≤ s.usable p ∨ (s.printer p).copy = none) : releaseCopy p s = s := by
  by_cases enough : s.committed p ≤ s.usable p
  · exact releaseCopy_of_enough enough
  · obtain e | idle := idle
    · exact absurd e enough
    · rw [releaseCopy_short (Nat.lt_of_not_le enough), onCopy_none idle, abortCopy_idle idle]

end Release

/-! ## The scan of the held list (R72) -/

theorem scanStep_placed {o : OrderId} {p : PrinterId} {s : State} (held : (s.order o).state = .held)
    (room : s.choosePrinter (remainingUnits (s.order o)) = some p) : scanStep o s = placeHeld o p s := by
  refine (if_pos held).trans ?_
  rw [room]

theorem scanStep_noRoom {o : OrderId} {s : State} (held : (s.order o).state = .held)
    (full : s.choosePrinter (remainingUnits (s.order o)) = none) : scanStep o s = s := by
  refine (if_pos held).trans ?_
  rw [full]

theorem roomGrew_iff (before s : State) :
    roomGrew before s = true ↔ before.freeRoom 0 < s.freeRoom 0 ∨ before.freeRoom 1 < s.freeRoom 1 := by simp [roomGrew]

theorem scanHeld_eq (s : State) : scanHeld s = s.heldList.foldl (fun t x => scanStep x t) s := rfl

/-- R69: what becomes of one order of a release. -/
theorem releaseOrder_cases (p : PrinterId) (o : OrderId) (s : State) {fits : Bool}
    (room : fits = decide (remainingUnits (s.order o) ≤ s.freeRoom (otherPrinter p))) :
    ((s.order o).state = .paid ∨ (s.order o).state = .printing → fits = true →
      (releaseOrder p o s).order o =
          { s.order o with state := .paid, hold := .none, placement := some (otherPrinter p), holdReason := none }
        ∧ ((releaseOrder p o s).printer p).queue = (s.printer p).queue.filter (· != o)
        ∧ ((releaseOrder p o s).printer (otherPrinter p)).queue = (s.printer (otherPrinter p)).queue.filter (· != o) ++ [o]
        ∧ (releaseOrder p o s).heldList = s.heldList)
    ∧ ((s.order o).state = .paid ∨ (s.order o).state = .printing → fits = false →
      (releaseOrder p o s).order o = { s.order o with state := .held, hold := .none, placement := none, holdReason := some .noMedia }
        ∧ (∀ q, ((releaseOrder p o s).printer q).queue = (s.printer q).queue.filter (· != o))
        ∧ (releaseOrder p o s).heldList = s.heldList.filter (· != o) ++ [o]) := by
  refine ⟨fun queued fit => ?_, fun queued full => ?_⟩
  · have moved := moved_makePaid o (otherPrinter p) s
    rw [releaseOrder_queued p fits room queued, if_pos fit]
    refine ⟨(moved.orders o).trans (if_pos rfl), ?_, ?_, moved.heldList⟩
    · rw [moved.printers]
      simp only [if_neg (otherPrinter_ne p), List.append_nil]
      rfl
    · rw [moved.printers]
      simp only [if_pos]
      rfl
  · have moved := moved_enterHeld o s
    rw [releaseOrder_queued p fits room queued, if_neg (by rw [full]; decide)]
    exact ⟨(moved.orders o).trans (if_pos rfl), fun q => by rw [moved.printers]; rfl, moved.heldList⟩

/-- Settles O19. -/
theorem stockFiguresPlaceAndRelease : Obligations.StockFiguresPlaceAndRelease := by
  refine ⟨fun s p => ?_, fun s p => ?_, fun s o => ?_, ?_⟩
  · exact ⟨usable_eq s p, fun o => reservation_unplaced, fun o here other => by
        rw [reservation_placed here, inFlightUnits_none other, Nat.add_zero],
      fun o c i here copy own kept item => by rw [reservation_placed here, inFlightUnits_own copy own kept item],
      remainingUnits_eq, trailing_none, fun c => trailing_some, committed_eq s p, rfl, fun need => choosePrinter_some,
      fun need => choosePrinter_none⟩
  · refine ⟨release_of_enough, release_eq p s, ⟨_, _, rfl, (placedNewestFirst_spec s p .priced).1, (placedNewestFirst_spec s p .paying).1,
      (placedNewestFirst_spec s p .priced).2.1, (placedNewestFirst_spec s p .priced).2.2, (placedNewestFirst_spec s p .paying).2.1,
      (placedNewestFirst_spec s p .paying).2.2⟩, ?_, fun lacks c copy runs => releaseCopy_running lacks copy runs,
      fun lacks c cause copy aborts => releaseCopy_aborting lacks copy aborts, releaseCopy_idle⟩
    rintro o fits t room rfl
    obtain ⟨moves, holds⟩ := releaseOrder_cases p o s room
    exact ⟨fun priced fit => (releaseOrder_priced p fits room priced).trans (if_pos fit),
      fun priced full => (releaseOrder_priced p fits room priced).trans (if_neg (by rw [full]; decide)),
      releaseOrder_paying p fits room, moves, holds, releaseOrder_keeps p o s⟩
  · refine ⟨scanHeld_eq s, fun held full0 full1 => scanStep_noRoom held (choosePrinter_none.2 ⟨full0, full1⟩), ?_⟩
    rintro p t held room rfl
    have moved := moved_placeHeld o p s
    rw [scanStep_placed held room]
    refine ⟨(moved.orders o).trans (if_pos rfl), ?_, moved.heldList, fun x => moved.others, moved.copy, moved.stock⟩
    rw [moved.printers]
    simp only [if_pos]
    rfl
  · intro before u v w noted scanned
    have released : v = releaseBoth (noteChanges before u) := noted
    rw [released, ← ite_congr (propext (roomGrew_iff before _)) (fun _ => rfl) (fun _ => rfl)] at scanned
    rw [scanned]
    rfl

end Sys2Proof.Machine
end

section
/-! SUPPORT. What an IDLE terminal takes up (R130, R134, R141, R144), the reference of an authorization (R131), the order of the settlements
and the room of the void list (R143). -/

namespace Sys2Proof.Machine

/-! ## The order of the settlements (R130) -/

theorem mem_insertSettlement_iff (e x : PendingSettlement) (l : List PendingSettlement) : x ∈ insertSettlement e l ↔ x = e ∨ x ∈ l := by
  induction l with
  | nil => simp [insertSettlement]
  | cons y rest ih =>
    unfold insertSettlement
    split
    · simp
    · rw [List.mem_cons, ih, List.mem_cons, or_left_comm]

theorem length_insertSettlement (e : PendingSettlement) (l : List PendingSettlement) : (insertSettlement e l).length = l.length + 1 := by
  induction l with
  | nil => rfl
  | cons y rest ih =>
    unfold insertSettlement
    split
    · rfl
    · rw [List.length_cons, ih, List.length_cons]

/-- Ascending order index. -/
def Ascending (l : List PendingSettlement) : Prop := l.Pairwise fun a b => a.order ≤ b.order

theorem ascending_insertSettlement (e : PendingSettlement) {l : List PendingSettlement} (sorted : Ascending l) :
    Ascending (insertSettlement e l) := by
  induction l with
  | nil => exact List.pairwise_singleton _ _
  | cons y rest ih =>
    obtain ⟨first, sorted'⟩ := List.pairwise_cons.1 sorted
    unfold insertSettlement
    split
    next lower =>
      refine List.pairwise_cons.2 ⟨fun b mem => ?_, sorted⟩
      obtain rfl | mem := List.mem_cons.1 mem
      · exact Fin.le_of_lt lower
      · exact Nat.le_trans (Nat.le_of_lt lower) (first b mem)
    next higher =>
      refine List.pairwise_cons.2 ⟨fun b mem => ?_, ih sorted'⟩
      obtain rfl | mem := (mem_insertSettlement_iff e b rest).1 mem
      · exact Fin.not_lt.1 higher
      · exact first b mem

theorem head_insertSettlement {e first : PendingSettlement} {l rest : List PendingSettlement} (sorted : Ascending l)
    (heads : insertSettlement e l = first :: rest) : ∀ x ∈ e :: l, first.order ≤ x.order := by
  intro x mem
  have inside : x ∈ first :: rest := by
    rw [← heads, mem_insertSettlement_iff]
    exact List.mem_cons.1 mem
  have ascending := ascending_insertSettlement e sorted
  rw [heads] at ascending
  obtain rfl | mem := List.mem_cons.1 inside
  · exact Nat.le_refl _
  · exact (List.pairwise_cons.1 ascending).1 x mem

/-! ## The void list (R143) -/

section Voids
variable {ref : W16} {amount attempts : Nat} {s : State}

theorem joinVoid_listed (listed : ∃ e ∈ s.terminal.voidList, e.reference = ref) : joinVoid ref amount attempts s = s :=
  if_pos (by simpa using listed)

theorem joinVoid_room (new : ∀ e ∈ s.terminal.voidList, e.reference ≠ ref) (room : s.terminal.voidList.length < 16) :
    joinVoid ref amount attempts s = s.onTerminal fun t =>
      { t with voidList := t.voidList ++ [{ reference := ref, amount := amount, attempts := attempts }] } := by
  have notListed : ¬ s.terminal.voidList.any (·.reference == ref) = true := by simpa using new
  have stays : (if Config.maxVoids ≤ s.terminal.voidList.length then dropOldestVoid s else s) = s := if_neg (Nat.not_le.2 room)
  refine (if_neg notListed).trans ?_
  simp only [stays]

theorem onTerminal_onTerminal (s : State) (f g : Terminal → Terminal) : (s.onTerminal f).onTerminal g = s.onTerminal fun t => g (f t) := rfl

theorem onTerminal_congr {s : State} {f g : Terminal → Terminal} (same : f s.terminal = g s.terminal) : s.onTerminal f = s.onTerminal g :=
  congrArg (fun t => { s with terminal := t }) same

theorem countAbandoned_eq (amount : Nat) (s : State) : countAbandoned amount s = s.onTerminal fun t =>
    { t with till := { t.till with abandoned := t.till.abandoned.add amount }, latched := { t.latched with voidAbandoned := true } } := rfl

theorem joinVoid_full {d : VoidEntry} {kept : List VoidEntry} (new : ∀ e ∈ s.terminal.voidList, e.reference ≠ ref) (full : 16 ≤ s.terminal.voidList.length)
    (oldest : (s.terminal.voidList.find? fun e => some e.reference != heldVoid s) = some d)
    (left : s.terminal.voidList.filter (·.reference != d.reference) = kept) :
    joinVoid ref amount attempts s = s.onTerminal fun t =>
      { t with voidList := kept ++ [{ reference := ref, amount := amount, attempts := attempts }],
               till := { t.till with abandoned := t.till.abandoned.add d.amount },
               latched := { t.latched with voidAbandoned := true } } := by
  have notListed : ¬ s.terminal.voidList.any (·.reference == ref) = true := by simpa using new
  have drops : (if Config.maxVoids ≤ s.terminal.voidList.length then dropOldestVoid s else s)
      = countAbandoned d.amount (leaveVoidList d.reference s) := by
    refine (if_pos full).trans ?_
    unfold dropOldestVoid
    rw [oldest]
  refine (if_neg notListed).trans ?_
  rw [drops, countAbandoned_eq]
  unfold leaveVoidList
  simp only [onTerminal_onTerminal]
  refine onTerminal_congr ?_
  rw [left]

theorem heldVoid_other (other : ∀ h, s.terminal.holder = some h → h.kind ≠ .listVoid) : heldVoid s = none := by
  unfold heldVoid
  split
  next h holds => exact if_neg (other h holds)
  next => rfl

theorem heldVoid_list {h : Holder} (holds : s.terminal.holder = some h) (list : h.kind = .listVoid) : heldVoid s = some h.reference := by
  unfold heldVoid
  rw [holds]
  exact if_pos list

end Voids

theorem filter_reference {r : W16} {l : List VoidEntry} (others : ∀ x ∈ l, x.reference ≠ r) : l.filter (·.reference != r) = l :=
  List.filter_eq_self.2 fun x mem => by simpa using others x mem

/-! ## References (R131) -/

/-- The counter after k advances. -/
def referenceAfter (r : W16) : Nat → W16
  | 0 => r
  | k + 1 => nextReference (referenceAfter r k)

theorem referenceAfter_succ (r : W16) (k : Nat) : referenceAfter r (k + 1) = referenceAfter (nextReference r) k := by
  induction k with
  | zero => rfl
  | succ k ih =>
    rw [referenceAfter, ih]
    rfl

/-- The counter runs through 1 to 0xFFFF in a ring. -/
theorem referenceAfter_toNat {r : W16} (nonzero : r ≠ 0) (k : Nat) : (referenceAfter r k).toNat = (r.toNat - 1 + k) % 65535 + 1 := by
  have positive : 0 < r.toNat := Nat.pos_of_ne_zero fun zero => nonzero (BitVec.eq_of_toNat_eq zero)
  have bound := r.isLt
  induction k with
  | zero =>
    rw [referenceAfter]
    omega
  | succ k ih =>
    rw [referenceAfter, nextReference]
    split
    next top =>
      have value : (referenceAfter r k).toNat = 65535 := congrArg BitVec.toNat top
      have one : (1#16 : W16).toNat = 1 := rfl
      rw [one]
      omega
    next below =>
      have value : (referenceAfter r k).toNat ≠ 65535 := fun top => below (BitVec.eq_of_toNat_eq top)
      have small := (referenceAfter r k).isLt
      rw [BitVec.toNat_add, show (1 : W16).toNat = 1 from rfl]
      omega

theorem referenceAfter_ne_zero {r : W16} (nonzero : r ≠ 0) (k : Nat) : referenceAfter r k ≠ 0 := fun zero => by
  have value := referenceAfter_toNat nonzero k
  rw [zero] at value
  exact absurd value.symm (Nat.succ_ne_zero _)

theorem referenceAfter_inj {r : W16} (nonzero : r ≠ 0) {j k : Nat} (small : j < 65535) (small' : k < 65535)
    (same : referenceAfter r j = referenceAfter r k) : j = k := by
  have value := referenceAfter_toNat nonzero j
  have value' := referenceAfter_toNat nonzero k
  rw [same] at value
  omega

/-- Of 33 values of the counter, one is no order's. -/
theorem exists_freeReference (s : State) {r : W16} (nonzero : r ≠ 0) : ∃ k, k < 33 ∧ ∀ o, (s.order o).reference ≠ some (referenceAfter r k) := by
  refine Classical.byContradiction fun none => ?_
  have apart : ((List.range 33).map fun k => some (referenceAfter r k)).Nodup := List.pairwise_map.2 <|
    List.pairwise_lt_range.imp_of_mem fun {j k} inJ inK lt same => absurd
      (referenceAfter_inj nonzero (by have := List.mem_range.1 inJ; omega) (by have := List.mem_range.1 inK; omega) (Option.some.inj same))
      (Nat.ne_of_lt lt)
  have taken : (List.range 33).map (fun k => some (referenceAfter r k)) ⊆ (List.finRange 32).map fun o => (s.order o).reference := by
    intro v mem
    obtain ⟨k, inside, rfl⟩ := List.mem_map.1 mem
    refine Classical.byContradiction fun unused => none ⟨k, List.mem_range.1 inside, fun o has => unused ?_⟩
    exact List.mem_map.2 ⟨o, List.mem_finRange o, has⟩
  have fits := apart.length_le_of_subset taken
  rw [List.length_map, List.length_map, List.length_range, List.length_finRange] at fits
  omega

/-- The search ends at the first value that is free. -/
theorem skipLive_spec {s : State} (tries : Nat) {r : W16} {k : Nat} (inside : k < tries) (free : liveReference s (referenceAfter r k) = false) :
    ∃ j, j ≤ k ∧ skipLive s tries r = referenceAfter r j ∧ liveReference s (referenceAfter r j) = false
      ∧ ∀ i, i < j → liveReference s (referenceAfter r i) = true := by
  induction tries generalizing r k with
  | zero => exact absurd inside (Nat.not_lt_zero k)
  | succ n ih =>
    unfold skipLive
    by_cases live : liveReference s r = true
    · rw [if_pos live]
      cases k with
      | zero => rw [show liveReference s (referenceAfter r 0) = true from live] at free; cases free
      | succ k =>
        rw [referenceAfter_succ] at free
        obtain ⟨j, bound, found, ends, before⟩ := ih (Nat.lt_of_succ_lt_succ inside) free
        refine ⟨j + 1, Nat.succ_le_succ bound, by rw [found, referenceAfter_succ], by rw [referenceAfter_succ]; exact ends, fun i lower => ?_⟩
        cases i with
        | zero => exact live
        | succ i =>
          rw [referenceAfter_succ]
          exact before i (Nat.lt_of_succ_lt_succ lower)
    · exact ⟨0, Nat.zero_le k, if_neg live, Bool.eq_false_iff.2 live, fun i lower => absurd lower (Nat.not_lt_zero i)⟩

theorem liveReference_iff {s : State} (none : s.terminal.holder = none) (empty : s.terminal.voidList = []) (r : W16) :
    liveReference s r = true ↔ ∃ o, (s.order o).reference = some r := by
  simp [liveReference, none, empty]

/-! ## The arbiter (R130) -/

section Arbiter
variable {s : State}

theorem arbiter_busy (busy : s.terminal.state ≠ .idle ∨ s.terminal.holder.isSome = true) : arbiter s = s := by
  refine if_neg fun ⟨idle, free⟩ => ?_
  obtain away | held := busy
  · exact away idle
  · rw [free] at held
    cases held

variable (idle : s.terminal.state = .idle) (free : s.terminal.holder = none)
include idle free

theorem arbiter_settlement {e : PendingSettlement} {rest : List PendingSettlement} (pending : s.terminal.pendingSettlements = e :: rest) :
    arbiter s = grantSettlement e s := by
  refine (if_pos ⟨idle, free⟩).trans ?_
  rw [pending]

theorem arbiter_void {e : VoidEntry} {rest : List VoidEntry} (none : s.terminal.pendingSettlements = [])
    (voids : s.terminal.voidList = e :: rest) : arbiter s = grantVoid e s := by
  refine (if_pos ⟨idle, free⟩).trans ?_
  rw [none, voids]

theorem arbiter_pay {e : PayEntry} {rest : List PayEntry} (none : s.terminal.pendingSettlements = []) (empty : s.terminal.voidList = [])
    (waits : s.terminal.waitList = e :: rest) : arbiter s = grantPay e s := by
  refine (if_pos ⟨idle, free⟩).trans ?_
  rw [none, empty, waits]

end Arbiter

/-- R134: the holder of a granted PAY. -/
def payHolder (e : PayEntry) (ref : W16) (s : State) : Holder :=
  { kind := .authorization, reference := ref, amount := orderTotal (s.order e.order), exchange := .opened, order := some e.order,
    slot := some e.slot, attempts := 0, cardSeen := false, cardWaitLimit := some (s.after Config.cardWaitSeconds),
    authorizationLimit := some (s.after s.timers.authorization), abortLimit := none, answerLimit := none }

theorem writeBody_rest (n : SlotId) (body : Body) (s : State) : { writeBody n body s with slots := s.slots } = s := by
  unfold writeBody
  split <;> rfl

theorem body_writeBody {n : SlotId} {s : State} (taken : (s.slot n).state = .taken) (body : Body) :
    ((writeBody n body s).slot n).body = body := by
  unfold writeBody
  rw [if_pos taken, slot_onSlot_same]

/-- R134: State after the grant of a PAY but for the result of its slot and the frame. -/
def payGranted (e : PayEntry) (ref : W16) (s : State) : State :=
  (s.onTerminal fun t =>
    { t with state := .authorizing, holder := some (payHolder e ref s), nextReference := nextReference ref, waitList := t.waitList.tail,
             uncollectedReferences := t.uncollectedReferences.filter (· != ref) }).onOrder e.order fun r =>
    if r.state = .paying then { r with reference := some ref } else r

theorem grantPay_eq (e : PayEntry) (s : State) : grantPay e s =
    (writeBody e.slot (.pay { reference := skipLive s 64 s.terminal.nextReference, asked := orderTotal (s.order e.order), approved := none,
                              code := none, reason := none, granted := some s.clock })
      (payGranted e (skipLive s 64 s.terminal.nextReference) s)).emit
      (.authorize (skipLive s 64 s.terminal.nextReference) (orderTotal (s.order e.order)) (orZero (·.currency) (s.order e.order).prices)) := rfl

theorem payGranted_order (e : PayEntry) (ref : W16) {s : State} (paying : (s.order e.order).state = .paying) :
    (payGranted e ref s).order e.order = { s.order e.order with reference := some ref } := by
  unfold payGranted
  rw [order_onOrder_same]
  exact if_pos paying

theorem payGranted_out (e : PayEntry) (ref : W16) (s : State) : (payGranted e ref s).out = s.out := rfl
theorem payGranted_slot (e : PayEntry) (ref : W16) (s : State) (n : SlotId) : (payGranted e ref s).slot n = s.slot n := rfl
theorem payGranted_terminal (e : PayEntry) (ref : W16) (s : State) : (payGranted e ref s).terminal = { s.terminal with
    state := .authorizing, holder := some (payHolder e ref s), nextReference := nextReference ref, waitList := s.terminal.waitList.tail,
    uncollectedReferences := s.terminal.uncollectedReferences.filter (· != ref) } := rfl

/-- R134: the parts of State that a grant of a PAY changes. -/
theorem grantPay_spec (e : PayEntry) {s : State} (paying : (s.order e.order).state = .paying) {ref : W16}
    (found : skipLive s 64 s.terminal.nextReference = ref) :
    (grantPay e s).terminal = { s.terminal with
        state := .authorizing, holder := some (payHolder e ref s), nextReference := nextReference ref, waitList := s.terminal.waitList.tail,
        uncollectedReferences := s.terminal.uncollectedReferences.filter (· != ref) }
      ∧ (grantPay e s).order e.order = { s.order e.order with reference := some ref }
      ∧ (grantPay e s).out = s.out ++ [.authorize ref (orderTotal (s.order e.order)) (((s.order e.order).prices.map (·.currency)).getD 0)]
      ∧ ((s.slot e.slot).state = .taken → ((grantPay e s).slot e.slot).body =
          .pay { reference := ref, asked := orderTotal (s.order e.order), approved := none, code := none, reason := none,
                 granted := some s.clock }) := by
  have currency : orZero (·.currency) (s.order e.order).prices = ((s.order e.order).prices.map (·.currency)).getD 0 := by
    cases (s.order e.order).prices <;> rfl
  rw [grantPay_eq, found, currency]
  have order := payGranted_order e ref paying
  have out := payGranted_out e ref s
  have slot := payGranted_slot e ref s
  have terminal := payGranted_terminal e ref s
  generalize payGranted e ref s = u at *
  have rest := fun body => writeBody_rest e.slot body u
  refine ⟨(congrArg State.terminal (rest _) :).trans terminal, ((congrArg (State.order · e.order) (rest _) :).trans order), ?_, fun taken => ?_⟩
  · exact congrArg (· ++ _) ((congrArg State.out (rest _) :).trans out)
  · exact body_writeBody (by rw [slot]; exact taken) _

/-- R131: the reference a grant takes. -/
theorem grantReference {s : State} (free : s.terminal.holder = none) (empty : s.terminal.voidList = [])
    (nonzero : s.terminal.nextReference ≠ 0) : ∃ j, skipLive s 64 s.terminal.nextReference = referenceAfter s.terminal.nextReference j
      ∧ (∀ o, (s.order o).reference ≠ some (referenceAfter s.terminal.nextReference j))
      ∧ ∀ i, i < j → ∃ o, (s.order o).reference = some (referenceAfter s.terminal.nextReference i) := by
  obtain ⟨k, small, unused⟩ := exists_freeReference s nonzero
  have dead : liveReference s (referenceAfter s.terminal.nextReference k) = false := Bool.eq_false_iff.2 fun live => by
    obtain ⟨o, has⟩ := (liveReference_iff free empty _).1 live
    exact unused o has
  obtain ⟨j, -, found, ends, before⟩ := skipLive_spec 64 (by omega) dead
  refine ⟨j, found, fun o has => ?_, fun i lower => (liveReference_iff free empty _).1 (before i lower)⟩
  rw [(liveReference_iff free empty _).2 ⟨o, has⟩] at ends
  cases ends

/-- Settles O38. -/
theorem arbiterAndVoidListInOrder : Obligations.ArbiterAndVoidListInOrder := by
  refine ⟨fun s => arbiter_busy, fun s e rest ref amount idle free pending reference settlement => ?_,
    fun s e rest idle free none voids => ?_, fun s e rest idle free none empty waits paying nonzero => ?_,
    fun e l sorted => ⟨ascending_insertSettlement e sorted, fun x => mem_insertSettlement_iff e x l, length_insertSettlement e l,
      fun first rest => head_insertSettlement sorted⟩, fun s ref amount attempts => ⟨joinVoid_listed, joinVoid_room, ?_, ?_⟩⟩
  · rw [arbiter_settlement idle free pending]
    refine ⟨rfl, congrArg List.tail pending, ⟨_, rfl, rfl, ?_, ?_, rfl, rfl, rfl⟩, ?_⟩
    · exact congrArg (Option.getD · 0) reference
    · exact congrArg (Option.getD · 0) settlement
    · change s.out ++ [if 0 < (s.order e.order).settlement.getD 0 then .capture ((s.order e.order).reference.getD 0)
        ((s.order e.order).settlement.getD 0) else .void ((s.order e.order).reference.getD 0)] = _
      rw [reference, settlement]
      rfl
  · rw [arbiter_void idle free none voids]
    exact ⟨rfl, rfl, ⟨_, rfl, rfl, rfl, rfl, rfl, rfl⟩, rfl⟩
  · obtain ⟨j, found, unused, before⟩ := grantReference free empty nonzero
    obtain ⟨terminal, order, out, body⟩ := grantPay_spec e paying found
    rw [arbiter_pay idle free none empty waits, terminal]
    exact ⟨rfl, congrArg List.tail waits, payHolder e _ s, _, rfl, rfl, rfl, referenceAfter_ne_zero nonzero j, unused, rfl, rfl, rfl, rfl, rfl,
      rfl, order, ⟨referenceAfter s.terminal.nextReference, j, rfl, fun _ => rfl, rfl, before⟩, rfl, out, body⟩
  · intro e rest other list apart new full
    have oldest : (s.terminal.voidList.find? fun x => some x.reference != heldVoid s) = some e := by
      rw [list, heldVoid_other other]
      exact List.find?_cons_of_pos rfl
    have left : s.terminal.voidList.filter (·.reference != e.reference) = rest := by
      rw [list, List.filter_cons_of_neg (by simp)]
      exact filter_reference apart
    exact joinVoid_full new full oldest left
  · intro h e d rest holds kind same list ne apart new full
    have oldest : (s.terminal.voidList.find? fun x => some x.reference != heldVoid s) = some d := by
      rw [list, heldVoid_list holds kind, same, List.find?_cons_of_neg (by simp)]
      exact List.find?_cons_of_pos (by simpa using ne)
    have left : s.terminal.voidList.filter (·.reference != d.reference) = e :: rest := by
      rw [list, List.filter_cons_of_pos (by simpa using ne.symm), List.filter_cons_of_neg (by simp), filter_reference apart]
    exact joinVoid_full new full oldest left

end Sys2Proof.Machine
end

section
/-! SUPPORT. The end of a PAY (R12, R16, R31, R32, R73): what it does to the order by its outcome, to the session's watch, the payment notice
and the slot, and what it leaves alone. -/

namespace Sys2Proof.Machine

/-! ## What placing an order leaves alone -/

/-- State without the orders, the printers, the held list, the lamps and the unit bits. -/
def State.aside (s : State) : State :=
  { s with orders := State.reset.orders, printers := State.reset.printers, heldList := [], unitChanged := 0,
           stations := s.stations.map Station.steady }

theorem steady_lampsOf (s : State) (i : StationId) (t : Station) : (lampsOf s i t).steady = t.steady := lampsOf_rest s i t

@[simp] theorem aside_onOrder (s : State) (o : OrderId) (f : Order → Order) : (s.onOrder o f).aside = s.aside := rfl
@[simp] theorem aside_onPrinter (s : State) (p : PrinterId) (f : Printer → Printer) : (s.onPrinter p f).aside = s.aside := rfl
@[simp] theorem aside_markUnit (s : State) (n : UnitId) : (s.markUnit n).aside = s.aside := rfl
@[simp] theorem aside_leaveHeld (o : OrderId) (s : State) : (leaveHeld o s).aside = s.aside := rfl

@[simp] theorem aside_evalLamps (i : StationId) (s : State) : (evalLamps i s).aside = s.aside := by
  unfold State.aside evalLamps State.onStation
  simp only [Moves.map_steady s.stations i _ Station.steady (steady_lampsOf s i _)]

@[simp] theorem aside_markHeldList (s : State) : (markHeldList s).aside = s.aside := rfl
@[simp] theorem aside_leaveQueues (o : OrderId) (s : State) : (leaveQueues o s).aside = s.aside := rfl

@[simp] theorem aside_joinQueue (o : OrderId) (p : PrinterId) (s : State) : (joinQueue o p s).aside = s.aside := by simp [joinQueue]

@[simp] theorem aside_makePaid (o : OrderId) (p : PrinterId) (s : State) : (makePaid o p s).aside = s.aside := by simp [makePaid]

@[simp] theorem aside_heldTables (o : OrderId) (s : State) : (heldTables o s).aside = s.aside := by
  have tables : (heldTables o s).aside = ((leaveHeld o (leaveQueues o s)).onOrder o fun r =>
      { r with state := .held, hold := .none, placement := none, holdReason := some .noMedia }).aside := rfl
  rw [tables, aside_onOrder, aside_leaveHeld, aside_leaveQueues]

@[simp] theorem aside_enterHeld (o : OrderId) (s : State) : (enterHeld o s).aside = s.aside := by
  unfold enterHeld
  rw [aside_evalLamps, aside_markHeldList]
  exact aside_heldTables o s

@[simp] theorem aside_placeHeld (o : OrderId) (p : PrinterId) (s : State) : (placeHeld o p s).aside = s.aside := by
  simp [placeHeld]

@[simp] theorem aside_scanStep (o : OrderId) (s : State) : (scanStep o s).aside = s.aside := by
  unfold scanStep
  (repeat' split) <;> simp

@[simp] theorem aside_toDraft (o : OrderId) (why : DraftReason) (s : State) : (toDraft o why s).aside = s.aside := rfl

section Aside
variable {s t : State} (same : t.aside = s.aside)
include same

theorem session_of_aside (k : SessionId) : t.session k = s.session k := (congrArg (fun u : State => u.session k) same :)
theorem slot_of_aside (n : SlotId) : t.slot n = s.slot n := (congrArg (fun u : State => u.slot n) same :)
theorem clock_of_aside : t.clock = s.clock := (congrArg State.clock same :)
theorem timers_of_aside : t.timers = s.timers := (congrArg State.timers same :)
theorem terminal_of_aside : t.terminal = s.terminal := (congrArg State.terminal same :)
theorem price_of_aside : t.price = s.price := (congrArg State.price same :)
theorem stock_of_aside : t.stock = s.stock := (congrArg State.stock same :)
theorem bays_of_aside : t.bays = s.bays := (congrArg State.bays same :)

theorem notice_of_aside (i : StationId) : (t.station i).notice = (s.station i).notice := by
  have stations : t.stations.map Station.steady = s.stations.map Station.steady := (congrArg State.stations same :)
  have here := congrArg (fun v => look v i) stations
  rw [look_map, look_map] at here
  exact (congrArg Station.notice here :)

end Aside

/-! ## The order (R31, R32, R73) -/

/-- R31: what the outcome does to the order. -/
def payEffect (o : OrderId) (outcome : PayOutcome) (code : Option (List Byte)) (s : State) : State :=
  if outcome = .ok then approveOrder o (code.getD []) s else failOrder o outcome s

theorem endPay_eq (n : SlotId) (o : OrderId) (outcome : PayOutcome) (approved : Option Nat) (code : Option (List Byte)) (reason : Option Byte)
    (s : State) : endPay n o outcome approved code reason s =
      complete n (outcomeStatus outcome) .none (payResult (payEffect o outcome code s) n approved code reason)
        (reportPayEnd o outcome (payEffect o outcome code s)) := rfl

/-- R31: the record of an approved order. -/
def approvedRecord (r : Order) (code : List Byte) (clock : W32) : Order :=
  { r with approved := some (orderTotal r), code := some code, paidAt := some clock, lastOutcome := some .ok, uncertain := false }

/-- R31: the record of an order whose authorization failed. -/
def failedRecord (r : Order) (outcome : PayOutcome) : Order :=
  { r with reference := none, lastOutcome := some outcome, uncertain := if outcome = .terminalLost then true else r.uncertain }

section Approve
variable {o : OrderId} {s : State} (code : List Byte)

theorem approveOrder_placed {p : PrinterId} (placed : (s.order o).placement = some p) :
    approveOrder o code s = makePaid o p (s.onOrder o fun r => approvedRecord r code s.clock) := by
  have same : ((s.onOrder o fun r => approvedRecord r code s.clock).order o).placement = some p := by
    rw [order_onOrder_same]
    exact placed
  unfold approvedRecord at same ⊢
  unfold approveOrder
  simp only [same]

theorem approveOrder_unplaced (away : (s.order o).placement = none) :
    approveOrder o code s = scanStep o (enterHeld o (s.onOrder o fun r => approvedRecord r code s.clock)) := by
  have same : ((s.onOrder o fun r => approvedRecord r code s.clock).order o).placement = none := by
    rw [order_onOrder_same]
    exact away
  unfold approvedRecord at same ⊢
  unfold approveOrder
  simp only [same]

theorem failOrder_eq (o : OrderId) (outcome : PayOutcome) (s : State) : failOrder o outcome s =
    if (s.order o).placement.isSome = true ∧ hasUnprintable (s.order o) = false then
      s.onOrder o fun r => { failedRecord r outcome with state := .priced, hold := .running (s.after s.timers.quoteHold) }
    else toDraft o (if (s.order o).placement.isSome then .unprintable else .noMedia) (s.onOrder o fun r => failedRecord r outcome) := by
  have same : (s.onOrder o fun r => failedRecord r outcome).order o = failedRecord (s.order o) outcome := order_onOrder_same ..
  unfold failOrder
  have known : (s.onOrder o fun r => { r with
      reference := none, lastOutcome := some outcome, uncertain := if outcome = .terminalLost then true else r.uncertain })
      = s.onOrder o fun r => failedRecord r outcome := rfl
  simp only [known, same]
  refine ite_congr rfl (fun _ => ?_) fun _ => rfl
  rw [onOrder_onOrder]
  rfl

end Approve

@[simp] theorem aside_approveOrder (o : OrderId) (code : List Byte) (s : State) : (approveOrder o code s).aside = s.aside := by
  cases placed : (s.order o).placement with
  | none => rw [approveOrder_unplaced code placed]; simp
  | some p => rw [approveOrder_placed code placed]; simp

@[simp] theorem aside_failOrder (o : OrderId) (outcome : PayOutcome) (s : State) : (failOrder o outcome s).aside = s.aside := by
  rw [failOrder_eq]
  split <;> simp

theorem aside_payEffect (o : OrderId) (outcome : PayOutcome) (code : Option (List Byte)) (s : State) :
    (payEffect o outcome code s).aside = s.aside := by
  unfold payEffect
  split <;> simp

/-- What the stock figures read (R62 to R67) is the same. -/
structure SameStock (s t : State) : Prop where
  state : ∀ p, (t.printer p).state = (s.printer p).state
  copy : ∀ p, (t.printer p).copy = (s.printer p).copy
  stock : t.stock = s.stock
  placement : ∀ o, (t.order o).placement = (s.order o).placement
  items : ∀ o, (t.order o).items = (s.order o).items

theorem SameStock.freeRoom {s t : State} (same : SameStock s t) (p : PrinterId) : t.freeRoom p = s.freeRoom p := by
  obtain ⟨state, copy, stock, placement, items⟩ := same
  have entry : t.entry p = s.entry p := congrArg (fun v => look v p) stock
  have left : ∀ o, remainingUnits (t.order o) = remainingUnits (s.order o) := fun o => by unfold remainingUnits; rw [items]
  have flight : ∀ q o, t.inFlightUnits q o = s.inFlightUnits q o := fun q o => by
    unfold State.inFlightUnits itemPrintable
    rw [copy, items]
  have reservation : ∀ o, t.reservation o = s.reservation o := fun o => by
    unfold State.reservation
    rw [placement]
    split
    · rw [left, flight]
    · rfl
  have usable : t.usable p = s.usable p := by
    unfold State.usable
    rw [state, entry]
  have reserved : t.reserved p = s.reserved p := by
    unfold State.reserved
    simp only [placement, reservation]
  have trailing : t.trailing p = s.trailing p := by
    unfold State.trailing
    simp only [copy, placement]
  unfold State.freeRoom State.committed
  rw [usable, reserved, trailing, entry]

theorem sameStock_enterHeld {o : OrderId} {s : State} (away : (s.order o).placement = none) (code : List Byte) :
    SameStock s (enterHeld o (s.onOrder o fun r => approvedRecord r code s.clock)) := by
  have moved := moved_enterHeld o (s.onOrder o fun r => approvedRecord r code s.clock)
  have printer : ∀ p, (s.onOrder o fun r => approvedRecord r code s.clock).printer p = s.printer p := fun _ => rfl
  refine ⟨fun p => by rw [moved.printers, printer], fun p => by rw [moved.printers, printer], moved.stock, fun x => ?_, fun x => ?_⟩
  · rw [moved.orders]
    split
    next own => rw [← own, away]
    next other => rw [order_onOrder_ne _ other]
  · rw [moved.orders]
    split
    next own => rw [← own, order_onOrder_same]; rfl
    next other => rw [order_onOrder_ne _ other]

section Approved
variable {o : OrderId} {s : State} (code : List Byte)

/-- R31: the record of an approved order on its way out of PAYING. -/
theorem approve_placed {p : PrinterId} (placed : (s.order o).placement = some p) :
    Moved o { approvedRecord (s.order o) code s.clock with state := .paid, hold := .none, holdReason := none }
      (fun q => removeOrder o (s.printer q).queue ++ if p = q then [o] else []) s.heldList s (approveOrder o code s) := by
  obtain ⟨orders, printers, held, stock⟩ := moved_makePaid o p (s.onOrder o fun r => approvedRecord r code s.clock)
  rw [approveOrder_placed code placed]
  refine ⟨fun x => ?_, printers, held, stock⟩
  rw [orders, order_onOrder_same]
  split
  next own => unfold approvedRecord; rw [← placed]
  next other => rw [order_onOrder_ne _ other]

theorem approve_held (away : (s.order o).placement = none) (full : ∀ p, s.freeRoom p < remainingUnits (s.order o)) :
    Moved o { approvedRecord (s.order o) code s.clock with state := .held, hold := .none, holdReason := some .noMedia }
      (fun q => removeOrder o (s.printer q).queue) (removeOrder o s.heldList ++ [o]) s (approveOrder o code s) := by
  obtain ⟨orders, printers, held, stock⟩ := moved_enterHeld o (s.onOrder o fun r => approvedRecord r code s.clock)
  have same := sameStock_enterHeld away code
  have here := (orders o).trans (if_pos rfl)
  rw [approveOrder_unplaced code away, scanStep_noRoom (by rw [here]) (choosePrinter_none.2 ?_)]
  · refine ⟨fun x => ?_, printers, held, stock⟩
    rw [orders, order_onOrder_same]
    split
    next own => unfold approvedRecord; rw [← away]
    next other => rw [order_onOrder_ne _ other]
  · have left : remainingUnits ((enterHeld o (s.onOrder o fun r => approvedRecord r code s.clock)).order o) = remainingUnits (s.order o) := by
      unfold remainingUnits
      rw [same.items]
    rw [left, same.freeRoom, same.freeRoom]
    exact ⟨full 0, full 1⟩

theorem removeOrder_removeOrder (o : OrderId) (l : List OrderId) : removeOrder o (removeOrder o l) = removeOrder o l := by
  unfold removeOrder
  rw [List.filter_filter]
  simp

theorem removeOrder_append_self (o : OrderId) (l : List OrderId) : removeOrder o (l ++ [o]) = removeOrder o l := by
  unfold removeOrder
  rw [List.filter_append, List.filter_cons_of_neg (by simp), List.filter_nil, List.append_nil]

theorem approve_chosen {p : PrinterId} (away : (s.order o).placement = none) (chosen : s.choosePrinter (remainingUnits (s.order o)) = some p) :
    Moved o { approvedRecord (s.order o) code s.clock with state := .paid, hold := .none, placement := some p, holdReason := none }
      (fun q => removeOrder o (s.printer q).queue ++ if p = q then [o] else []) (removeOrder o s.heldList) s (approveOrder o code s) := by
  obtain ⟨orders, printers, held, stock⟩ := moved_enterHeld o (s.onOrder o fun r => approvedRecord r code s.clock)
  have same := sameStock_enterHeld away code
  have here := (orders o).trans (if_pos rfl)
  have left : remainingUnits ((enterHeld o (s.onOrder o fun r => approvedRecord r code s.clock)).order o) = remainingUnits (s.order o) := by
    unfold remainingUnits
    rw [same.items]
  have room : (enterHeld o (s.onOrder o fun r => approvedRecord r code s.clock)).choosePrinter
      (remainingUnits ((enterHeld o (s.onOrder o fun r => approvedRecord r code s.clock)).order o)) = some p := by
    rw [left]
    unfold State.choosePrinter at chosen ⊢
    simp only [same.freeRoom]
    exact chosen
  rw [approveOrder_unplaced code away, scanStep_placed (by rw [here]) room]
  obtain ⟨orders', printers', held', stock'⟩ := moved_placeHeld o p (enterHeld o (s.onOrder o fun r => approvedRecord r code s.clock))
  refine ⟨fun x => ?_, fun q => ?_, ?_, stock'.trans stock⟩
  · rw [orders', here, order_onOrder_same]
    split
    next own => rfl
    next other => rw [orders, if_neg other, order_onOrder_ne _ other]
  · rw [printers', printers]
    simp only [removeOrder_removeOrder]
    rfl
  · rw [held', held, removeOrder_append_self, removeOrder_removeOrder]
    rfl

end Approved

/-- R31, R73: the record of an order that has left PAYING without approval. -/
theorem fail_order (o : OrderId) (outcome : PayOutcome) (s : State) (x : OrderId) : (failOrder o outcome s).order x = if o = x then
    (if (s.order o).placement.isSome = true ∧ hasUnprintable (s.order o) = false then
      { failedRecord (s.order o) outcome with state := .priced, hold := .running (s.after s.timers.quoteHold) }
    else { failedRecord (s.order o) outcome with
      state := .draft, hold := .none, placement := none, prices := none,
      draftReason := some (if (s.order o).placement.isSome then .unprintable else .noMedia) }) else s.order x := by
  rw [failOrder_eq]
  by_cases own : o = x
  · subst own
    rw [if_pos rfl]
    split
    · rw [order_onOrder_same]
    · unfold toDraft
      rw [order_onOrder_same, order_onOrder_same]
  · rw [if_neg own]
    split
    · rw [order_onOrder_ne _ own]
    · unfold toDraft
      rw [order_onOrder_ne _ own, order_onOrder_ne _ own]

/-- R31: whatever the outcome, the order leaves PAYING and keeps its station and session; other orders stay. -/
theorem payEffect_order (o : OrderId) (outcome : PayOutcome) (code : Option (List Byte)) (s : State) :
    ((payEffect o outcome code s).order o).state ≠ .paying ∧ ((payEffect o outcome code s).order o).session = (s.order o).session
      ∧ ((payEffect o outcome code s).order o).station = (s.order o).station
      ∧ ∀ x, x ≠ o → (payEffect o outcome code s).order x = s.order x := by
  unfold payEffect
  split
  · cases placed : (s.order o).placement with
    | some p =>
      have moved := approve_placed (code.getD []) placed
      have here := (moved.orders o).trans (if_pos rfl)
      exact ⟨by rw [here]; exact OrderState.noConfusion, by rw [here]; rfl, by rw [here]; rfl, fun x => moved.others⟩
    | none =>
      cases chosen : s.choosePrinter (remainingUnits (s.order o)) with
      | some p =>
        have moved := approve_chosen (code.getD []) placed chosen
        have here := (moved.orders o).trans (if_pos rfl)
        exact ⟨by rw [here]; exact OrderState.noConfusion, by rw [here]; rfl, by rw [here]; rfl, fun x => moved.others⟩
      | none =>
        have moved := approve_held (code.getD []) placed fun p => by
          obtain ⟨full0, full1⟩ := choosePrinter_none.1 chosen
          match p with
          | 0 => exact full0
          | 1 => exact full1
        have here := (moved.orders o).trans (if_pos rfl)
        exact ⟨by rw [here]; exact OrderState.noConfusion, by rw [here]; rfl, by rw [here]; rfl, fun x => moved.others⟩
  · have orders := fail_order o outcome s
    have here := (orders o).trans (if_pos rfl)
    refine ⟨?_, ?_, ?_, fun x ne => (orders x).trans (if_neg ne.symm)⟩ <;> rw [here] <;> split <;> first | rfl | exact OrderState.noConfusion

/-! ## The reports to the station controller (R12, R16) -/

@[simp] theorem beyond_restartWatch (o : OrderId) (s : State) : (restartWatch o s).beyond = s.beyond := by
  simp only [restartWatch]
  split <;> simp

@[simp] theorem beyond_startNotice (i : StationId) (s : State) : (startNotice i s).beyond = s.beyond := by simp [startNotice]

@[simp] theorem beyond_reportPayEnd (o : OrderId) (outcome : PayOutcome) (s : State) : (reportPayEnd o outcome s).beyond = s.beyond := by
  simp only [reportPayEnd]
  split <;> simp

theorem notice_lampsOf (s : State) (i : StationId) (t : Station) : (lampsOf s i t).notice = t.notice :=
  (congrArg Station.notice (lampsOf_rest s i t) :)

theorem notice_startNotice (i : StationId) (s : State) : ((startNotice i s).station i).notice = some (s.clock + 10#32) := by
  unfold startNotice evalLamps
  rw [station_onStation_same, notice_lampsOf, station_onStation_same]
  rfl

theorem session_startNotice (i : StationId) (s : State) (k : SessionId) : (startNotice i s).session k = s.session k := rfl

theorem restartWatch_rest (o : OrderId) (s : State) : { restartWatch o s with sessions := s.sessions } = s := by
  simp only [restartWatch]
  split <;> rfl

theorem deadline_restartWatch {o : OrderId} {s : State} (active : (s.session (s.order o).session).state = .active)
    (listed : (s.session (s.order o).session).orders.contains o = true)
    (last : ∀ x ∈ (s.session (s.order o).session).orders, (s.order x).state ≠ .paying) :
    ((restartWatch o s).session (s.order o).session).deadline = some (s.clock + BitVec.ofNat 32 s.timers.idle) := by
  have none : (s.session (s.order o).session).orders.all (fun x => (s.order x).state != .paying) = true := by simpa using last
  simp only [restartWatch]
  rw [if_pos ⟨active, listed, none⟩, session_onSession_same]
  rfl

theorem session_reportPayEnd (o : OrderId) (outcome : PayOutcome) (s : State) (k : SessionId) :
    (reportPayEnd o outcome s).session k = (restartWatch o s).session k := by
  simp only [reportPayEnd]
  split
  · exact session_startNotice _ _ k
  · rfl

theorem notice_reportPayEnd (o : OrderId) (outcome : PayOutcome) (s : State) :
    ((reportPayEnd o outcome s).station (s.order o).station).notice =
      if givesNotice outcome = true then some (s.clock + 10#32) else (s.station (s.order o).station).notice := by
  have rest := restartWatch_rest o s
  have order : (restartWatch o s).order o = s.order o := (congrArg (State.order · o) rest :)
  have clock : (restartWatch o s).clock = s.clock := (congrArg State.clock rest :)
  have station : ∀ i, (restartWatch o s).station i = s.station i := fun i => (congrArg (State.station · i) rest :)
  simp only [reportPayEnd, order]
  split
  · rw [notice_startNotice, clock]
  · rw [station]

theorem givesNotice_iff (outcome : PayOutcome) :
    givesNotice outcome = true ↔ outcome = .declined ∨ outcome = .short ∨ outcome = .timedOut ∨ outcome = .terminalLost := by
  cases outcome <;> decide

theorem bays_of_beyond {s t : State} (same : t.beyond = s.beyond) : t.bays = s.bays := (congrArg (fun u : State => u.bays) same :)
theorem clock_of_beyond {s t : State} (same : t.beyond = s.beyond) : t.clock = s.clock := (congrArg (fun u : State => u.clock) same :)

/-! ## The end of a PAY -/

section EndPay
variable (n : SlotId) (o : OrderId) (outcome : PayOutcome) (approved : Option Nat) (code : Option (List Byte)) (reason : Option Byte) (s : State)

/-- The tables of the order unit and the blocks that the end of a PAY leaves as its effect on the order does. -/
theorem endPay_tables :
    (∀ x, (endPay n o outcome approved code reason s).order x = (payEffect o outcome code s).order x)
      ∧ (∀ q, (endPay n o outcome approved code reason s).printer q = (payEffect o outcome code s).printer q)
      ∧ (endPay n o outcome approved code reason s).heldList = (payEffect o outcome code s).heldList
      ∧ (endPay n o outcome approved code reason s).terminal = s.terminal ∧ (endPay n o outcome approved code reason s).price = s.price
      ∧ (endPay n o outcome approved code reason s).stock = s.stock ∧ (endPay n o outcome approved code reason s).bays = s.bays := by
  rw [endPay_eq]
  have aside := aside_payEffect o outcome code s
  generalize payEffect o outcome code s = u at *
  have beyond := beyond_reportPayEnd o outcome u
  generalize reportPayEnd o outcome u = v at *
  have rest := complete_rest n (outcomeStatus outcome) .none (payResult u n approved code reason) v
  exact ⟨fun x => (congrArg (State.order · x) rest :).trans (order_of_beyond beyond x),
    fun q => (congrArg (State.printer · q) rest :).trans (printer_of_beyond beyond q),
    (congrArg State.heldList rest :).trans (heldList_of_beyond beyond),
    (congrArg State.terminal rest :).trans ((terminal_of_beyond beyond).trans (terminal_of_aside aside)),
    (congrArg State.price rest :).trans ((price_of_beyond beyond).trans (price_of_aside aside)),
    (congrArg State.stock rest :).trans ((stock_of_beyond beyond).trans (stock_of_aside aside)),
    (congrArg State.bays rest :).trans ((bays_of_beyond beyond).trans (bays_of_aside aside))⟩

theorem endPay_report :
    (∀ k, (endPay n o outcome approved code reason s).session k = (restartWatch o (payEffect o outcome code s)).session k)
      ∧ ∀ i, (endPay n o outcome approved code reason s).station i = (reportPayEnd o outcome (payEffect o outcome code s)).station i := by
  rw [endPay_eq]
  generalize payEffect o outcome code s = u
  have sessions := session_reportPayEnd o outcome u
  generalize reportPayEnd o outcome u = v at *
  have rest := complete_rest n (outcomeStatus outcome) .none (payResult u n approved code reason) v
  exact ⟨fun k => (congrArg (State.session · k) rest :).trans (sessions k), fun i => (congrArg (State.station · i) rest :)⟩

theorem slots_reportPayEnd : (reportPayEnd o outcome (payEffect o outcome code s)).slots = s.slots :=
  (slots_of_beyond (beyond_reportPayEnd o outcome _)).trans (congrArg State.slots (aside_payEffect o outcome code s) :)

theorem clock_reportPayEnd : (reportPayEnd o outcome (payEffect o outcome code s)).clock = s.clock :=
  (clock_of_beyond (beyond_reportPayEnd o outcome (payEffect o outcome code s))).trans
    (clock_of_aside (aside_payEffect o outcome code s))

variable {s n}

theorem endPay_slot (taken : (s.slot n).state = .taken) : (endPay n o outcome approved code reason s).slot n =
    { s.slot n with state := .done, status := outcomeStatus outcome, reason := .none, completedAt := s.clock,
                    body := payResult s n approved code reason } := by
  have slots := slots_reportPayEnd o outcome code s
  have clock := clock_reportPayEnd o outcome code s
  have cell := slot_of_aside (aside_payEffect o outcome code s) n
  rw [endPay_eq]
  have result : payResult (payEffect o outcome code s) n approved code reason = payResult s n approved code reason := by
    unfold payResult
    rw [cell]
  rw [result]
  generalize reportPayEnd o outcome (payEffect o outcome code s) = v at *
  have here : v.slot n = s.slot n := congrArg (look · n) slots
  rw [complete_of_taken _ _ _ _ _ (by rw [here]; exact taken)]
  refine (slot_onSlot_same v n _).trans ?_
  rw [here, clock]

theorem endPay_otherSlot {m : SlotId} (ne : m ≠ n) : (endPay n o outcome approved code reason s).slot m = s.slot m := by
  have slots := slots_reportPayEnd o outcome code s
  rw [endPay_eq]
  generalize reportPayEnd o outcome (payEffect o outcome code s) = v at *
  have here : v.slot m = s.slot m := congrArg (look · m) slots
  unfold complete
  split
  · exact (slot_onSlot_ne v ne.symm _).trans here
  · exact here

end EndPay

theorem uncertain_eq (outcome : PayOutcome) (was : Bool) :
    (if outcome = .terminalLost then true else was) = (was || outcome == .terminalLost) := by
  by_cases lost : outcome = .terminalLost <;> simp [lost]

/-- Settles O34. -/
theorem paymentOutcomesMoveTheOrder : Obligations.PaymentOutcomesMoveTheOrder := by
  intro n o outcome approved code reason s
  obtain ⟨order, printer, held, terminal, price, stock, bays⟩ := endPay_tables n o outcome approved code reason s
  obtain ⟨session, station⟩ := endPay_report n o outcome approved code reason s
  obtain ⟨left, sameSession, sameStation, others⟩ := payEffect_order o outcome code s
  refine ⟨fun ok p placed outside => ?_, fun ok away full => ?_, fun p ok away fits best => ?_, fun failed placed printable => ?_,
    fun failed lost => ?_, fun taken => ?_, ?_, ?_, fun x ne => (order x).trans (others x ne), fun m ne => endPay_otherSlot _ _ _ _ _ ne,
    terminal, price, stock, bays⟩
  · have moved := approve_placed (code.getD []) placed
    rw [order, printer, payEffect, if_pos ok, moved.orders, if_pos rfl, moved.printers]
    refine ⟨rfl, ?_⟩
    have kept : removeOrder o (s.printer p).queue = (s.printer p).queue :=
      List.filter_eq_self.2 fun x mem => by simpa using fun (e : x = o) => outside p (e ▸ mem)
    simp only [kept, if_pos]
  · have moved := approve_held (code.getD []) away full
    rw [order, held, payEffect, if_pos ok, moved.orders, if_pos rfl, moved.heldList]
    exact ⟨rfl, rfl⟩
  · have moved := approve_chosen (code.getD []) away (choosePrinter_some.2 ⟨fits, best⟩)
    rw [order, held, printer, payEffect, if_pos ok, moved.orders, if_pos rfl, moved.heldList, moved.printers]
    refine ⟨rfl, ?_, rfl⟩
    simp only [if_pos]
    rfl
  · have whole : hasUnprintable (s.order o) = false := by
      simp only [hasUnprintable, List.any_eq_false, beq_iff_eq]
      exact printable
    rw [order, payEffect, if_neg failed, fail_order, if_pos rfl, if_pos ⟨placed, whole⟩]
    simp only [failedRecord, uncertain_eq]
    rfl
  · have keeps : ¬ ((s.order o).placement.isSome = true ∧ hasUnprintable (s.order o) = false) := fun ⟨placed, whole⟩ => by
      obtain away | ⟨i, mem, dead⟩ := lost
      · rw [away] at placed
        cases placed
      · simp only [hasUnprintable, List.any_eq_false, beq_iff_eq] at whole
        exact whole i mem dead
    rw [order, payEffect, if_neg failed, fail_order, if_pos rfl, if_neg keeps]
    simp only [failedRecord, uncertain_eq]
    cases (s.order o).placement <;> rfl
  · rw [endPay_slot o outcome approved code reason taken]
    refine ⟨rfl, rfl, rfl, fun r paid => ?_⟩
    simp only [payResult, paid]
  · rintro k rfl active listed last
    have aside := aside_payEffect o outcome code s
    have same := session_of_aside aside
    have time : (payEffect o outcome code s).clock = s.clock := clock_of_aside aside
    have settings : (payEffect o outcome code s).timers = s.timers := timers_of_aside aside
    rw [session, ← sameSession, deadline_restartWatch (by rw [same, sameSession]; exact active) (by rw [same, sameSession]; exact listed)
      (fun x mem => ?_), time, settings]
    rw [same, sameSession] at mem
    obtain rfl | other := last x mem
    · exact left
    · by_cases own : x = o
      · exact own ▸ left
      · rw [others x own]
        exact other
  · have aside := aside_payEffect o outcome code s
    have notice := notice_reportPayEnd o outcome (payEffect o outcome code s)
    rw [sameStation, clock_of_aside aside, notice_of_aside aside] at notice
    rw [station, notice]
    exact ite_congr (propext (givesNotice_iff outcome)) (fun _ => rfl) fun _ => rfl

end Sys2Proof.Machine
end

section
/-! SUPPORT. The frames and the limits of the terminal link (R127, R129, R134 to R142, R144): which exchange a frame answers, what a stray
one does, and what each answer and each expiry does to the holding. -/

namespace Sys2Proof.Machine

/-! ## The frames (R129) -/

theorem thenSettles_settlingEvent {f : State → State} {s u : State} (run : s.part = .run) (effect : f s.quiet = u) :
    ThenSettles (settlingEvent f s) s.quiet u :=
  (event_next (fun t => settle t (f t)) run).trans (congrArg _ (congrArg _ (congrArg (settle s.quiet) effect)))

theorem terminalHeard_watched {s : State} (on : s.terminal.state ≠ .absent) (live : s.terminal.state ≠ .offline) :
    terminalHeard s = terminalWatched s := by
  unfold terminalHeard
  split
  next e => exact absurd e on
  next e => exact absurd e live
  next => rfl

theorem terminalHeard_off {s : State} (off : s.terminal.state = .absent ∨ s.terminal.state = .offline) : terminalHeard s = s := by
  unfold terminalHeard
  rcases off with e | e <;> rw [e]

/-- R129: a stray frame. -/
theorem strayFrame_eq (s : State) : terminalStray (terminalHeard s) = strayFrame s := by
  unfold terminalHeard strayFrame
  cases s.terminal.state <;> rfl

theorem holder_terminalHeard (s : State) :
    (terminalHeard s).terminal.holder = s.terminal.holder ∧ (terminalHeard s).terminal.state = s.terminal.state
      ∧ (terminalHeard s).terminal.uncollectedReferences = s.terminal.uncollectedReferences := by
  unfold terminalHeard
  split <;> exact ⟨rfl, rfl, rfl⟩

theorem holderOf_terminalHeard (s : State) (ref : W16) : holderOf (terminalHeard s) ref = holderOf s ref := by
  obtain ⟨holder, state, -⟩ := holder_terminalHeard s
  unfold holderOf
  rw [holder, state]

theorem holderOf_watched (s : State) (ref : W16) : holderOf (terminalWatched s) ref = holderOf s ref := rfl

/-- R129: an exchange is open. -/
def Exchanging (s : State) (h : Holder) : Prop := s.terminal.holder = some h ∧ (s.terminal.state = .authorizing ∨ s.terminal.state = .settling)

section Exchange
variable {s : State} {h : Holder}

theorem Exchanging.holderOf (open_ : Exchanging s h) : holderOf s h.reference = some h := by
  unfold Machine.holderOf
  rw [open_.1]
  exact if_pos ⟨rfl, open_.2⟩

theorem Exchanging.heard (open_ : Exchanging s h) : terminalHeard s = terminalWatched s := by
  refine terminalHeard_watched (fun e => ?_) fun e => ?_ <;> rcases open_.2 with a | a <;> rw [a] at e <;> cases e

theorem exchangeFrame_answered (open_ : Exchanging s h) {answer : Holder → State → Option State} {u : State}
    (answers : answer h (terminalWatched s) = some u) : exchangeFrame h.reference answer s = u := by
  simp only [exchangeFrame, open_.heard, holderOf_watched, open_.holderOf, answers, Option.getD_some]

/-- R129: no exchange of this reference, or the frame is none of its answers. -/
theorem exchangeFrame_stray {ref : W16} {answer : Holder → State → Option State}
    (other : ∀ h, holderOf s ref = some h → answer h (terminalHeard s) = none) : exchangeFrame ref answer s = strayFrame s := by
  simp only [exchangeFrame, holderOf_terminalHeard]
  cases found : holderOf s ref with
  | none => exact strayFrame_eq s
  | some h =>
    simp only [other h found, Option.getD_none]
    exact strayFrame_eq s

theorem holderOf_some {ref : W16} {x : Holder} (found : holderOf s ref = some x) : s.terminal.holder = some x ∧ x.reference = ref := by
  unfold holderOf at found
  split at found
  next y holds =>
    split at found
    next same => cases found; exact ⟨holds, same.1⟩
    next => cases found
  next => cases found

theorem holderOf_idle (idle : s.terminal.state = .idle ∨ s.terminal.state = .absent ∨ s.terminal.state = .offline) (ref : W16) :
    holderOf s ref = none := by
  unfold holderOf
  split
  · refine if_neg fun ⟨_, exchanging⟩ => ?_
    rcases idle with e | e | e <;> rcases exchanging with a | a <;> rw [e] at a <;> cases a
  · rfl

theorem capturedArrived_answered (open_ : Exchanging s h) {amount : Nat} {u : State}
    (answers : capturedAnswer amount h (terminalWatched s) = some u) : capturedArrived h.reference amount s = u := by
  simp only [capturedArrived, open_.heard, holderOf_watched, open_.holderOf, Option.bind_some, answers]

theorem capturedArrived_stray {ref : W16} {amount : Nat}
    (other : ∀ h, holderOf s ref = some h → capturedAnswer amount h (terminalHeard s) = none) :
    (ref ∉ s.terminal.uncollectedReferences → capturedArrived ref amount s = strayFrame s)
      ∧ (ref ∈ s.terminal.uncollectedReferences → capturedArrived ref amount s =
        (strayFrame s).onTerminal fun t => { t with counts := { t.counts with lateCaptures := bump t.counts.lateCaptures } }) := by
  have none : (holderOf (terminalHeard s) ref).bind (fun h => capturedAnswer amount h (terminalHeard s)) = none := by
    rw [holderOf_terminalHeard]
    cases found : holderOf s ref with
    | none => rfl
    | some h => exact other h found
  have counted : capturedArrived ref amount s = countLate ref (strayFrame s) := by
    simp only [capturedArrived, none, strayFrame_eq]
  have list : (strayFrame s).terminal.uncollectedReferences = s.terminal.uncollectedReferences := by
    rw [← strayFrame_eq]
    exact (holder_terminalHeard s).2.2
  have late : lateCapture (strayFrame s) ref = true ↔ ref ∈ s.terminal.uncollectedReferences := by
    unfold lateCapture
    rw [list, List.contains_iff_mem]
  refine ⟨fun new => ?_, fun known => ?_⟩
  · rw [counted]
    exact if_neg ((not_congr late).2 new)
  · rw [counted]
    exact if_pos (late.2 known)

end Exchange

theorem endSettlement_eq (o : OrderId) (how : SettleStatus) (s : State) :
    endSettlement o how s = (closeOrder o how s).onTerminal fun t => { t with state := .idle, holder := none } := rfl

theorem countUncollected_eq (h : Holder) (s : State) : countUncollected h s = s.onTerminal fun t =>
    { t with till := { t.till with uncollected := t.till.uncollected.add h.amount }, latched := { t.latched with uncollected := true },
             uncollectedReferences := joinOnce h.reference t.uncollectedReferences } := rfl

theorem endHolding_countApproval (amount : Nat) (s : State) : endHolding (countApproval amount s) = s.onTerminal fun t =>
    { t with state := .idle, holder := none, till := { t.till with approvals := t.till.approvals.add amount } } := rfl

/-! ## The answers to an authorization (R135 to R138) -/

section Authorization
variable {h : Holder} {n : SlotId} {o : OrderId} {s : State} (kind : h.kind = .authorization)
include kind

theorem cardWaited_authorization : cardWaited h s = some (s.onTerminal fun t =>
    { t with holder := some { h with cardSeen := true, cardWaitLimit := none } }) := if_pos kind

section Behind
variable (slot : h.slot = some n) (order : h.order = some o)
include slot order

theorem approvedAnswer_same {amount : Nat} (code : List Byte) (same : amount = h.amount) : approvedAnswer amount code h s =
    some ((endPay n o .ok (some h.amount) (some code) none s).onTerminal fun t =>
      { t with state := .idle, holder := none, till := { t.till with approvals := t.till.approvals.add h.amount } }) := by
  subst same
  unfold approvedAnswer
  simp only [kind, slot, order, if_true]
  exact congrArg some (endHolding_countApproval _ _)

theorem approvedAnswer_short {amount : Nat} (code : List Byte) (other : amount ≠ h.amount) : approvedAnswer amount code h s =
    some (startFollowUp h.reference amount (endPay n o .short (some amount) (some code) none s)) := by
  unfold approvedAnswer
  simp only [kind, slot, order]
  exact if_neg other

theorem outcomeAnswer_pay (outcome : Holder → PayOutcome) (reason : Holder → Option Byte) : outcomeAnswer outcome reason h s =
    some ((endPay n o (outcome h) none none (reason h) s).onTerminal fun t => { t with state := .idle, holder := none }) := by
  unfold outcomeAnswer
  simp only [kind, slot, order]
  rfl

end Behind

section Alone
variable (slot : h.slot = none)
include slot

theorem approvedAnswer_alone (amount : Nat) (code : List Byte) : approvedAnswer amount code h s = some (startFollowUp h.reference amount s) := by
  unfold approvedAnswer
  simp only [kind, slot]

theorem outcomeAnswer_alone (outcome : Holder → PayOutcome) (reason : Holder → Option Byte) : outcomeAnswer outcome reason h s =
    some (s.onTerminal fun t => { t with state := .idle, holder := none }) := by
  unfold outcomeAnswer
  simp only [kind, slot]
  rfl

end Alone

theorem refusedAnswer_authorization (reason : Byte) : refusedAnswer reason h s =
    outcomeAnswer (fun h => if h.exchange = .opened then .declined else .cancelled)
      (fun h => some (if h.exchange = .opened then 0 else reason)) h s := by
  unfold refusedAnswer
  simp only [kind]

theorem voidedAnswer_authorization : voidedAnswer h s = none := by
  unfold voidedAnswer
  simp only [kind]

theorem capturedAnswer_authorization (amount : Nat) : capturedAnswer amount h s = none := by
  unfold capturedAnswer
  simp only [kind]

end Authorization

theorem found_reference {s : State} {h x : Holder} {ref : W16} (open_ : Exchanging s h) (found : holderOf s ref = some x) : ref = h.reference := by
  obtain ⟨holds, same⟩ := holderOf_some found
  rw [Option.some.inj (open_.1.symm.trans holds), same]

theorem readyArrived_held {s : State} {h : Holder} (open_ : Exchanging s h) : readyArrived s = readyMeetsHolder h (strayFrame s) := by
  unfold readyArrived
  rw [strayFrame_eq]
  rcases open_.2 with e | e <;> simp only [e, open_.1]

theorem endHolding_lose (h : Holder) (n : SlotId) (o : OrderId) (s : State) : endHolding (loseAuthorization h n o s) =
    (joinVoid h.reference h.amount 0 (endPay n o .terminalLost none none none s)).onTerminal fun t =>
      { t with state := .idle, holder := none, latched := { t.latched with authLost := true } } := by
  simp only [loseAuthorization]
  generalize joinVoid h.reference h.amount 0 (endPay n o .terminalLost none none none s) = u
  rfl

theorem endHolding_abandon (h : Holder) (n : SlotId) (o : OrderId) (s : State) : endHolding (abandonAuthorization h n o s) =
    (joinVoid h.reference h.amount 0 (endPay n o .cancelled none none none s)).onTerminal fun t =>
      { t with state := .idle, holder := none } := rfl

/-- Settles O35. -/
theorem authorizationEndsByItsAnswer : Obligations.AuthorizationEndsByItsAnswer := by
  intro s h run state holds kind
  have open_ : Exchanging s.quiet h := ⟨holds, .inl state⟩
  have settles : ∀ {f : State → State} {u : State}, f s.quiet = u → ThenSettles (settlingEvent f s) s.quiet u := thenSettles_settlingEvent run
  refine ⟨fun n o slot order => ⟨?_, ?_, ?_, ?_, ?_, ?_, ?_, ?_, ?_, ?_⟩, fun slot => ⟨?_, ?_, ?_, ?_, ?_, ?_⟩, fun _ _ => rfl, ?_, ?_, ?_, ?_⟩
  · exact fun amount code same => settles (exchangeFrame_answered open_ (approvedAnswer_same kind slot order code same))
  · exact fun amount code other => settles (exchangeFrame_answered open_ (approvedAnswer_short kind slot order code other))
  · exact fun reason => settles (exchangeFrame_answered open_ (outcomeAnswer_pay kind slot order _ _))
  · exact settles (exchangeFrame_answered open_ (outcomeAnswer_pay kind slot order _ _))
  · exact settles (exchangeFrame_answered open_ (outcomeAnswer_pay kind slot order _ _))
  · intro reason opened
    refine settles (exchangeFrame_answered open_ ((refusedAnswer_authorization kind _).trans ?_))
    rw [outcomeAnswer_pay kind slot order]
    simp only [if_pos opened]
  · intro reason aborting known
    have same : refusedReason reason = reason := if_pos known
    have notOpened : ¬ h.exchange = .opened := by rw [aborting]; exact Exchange.noConfusion
    refine settles (exchangeFrame_answered open_ ((refusedAnswer_authorization kind _).trans ?_))
    rw [outcomeAnswer_pay kind slot order]
    simp only [if_neg notOpened, same]
  · intro opened seen
    refine settles ?_
    rw [readyArrived_held open_]
    simp only [readyMeetsHolder, kind, opened, slot, order, seen, if_true]
    exact endHolding_lose h n o _
  · intro opened unseen
    refine settles ?_
    rw [readyArrived_held open_]
    simp only [readyMeetsHolder, kind, opened, slot, order, unseen, Bool.false_eq_true, if_false]
  · intro aborting
    refine settles ?_
    rw [readyArrived_held open_]
    simp only [readyMeetsHolder, kind, aborting, slot, order]
    exact endHolding_abandon h n o _
  · exact fun amount code => settles (exchangeFrame_answered open_ (approvedAnswer_alone kind slot _ _))
  · exact fun reason => settles (exchangeFrame_answered open_ (outcomeAnswer_alone kind slot _ _))
  · exact settles (exchangeFrame_answered open_ (outcomeAnswer_alone kind slot _ _))
  · exact settles (exchangeFrame_answered open_ (outcomeAnswer_alone kind slot _ _))
  · exact fun reason => settles (exchangeFrame_answered open_
      ((refusedAnswer_authorization kind _).trans (outcomeAnswer_alone kind slot _ _)))
  · intro aborting
    refine settles ?_
    rw [readyArrived_held open_]
    simp only [readyMeetsHolder, kind, aborting, slot]
    rfl
  · exact endsAs_congr (event_endsAs _ _ run) (exchangeFrame_answered open_ (cardWaited_authorization kind))
  · intro ref ne
    refine endsAs_congr (event_endsAs _ _ run) (exchangeFrame_stray fun x found => absurd (found_reference open_ found) ne)
  · intro ref amount code reason c cases
    have stray : ∀ {answer : Holder → State → Option State},
        (∀ x, holderOf s.quiet ref = some x → answer x (terminalHeard s.quiet) = none) →
        ThenSettles (settlingEvent (exchangeFrame ref answer) s) s.quiet (strayFrame s.quiet) := fun other => settles (exchangeFrame_stray other)
    have own : ∀ x, holderOf s.quiet ref = some x → x = h := fun x found => Option.some.inj ((holderOf_some found).1.symm.trans holds)
    obtain rfl | ⟨ne, rfl | rfl | rfl | rfl | rfl⟩ := cases
    · exact stray fun x found => voidedAnswer_authorization (own x found ▸ kind)
    all_goals exact stray fun x found => absurd (found_reference open_ found) ne
  · intro ref amount
    obtain ⟨new, known⟩ := capturedArrived_stray (s := s.quiet) (ref := ref) (amount := amount.toNat) fun x found => by
      have same : x = h := Option.some.inj ((holderOf_some found).1.symm.trans holds)
      exact capturedAnswer_authorization (same ▸ kind) _
    exact ⟨fun absent => settles (new absent), fun present => settles (known present)⟩

/-! ## The answers to a capture or a void (R136, R141, R144) -/

section Settlement
variable {h : Holder} {s : State}

theorem capturedAnswer_due {o : OrderId} {amount : Nat} (kind : h.kind = .settlement) (order : h.order = some o) (due : 0 < h.amount)
    (same : amount = h.amount) : capturedAnswer amount h s = some ((closeOrder o .captured s).onTerminal fun t =>
      { t with state := .idle, holder := none, till := { t.till with captures := t.till.captures.add h.amount } }) := by
  unfold capturedAnswer
  simp only [kind, order]
  exact (if_pos ⟨due, same⟩).trans rfl

theorem capturedAnswer_other {amount : Nat} (other : h.kind ≠ .settlement ∨ h.amount = 0 ∨ amount ≠ h.amount) :
    capturedAnswer amount h s = none := by
  unfold capturedAnswer
  split
  next o kind order =>
    refine if_neg fun ⟨due, same⟩ => ?_
    obtain e | e | e := other
    · exact e kind
    · exact Nat.ne_of_gt due e
    · exact e same
  next => rfl

theorem voidedAnswer_nothing {o : OrderId} (kind : h.kind = .settlement) (order : h.order = some o) (nothing : h.amount = 0) :
    voidedAnswer h s = some ((closeOrder o .voided s).onTerminal fun t =>
      { t with state := .idle, holder := none, till := { t.till with voids := t.till.voids.add ((s.order o).approved.getD 0) } }) := by
  unfold voidedAnswer
  simp only [kind, order]
  exact (if_pos nothing).trans rfl

theorem voidedAnswer_due (kind : h.kind = .settlement) (due : 0 < h.amount) : voidedAnswer h s = none := by
  unfold voidedAnswer
  rw [kind]
  split
  next => exact if_neg (Nat.ne_of_gt due)
  next e => cases e
  next e => cases e
  next => rfl

theorem voidedAnswer_followUp (kind : h.kind = .followUpVoid) : voidedAnswer h s = some (s.onTerminal fun t =>
    { t with state := .idle, holder := none, till := { t.till with voids := t.till.voids.add h.amount } }) := by
  unfold voidedAnswer
  simp only [kind]
  rfl

theorem voidedAnswer_list (kind : h.kind = .listVoid) : voidedAnswer h s = some (s.onTerminal fun t =>
    { t with state := .idle, holder := none, voidList := t.voidList.filter (·.reference != h.reference),
             till := { t.till with voids := t.till.voids.add h.amount } }) := by
  unfold voidedAnswer
  simp only [kind]
  rfl

theorem refusedAnswer_due {o : OrderId} {reason : Byte} (kind : h.kind = .settlement) (order : h.order = some o) (due : 0 < h.amount) :
    refusedAnswer reason h s = some ((closeOrder o .uncollected s).onTerminal fun t =>
      { t with state := .idle, holder := none, till := { t.till with uncollected := t.till.uncollected.add h.amount },
               latched := { t.latched with uncollected := true },
               uncollectedReferences := joinOnce h.reference t.uncollectedReferences }) := by
  unfold refusedAnswer
  simp only [kind, order]
  rw [if_pos due, countUncollected_eq, endSettlement_eq, onTerminal_onTerminal]

theorem refusedAnswer_nothing {o : OrderId} {reason : Byte} (kind : h.kind = .settlement) (order : h.order = some o) (nothing : h.amount = 0) :
    refusedAnswer reason h s = some ((closeOrder o .voided s).onTerminal fun t => { t with state := .idle, holder := none }) := by
  unfold refusedAnswer
  simp only [kind, order]
  exact congrArg some ((if_neg (by omega)).trans rfl)

theorem refusedAnswer_followUp {reason : Byte} (kind : h.kind = .followUpVoid) : refusedAnswer reason h s =
    some (s.onTerminal fun t => { t with state := .idle, holder := none }) := by
  unfold refusedAnswer
  simp only [kind]
  rfl

theorem refusedAnswer_list {reason : Byte} (kind : h.kind = .listVoid) (other : reason ≠ 3) : refusedAnswer reason h s =
    some (s.onTerminal fun t =>
      { t with state := .idle, holder := none, voidList := t.voidList.filter (·.reference != h.reference) }) := by
  unfold refusedAnswer
  simp only [kind]
  exact congrArg some ((if_neg other).trans rfl)

theorem refusedAnswer_badAmount (kind : h.kind = .listVoid) : refusedAnswer 3 h s = some (voidAttemptFailed h s) := by
  unfold refusedAnswer
  simp only [kind]
  rfl

theorem voidAttemptFailed_again (few : h.attempts < 2) : voidAttemptFailed h s = s.onTerminal fun t =>
    { t with state := .idle, holder := none,
             voidList := t.voidList.map fun e => if e.reference = h.reference then { e with attempts := h.attempts + 1 } else e } := by
  unfold voidAttemptFailed
  rw [if_pos few]
  rfl

theorem voidAttemptFailed_last (many : 2 ≤ h.attempts) : voidAttemptFailed h s = s.onTerminal fun t =>
    { t with state := .idle, holder := none, voidList := t.voidList.filter (·.reference != h.reference),
             till := { t.till with abandoned := t.till.abandoned.add h.amount },
             latched := { t.latched with voidAbandoned := true } } := by
  unfold voidAttemptFailed
  rw [if_neg (Nat.not_lt.2 many), countAbandoned_eq]
  unfold leaveVoidList endHolding
  simp only [onTerminal_onTerminal]

theorem refusedReason_other {reason : Byte} (other : reason ≠ 3) : refusedReason reason ≠ 3 := by
  unfold refusedReason
  split
  · exact other
  · decide

theorem approvedAnswer_other (amount : Nat) (code : List Byte) (other : h.kind ≠ .authorization) : approvedAnswer amount code h s = none := by
  unfold approvedAnswer
  split
  next e _ _ => exact absurd e other
  next e _ => exact absurd e other
  next => rfl

theorem outcomeAnswer_other (outcome : Holder → PayOutcome) (reason : Holder → Option Byte) (other : h.kind ≠ .authorization) :
    outcomeAnswer outcome reason h s = none := by
  unfold outcomeAnswer
  split
  next e _ _ => exact absurd e other
  next e _ => exact absurd e other
  next => rfl

theorem readyMeetsHolder_other (other : h.kind ≠ .authorization) : readyMeetsHolder h s = s := by
  unfold readyMeetsHolder
  split
  next e _ _ _ => exact absurd e other
  next e _ _ _ => exact absurd e other
  next e _ _ => exact absurd e other
  next => rfl

end Settlement

/-! ## The end of an order (R10, R36) -/

theorem order_closeOrder (o : OrderId) (how : SettleStatus) (s : State) (x : OrderId) : (closeOrder o how s).order x = if o = x then
    { s.order o with state := .closed, settleStatus := how, captured := if how = .captured then (s.order o).settlement.getD 0 else 0,
                     reference := none, closedAt := some s.clock } else s.order x := by
  unfold closeOrder
  rw [order_of_beyond (beyond_reportFinal o _), order_onOrder]
  split
  next own => rw [own]
  next => rfl

theorem session_clearNoRoom (s : State) (k : SessionId) : (clearNoRoom s).session k = s.session k :=
  congrArg (look · k) (forEach_keeps State.sessions _ (fun i t => by split <;> rfl) _ s)

theorem session_freeEntry (k : SessionId) (s : State) : ((freeEntry k s).session k).state = .free := by
  unfold freeEntry
  rw [session_clearNoRoom, session_onSession_same]

theorem session_reported (s : State) (i : StationId) (f : Station → Station) (u : UnitId) (k : SessionId) :
    ((s.onStation i f).markUnit u).session k = s.session k := rfl

/-- R10: the last order of a DRAINING session frees its entry. -/
theorem reportFinal_frees {o : OrderId} {s : State} (draining : (s.session (s.order o).session).state = .draining)
    (listed : (s.session (s.order o).session).orders.contains o = true)
    (final : ∀ x ∈ (s.session (s.order o).session).orders, nonFinal (s.order x) = false) :
    ((reportFinal o s).session (s.order o).session).state = .free := by
  have none : s.nonFinalCount (s.order o).session = 0 := by
    unfold State.nonFinalCount
    rw [List.length_eq_zero_iff, List.filter_eq_nil_iff]
    intro x mem
    rw [final x mem]
    decide
  simp only [reportFinal]
  rw [if_pos ⟨draining, listed, none⟩]
  rw [session_reported]
  exact session_freeEntry _ s

theorem mem_joinOnce (ref x : W16) (l : List W16) : x ∈ joinOnce ref l ↔ x = ref ∨ x ∈ l := by
  unfold joinOnce
  split
  next listed =>
    rw [List.contains_iff_mem] at listed
    refine ⟨.inr, fun either => ?_⟩
    obtain rfl | mem := either
    · exact listed
    · exact mem
  next => rw [List.mem_append, List.mem_singleton, or_comm]

/-- Settles O36. -/
theorem settlementEndsByItsAnswer : Obligations.SettlementEndsByItsAnswer := by
  refine ⟨fun s h run state holds => ?_, fun o how s => ⟨?_, fun draining listed final => ?_⟩, mem_joinOnce⟩
  · have open_ : Exchanging s.quiet h := ⟨holds, .inr state⟩
    have own : ∀ ref x, holderOf s.quiet ref = some x → x = h := fun ref x found =>
      Option.some.inj ((holderOf_some found).1.symm.trans holds)
    have settles : ∀ {f : State → State} {u : State}, f s.quiet = u → ThenSettles (settlingEvent f s) s.quiet u := thenSettles_settlingEvent run
    have stray : ∀ {ref : W16} {answer : Holder → State → Option State},
        (∀ x, holderOf s.quiet ref = some x → answer x (terminalHeard s.quiet) = none) →
        ThenSettles (settlingEvent (exchangeFrame ref answer) s) s.quiet (strayFrame s.quiet) := fun other => settles (exchangeFrame_stray other)
    refine ⟨fun o amount kind order due same => ?_, fun o kind order nothing => ?_, fun kind => ?_, fun kind => ?_,
      fun o reason kind order due => ?_, fun o reason kind order nothing => ?_, fun reason kind other => ?_, fun reason kind => ?_,
      fun kind few => ?_, fun kind many => ?_, fun ref other => ?_, fun ref amount code reason c cases => ?_, fun ref amount other => ?_⟩
    · exact settles (capturedArrived_answered open_ (capturedAnswer_due kind order due same))
    · exact settles (exchangeFrame_answered open_ (voidedAnswer_nothing kind order nothing))
    · exact settles (exchangeFrame_answered open_ (voidedAnswer_followUp kind))
    · exact settles (exchangeFrame_answered open_ (voidedAnswer_list kind))
    · exact settles (exchangeFrame_answered open_ (refusedAnswer_due kind order due))
    · exact settles (exchangeFrame_answered open_ (refusedAnswer_nothing kind order nothing))
    · exact settles (exchangeFrame_answered open_ (refusedAnswer_list kind (refusedReason_other other)))
    · exact settles (exchangeFrame_answered open_ (refusedAnswer_followUp kind))
    · exact settles (exchangeFrame_answered open_ ((refusedAnswer_badAmount kind).trans (congrArg some (voidAttemptFailed_again few))))
    · exact settles (exchangeFrame_answered open_ ((refusedAnswer_badAmount kind).trans (congrArg some (voidAttemptFailed_last many))))
    · refine endsAs_congr (event_endsAs _ _ run) (exchangeFrame_stray fun x found => if_neg fun kind => ?_)
      obtain notPay | ne := other
      · exact notPay (own ref x found ▸ kind)
      · exact ne (found_reference open_ found)
    · obtain ⟨notPay, rfl | rfl | rfl | rfl | rfl⟩ | ⟨ne, rfl | rfl | rfl | rfl | rfl | rfl⟩ | ⟨kind, due, rfl⟩ := cases
      · exact settles ((readyArrived_held open_).trans (readyMeetsHolder_other notPay))
      · exact stray fun x found => approvedAnswer_other _ _ (own ref x found ▸ notPay)
      · exact stray fun x found => outcomeAnswer_other _ _ (own ref x found ▸ notPay)
      · exact stray fun x found => outcomeAnswer_other _ _ (own ref x found ▸ notPay)
      · exact stray fun x found => outcomeAnswer_other _ _ (own ref x found ▸ notPay)
      iterate 6 exact stray fun x found => absurd (found_reference open_ found) ne
      · exact stray fun x found => voidedAnswer_due (own ref x found ▸ kind) (own ref x found ▸ due)
    · obtain ⟨new, known⟩ := capturedArrived_stray (s := s.quiet) (ref := ref) (amount := amount.toNat) fun x found => by
        obtain ne | other := other
        · exact absurd (found_reference open_ found) ne
        · rw [own ref x found]
          exact capturedAnswer_other other
      exact ⟨fun absent => settles (new absent), fun present => settles (known present)⟩
  · rw [order_closeOrder, if_pos rfl]
  · unfold closeOrder
    generalize closes : (s.onOrder o fun r => { r with
      state := .closed, settleStatus := how, captured := if how = .captured then r.settlement.getD 0 else 0, reference := none,
      closedAt := some s.clock }) = u
    have order : ∀ x, u.order x = _ := fun x => (congrArg (State.order · x) closes.symm).trans (order_onOrder s o x _)
    have session : ∀ k, u.session k = s.session k := fun k => closes ▸ rfl
    have same : (u.order o).session = (s.order o).session := by rw [order, if_pos rfl]
    rw [← same] at draining listed final ⊢
    rw [← session] at draining listed final
    refine reportFinal_frees draining listed fun x mem => ?_
    rw [order]
    split
    · rfl
    · exact (final x mem).resolve_left fun own => absurd own.symm ‹_›

end Sys2Proof.Machine
end

section
/-! SUPPORT. The limits of an exchange and the watch of the terminal link (R129, R134, R137 to R142, R144). -/

namespace Sys2Proof.Machine

/-! ## The limits (R134, R137, R142) -/

/-- An expiry that reaches the holder of the terminal, if its limit runs. -/
def limitExpires (runs : Holder → Bool) (effect : Holder → State → State) (t : State) : State :=
  match t.terminal.holder with
  | some h => if runs h then settle t (effect h t) else t
  | none => t

theorem limitExpires_runs {runs : Holder → Bool} {effect : Holder → State → State} {t : State} {h : Holder}
    (holds : t.terminal.holder = some h) (running : runs h = true) : limitExpires runs effect t = settle t (effect h t) := by
  unfold limitExpires
  rw [holds]
  exact if_pos running

theorem thenSettles_limit {runs : Holder → Bool} {effect : Holder → State → State} {s u : State} {h : Holder} (run : s.part = .run)
    (holds : s.terminal.holder = some h) (running : runs h = true) (done : effect h s.quiet = u) :
    ThenSettles (event (limitExpires runs effect) s) s.quiet u := by
  rw [event_next _ run, limitExpires_runs (t := s.quiet) holds running, done]
  rfl

section Limits
variable {h : Holder} {s : State}

theorem cardWaitExpires_pay {n : SlotId} {o : OrderId} (slot : h.slot = some n) (order : h.order = some o) : cardWaitExpires h s =
    (joinVoid h.reference h.amount 0 (endPay n o .terminalLost none none none s)).onTerminal fun t =>
      { t with state := .idle, holder := none, latched := { t.latched with authLost := true } } := by
  unfold cardWaitExpires
  simp only [slot, order]
  exact endHolding_lose h n o s

theorem authorizationExpires_opened {n : SlotId} {o : OrderId} (opened : h.exchange = .opened) (slot : h.slot = some n)
    (order : h.order = some o) : authorizationExpires h s =
      (endPay n o .timedOut none none none (s.emit (.abort h.reference))).onTerminal fun t =>
        { t with holder := some { h with exchange := .aborting, order := none, slot := none, cardWaitLimit := none,
                                         authorizationLimit := none, abortLimit := some (s.clock + 5#32) } } := by
  unfold authorizationExpires
  simp only [opened, slot, order]
  rfl

theorem authorizationExpires_aborting {n : SlotId} {o : OrderId} (aborting : h.exchange = .aborting) (slot : h.slot = some n)
    (order : h.order = some o) : authorizationExpires h s =
      (joinVoid h.reference h.amount 0 (endPay n o .cancelled none none none s)).onTerminal fun t =>
        { t with state := .idle, holder := none } := by
  unfold authorizationExpires
  simp only [aborting, slot, order]
  exact endHolding_abandon h n o s

theorem abortUnanswered_pay {n : SlotId} {o : OrderId} (slot : h.slot = some n) (order : h.order = some o) : abortUnanswered h s =
    (joinVoid h.reference h.amount 0 (endPay n o .cancelled none none none s)).onTerminal fun t =>
      { t with state := .idle, holder := none } := by
  unfold abortUnanswered
  simp only [slot, order]
  exact endHolding_abandon h n o s

theorem abortUnanswered_alone (slot : h.slot = none) : abortUnanswered h s =
    (joinVoid h.reference h.amount 0 s).onTerminal fun t => { t with state := .idle, holder := none } := by
  unfold abortUnanswered
  simp only [slot]
  rfl

section Order
variable {o : OrderId} (kind : h.kind = .settlement) (order : h.order = some o)
include kind order

theorem answerLate_settlement : answerLate h s = settlementUnanswered h o s := by
  unfold answerLate
  simp only [kind, order]

theorem answerLate_again (few : h.attempts < 2) : answerLate h s = s.onTerminal fun t =>
    { t with state := .idle, holder := none,
             pendingSettlements := insertSettlement { order := o, attempts := h.attempts + 1 } t.pendingSettlements } := by
  rw [answerLate_settlement kind order]
  exact (if_pos few).trans rfl

theorem answerLate_uncollected (many : 2 ≤ h.attempts) (due : 0 < h.amount) : answerLate h s =
    (closeOrder o .uncollected s).onTerminal fun t =>
      { t with state := .idle, holder := none, till := { t.till with uncollected := t.till.uncollected.add h.amount },
               latched := { t.latched with uncollected := true },
               uncollectedReferences := joinOnce h.reference t.uncollectedReferences } := by
  rw [answerLate_settlement kind order]
  unfold settlementUnanswered
  rw [if_neg (Nat.not_lt.2 many), if_pos due, countUncollected_eq, endSettlement_eq, onTerminal_onTerminal]

theorem answerLate_void (many : 2 ≤ h.attempts) (nothing : h.amount = 0) : answerLate h s =
    joinVoid h.reference ((s.order o).approved.getD 0) 0
      ((closeOrder o .voided s).onTerminal fun t => { t with state := .idle, holder := none }) := by
  rw [answerLate_settlement kind order]
  unfold settlementUnanswered
  rw [if_neg (Nat.not_lt.2 many), if_neg (by omega), endSettlement_eq]
  rfl

end Order

theorem answerLate_followUp (kind : h.kind = .followUpVoid) : answerLate h s =
    (joinVoid h.reference h.amount 1 s).onTerminal fun t => { t with state := .idle, holder := none } := by
  unfold answerLate
  simp only [kind]
  rfl

theorem answerLate_list (kind : h.kind = .listVoid) : answerLate h s = voidAttemptFailed h s := by
  unfold answerLate
  simp only [kind]

end Limits

/-! ## Link loss (R129, R140) -/

/-- R140: what the loss does beside the end of the holding itself. -/
def Lost (s lost : State) : Prop :=
  (s.terminal.holder = none ∧ lost = s)
    ∨ ∃ h, s.terminal.holder = some h ∧
      ((∃ n o, h.kind = .authorization ∧ h.slot = some n ∧ h.order = some o
          ∧ lost = (joinVoid h.reference h.amount 0 (endPay n o .terminalLost none none none s)).onTerminal fun t =>
              { t with latched := { t.latched with authLost := true } })
        ∨ ((h.kind = .authorization ∧ h.slot = none ∨ h.kind = .followUpVoid) ∧ lost = joinVoid h.reference h.amount 0 s)
        ∨ (∃ o, h.kind = .settlement ∧ h.order = some o ∧ lost = s.onTerminal fun t =>
              { t with pendingSettlements := insertSettlement { order := o, attempts := h.attempts } t.pendingSettlements })
        ∨ (h.kind = .listVoid ∧ lost = s))

theorem onTerminal_self {s : State} {f : Terminal → Terminal} (same : f s.terminal = s.terminal) : s.onTerminal f = s :=
  congrArg (fun t => { s with terminal := t }) same

/-- R140: the holding is gone, whatever it was. -/
theorem loseHolding_eq {s lost : State} (loses : Lost s lost) : loseHolding s = clearHolder lost := by
  obtain ⟨free, rfl⟩ | ⟨h, holds, cases⟩ := loses
  · have none : clearHolder lost = lost := onTerminal_self (by rw [← free])
    rw [none]
    unfold loseHolding
    rw [free]
  · unfold loseHolding
    rw [holds]
    obtain ⟨n, o, kind, slot, order, rfl⟩ | ⟨⟨kind, slot⟩ | kind, rfl⟩ | ⟨o, kind, order, rfl⟩ | ⟨kind, rfl⟩ := cases
    · simp only [kind, slot, order]
      rfl
    · simp only [kind, slot]
    · simp only [kind]
    · simp only [kind, order]
      rfl
    · simp only [kind]

/-- Neither the end of a PAY nor an entry of the void list touches the wait list. -/
theorem waitList_joinVoid (ref : W16) (amount attempts : Nat) (s : State) :
    (joinVoid ref amount attempts s).terminal.waitList = s.terminal.waitList
      ∧ (joinVoid ref amount attempts s).terminal.linkHeard = s.terminal.linkHeard
      ∧ (joinVoid ref amount attempts s).terminal.linkChangedAt = s.terminal.linkChangedAt := by
  have drop : ∀ u : State, (dropOldestVoid u).terminal.waitList = u.terminal.waitList ∧ (dropOldestVoid u).terminal.linkHeard = u.terminal.linkHeard
      ∧ (dropOldestVoid u).terminal.linkChangedAt = u.terminal.linkChangedAt := fun u => by
    unfold dropOldestVoid
    split <;> exact ⟨rfl, rfl, rfl⟩
  simp only [joinVoid]
  split
  · exact ⟨rfl, rfl, rfl⟩
  split
  · exact drop s
  · exact ⟨rfl, rfl, rfl⟩

theorem waitList_lost {s lost : State} (loses : Lost s lost) : lost.terminal.waitList = s.terminal.waitList := by
  obtain ⟨-, rfl⟩ | ⟨h, -, ⟨n, o, -, -, -, rfl⟩ | ⟨-, rfl⟩ | ⟨o, -, -, rfl⟩ | ⟨-, rfl⟩⟩ := loses
  · rfl
  · have list := (waitList_joinVoid h.reference h.amount 0 (endPay n o .terminalLost none none none s)).1
    have pay := congrArg Terminal.waitList (endPay_tables n o .terminalLost none none none s).2.2.2.1
    generalize joinVoid h.reference h.amount 0 (endPay n o .terminalLost none none none s) = u at *
    exact list.trans pay
  · exact (waitList_joinVoid _ _ _ s).1
  · rfl
  · rfl

theorem linkLoss_eq {s lost : State} (loses : Lost s lost) (new : TerminalState) : linkLoss new s =
    s.terminal.waitList.foldl (fun u e => endPay e.slot e.order .aborted none none none u)
      (lost.onTerminal fun t =>
        { t with state := new, watch := none, holder := none, linkHeard := false, waitList := [],
                 linkChangedAt := if t.linkHeard then some s.clock else t.linkChangedAt }) := by
  have list := waitList_lost loses
  unfold linkLoss endWaiting
  rw [loseHolding_eq loses]
  unfold clearHolder
  simp only [onTerminal_onTerminal]
  rw [show (lost.onTerminal fun t => { t with
    state := new, watch := none, holder := none, linkHeard := false,
    linkChangedAt := if t.linkHeard then some s.clock else t.linkChangedAt }).terminal.waitList = s.terminal.waitList from list]
  rfl

/-- R129: the link watch expires, if it runs. -/
def watchSilent (t : State) : State := if t.terminal.watch.isSome then settle t (terminalSilent t) else t

theorem watchSilent_runs {t : State} (watched : t.terminal.watch.isSome = true) : watchSilent t = settle t (terminalSilent t) := if_pos watched

theorem exec_terminalWatch {s : State} (run : s.part = .run) :
    exec .terminalLinkWatchExpiry s = .next (closeEvent s.quiet (watchSilent s.quiet)) := event_next watchSilent run

theorem settlesOnReady {s u : State} (run : s.part = .run) (arrived : readyArrived s.quiet = u) : ThenSettles (exec .ready s) s.quiet u :=
  thenSettles_settlingEvent run arrived

theorem readyArrived_off {s : State} (off : s.terminal.state = .absent ∨ s.terminal.state = .offline) : readyArrived s = terminalBack s := by
  unfold readyArrived
  rcases off with e | e <;> rw [e]

theorem terminalBack_eq (s : State) : terminalBack s = s.onTerminal fun t =>
    { t with state := .idle, watch := some (s.clock + 3#32), linkHeard := true,
             linkChangedAt := if t.linkHeard then t.linkChangedAt else some s.clock, linkSilentLive := false } := rfl

theorem readyArrived_idle {s : State} (idle : s.terminal.state = .idle) : readyArrived s = terminalHeard s := by
  unfold readyArrived
  rw [idle]

/-- R127: a discarded frame. -/
def countDiscarded (t : State) : State := t.onTerminal fun u => { u with counts := { u.counts with discarded := bump u.counts.discarded } }

/-- Settles O37. -/
theorem exchangeLimitsRunOut : Obligations.ExchangeLimitsRunOut := by
  refine ⟨fun s h run holds => ⟨?_, ?_, ?_, ?_, ?_, ?_, ?_, ?_, ?_, ?_, ?_⟩, fun s lost run watched loses => ?_, fun s run => ⟨?_, ?_, ?_, ?_⟩⟩
  · exact fun n o runs slot order => thenSettles_limit run holds runs (cardWaitExpires_pay slot order)
  · exact fun n o runs opened slot order => thenSettles_limit run holds runs (authorizationExpires_opened opened slot order)
  · exact fun n o runs aborting slot order => thenSettles_limit run holds runs (authorizationExpires_aborting aborting slot order)
  · exact fun n o runs slot order => thenSettles_limit run holds runs (abortUnanswered_pay slot order)
  · exact fun runs slot => thenSettles_limit run holds runs (abortUnanswered_alone slot)
  · exact fun o runs kind order few => thenSettles_limit run holds runs (answerLate_again kind order few)
  · exact fun o runs kind order many due => thenSettles_limit run holds runs (answerLate_uncollected kind order many due)
  · exact fun o runs kind order many nothing => thenSettles_limit run holds runs (answerLate_void kind order many nothing)
  · exact fun runs kind => thenSettles_limit run holds runs (answerLate_followUp kind)
  · exact fun runs kind few => thenSettles_limit run holds runs ((answerLate_list kind).trans (voidAttemptFailed_again few))
  · exact fun runs kind many => thenSettles_limit run holds runs ((answerLate_list kind).trans (voidAttemptFailed_last many))
  · rw [exec_terminalWatch run, watchSilent_runs (t := s.quiet) watched]
    unfold terminalSilent
    rw [linkLoss_eq (s := s.quiet) loses]
    rfl
  · intro off
    have back := (readyArrived_off (s := s.quiet) off).trans (terminalBack_eq s.quiet)
    have clock : s.quiet.clock = s.clock := rfl
    simp only [clock] at back
    exact settlesOnReady run back
  · intro idle
    refine settlesOnReady run ((readyArrived_idle (s := s.quiet) idle).trans (terminalHeard_watched ?_ ?_)) <;>
      (rw [show s.quiet.terminal.state = .idle from idle]; exact TerminalState.noConfusion)
  · exact fun raw gap => event_endsAs countDiscarded s run
  · intro away ref amount code reason
    have none : ∀ x, holderOf s.quiet ref ≠ some x := fun x found => by
      rw [holderOf_idle (s := s.quiet) away ref] at found
      cases found
    have stray : ∀ {answer : Holder → State → Option State},
        ThenSettles (settlingEvent (exchangeFrame ref answer) s) s.quiet (strayFrame s.quiet) :=
      thenSettles_settlingEvent run (exchangeFrame_stray fun x found => absurd found (none x))
    obtain ⟨new, known⟩ := capturedArrived_stray (s := s.quiet) (ref := ref) (amount := amount.toNat) fun x found => absurd found (none x)
    refine ⟨endsAs_congr (event_endsAs _ _ run) (exchangeFrame_stray fun x found => absurd found (none x)), fun c mem => ?_,
      fun absent => thenSettles_settlingEvent run (new absent), fun present => thenSettles_settlingEvent run (known present)⟩
    simp only [List.mem_cons, List.not_mem_nil, or_false] at mem
    obtain rfl | rfl | rfl | rfl | rfl | rfl := mem <;> exact stray

end Sys2Proof.Machine
end

section
/-! SUPPORT. The links and the card port (R80, R107, R108, R127, R185): numbers and their bytes, the escapes of a printer link, and what a
receiver reads of a frame. -/

namespace Sys2Proof.Machine

/-! ## Numbers and their bytes -/

theorem leBytes_two (v : Nat) : leBytes 2 v = [BitVec.ofNat 8 v, BitVec.ofNat 8 (v / 256)] := rfl

theorem leBytes_four (v : Nat) : leBytes 4 v =
    [BitVec.ofNat 8 v, BitVec.ofNat 8 (v / 256), BitVec.ofNat 8 (v / 256 / 256), BitVec.ofNat 8 (v / 256 / 256 / 256)] := rfl

theorem ofLeBytes_leBytes (n v : Nat) : ofLeBytes (leBytes n v) = v % 256 ^ n := by
  induction n generalizing v with
  | zero => simp [leBytes, ofLeBytes, Nat.mod_one]
  | succ n ih =>
    have low : (BitVec.ofNat 8 v).toNat = v % 256 := BitVec.toNat_ofNat ..
    rw [leBytes, ofLeBytes, ih, low, Nat.pow_succ', Nat.mod_mul]

theorem length_leBytes (n v : Nat) : (leBytes n v).length = n := by
  induction n generalizing v with
  | zero => rfl
  | succ n ih => rw [leBytes, List.length_cons, ih]

theorem length_beBytes (n v : Nat) : (beBytes n v).length = n := by rw [beBytes, List.length_reverse, length_leBytes]

theorem word16_leBytes (w : W16) : BitVec.ofNat 16 (ofLeBytes (leBytes 2 w.toNat)) = w := by
  rw [ofLeBytes_leBytes]
  exact BitVec.eq_of_toNat_eq (by rw [BitVec.toNat_ofNat, show 256 ^ 2 = 2 ^ 16 from rfl, Nat.mod_mod, Nat.mod_eq_of_lt w.isLt])

theorem word32_leBytes (w : W32) : BitVec.ofNat 32 (ofLeBytes (leBytes 4 w.toNat)) = w := by
  rw [ofLeBytes_leBytes]
  exact BitVec.eq_of_toNat_eq (by rw [BitVec.toNat_ofNat, show 256 ^ 4 = 2 ^ 32 from rfl, Nat.mod_mod, Nat.mod_eq_of_lt w.isLt])

theorem toNat_append8 {n : Nat} (a : BitVec n) (b : Byte) : (a ++ b).toNat = a.toNat * 256 + b.toNat := by
  rw [BitVec.toNat_append, ← Nat.shiftLeft_add_eq_or_of_lt b.isLt, Nat.shiftLeft_eq]

/-- R185: a word of the card port, most significant byte first. -/
theorem beBytes_two_iff (w : W16) (k1 k0 : Byte) : beBytes 2 w.toNat = [k1, k0] ↔ w = k1 ++ k0 := by
  have bytes : beBytes 2 w.toNat = [BitVec.ofNat 8 (w.toNat / 256), BitVec.ofNat 8 w.toNat] := rfl
  have value : (k1 ++ k0 : W16).toNat = k1.toNat * 256 + k0.toNat := toNat_append8 k1 k0
  have small := w.isLt
  rw [bytes, ← BitVec.toNat_inj (x := w), value]
  simp only [List.cons.injEq, and_true, ← BitVec.toNat_inj, BitVec.toNat_ofNat]
  omega

theorem beBytes_four_iff (w : W32) (c3 c2 c1 c0 : Byte) : beBytes 4 w.toNat = [c3, c2, c1, c0] ↔ w = c3 ++ c2 ++ c1 ++ c0 := by
  have bytes : beBytes 4 w.toNat = [BitVec.ofNat 8 (w.toNat / 256 / 256 / 256), BitVec.ofNat 8 (w.toNat / 256 / 256),
    BitVec.ofNat 8 (w.toNat / 256), BitVec.ofNat 8 w.toNat] := rfl
  have value : (c3 ++ c2 ++ c1 ++ c0 : W32).toNat = ((c3.toNat * 256 + c2.toNat) * 256 + c1.toNat) * 256 + c0.toNat := by
    rw [toNat_append8, toNat_append8, toNat_append8]
  have small := w.isLt
  rw [bytes, ← BitVec.toNat_inj (x := w), value]
  simp only [List.cons.injEq, and_true, ← BitVec.toNat_inj, BitVec.toNat_ofNat]
  omega

/-! ## The escapes of a printer link (R185) -/

theorem escaped_byte {b : Byte} (marked : b = printerStart ∨ b = printerEscape) :
    (b ^^^ 0x20#8 = 0x85#8 ∨ b ^^^ 0x20#8 = 0x86#8) ∧ (b ^^^ 0x20#8) ^^^ 0x20#8 = b := by
  rcases marked with rfl | rfl <;> decide

theorem unescape_escape (l : List Byte) : unescape (escape l) = some l := by
  induction l with
  | nil => rfl
  | cons b rest ih =>
    unfold escape
    split
    next marked =>
      obtain ⟨known, back⟩ := escaped_byte marked
      rw [unescape, if_pos rfl]
      simp only [if_pos known, ih, Option.map_some, back]
    next plain =>
      rw [unescape.eq_def]
      simp only [if_neg fun e => plain (.inr e), ih, Option.map_some]

theorem escape_no_start (l : List Byte) : ∀ b ∈ escape l, b ≠ printerStart := by
  induction l with
  | nil => intro b mem; cases mem
  | cons b rest ih =>
    intro x mem
    unfold escape at mem
    split at mem
    next marked =>
      obtain rfl | rfl | mem := by simpa using mem
      · decide
      · rcases marked with rfl | rfl <;> decide
      · exact ih x mem
    next plain =>
      obtain rfl | mem := List.mem_cons.1 mem
      · exact fun e => plain (.inl e)
      · exact ih x mem

/-! ## Printer frames (R80) -/

/-- R80: the first two checks pass, and the third reads the kind and the payload that were sent. -/
theorem parsePrinter_wire (kind : Byte) {payload : List Byte} (short : payload.length < 65536) :
    parsePrinter (printerWire kind payload).tail = printerFrameOf kind payload := by
  have len : ofLeBytes [BitVec.ofNat 8 payload.length, BitVec.ofNat 8 (payload.length / 256)] = payload.length := by
    rw [← leBytes_two, ofLeBytes_leBytes]
    exact Nat.mod_eq_of_lt short
  have body : printerBody kind payload = kind :: BitVec.ofNat 8 payload.length :: BitVec.ofNat 8 (payload.length / 256) ::
      (payload ++ beBytes 2 (crc16 (kind :: (leBytes 2 payload.length ++ payload))).toNat) := rfl
  have covered : (printerBody kind payload).take (payload.length + 3) = kind :: (leBytes 2 payload.length ++ payload) := by
    rw [body, leBytes_two]
    simp
  have check : (printerBody kind payload).drop (payload.length + 3) = beBytes 2 (crc16 (kind :: (leBytes 2 payload.length ++ payload))).toNat := by
    rw [body]
    simp
  have length : (printerBody kind payload).length = payload.length + 5 := by
    rw [body]
    simp [length_beBytes]
  unfold parsePrinter
  rw [printerWire, List.tail_cons, unescape_escape]
  simp only
  rw [body] at length covered check ⊢
  simp only [len, if_pos length, covered, check, if_true]
  rw [List.take_left]

theorem reportOfCode_code (r : Report) : Report.ofCode (Report.code r) = some r := by cases r <;> rfl

theorem headOfCode_code (h : HeadClass) : HeadClass.ofCode (HeadClass.code h) = some h := by cases h <;> rfl

theorem conditionsOfCode_code (c : Conditions) : Conditions.ofCode (Conditions.code c) = c := by
  obtain ⟨jam, media, overheat, door, cooling⟩ := c
  cases jam <;> cases media <;> cases overheat <;> cases door <;> cases cooling <;> rfl

theorem statusOfPayload_payload (f : StatusFrame) : statusOfPayload (statusPayload f) = some f := by
  have copy := word16_leBytes f.lastCopy
  have stock := word16_leBytes f.stock
  have pack := word32_leBytes f.pack
  rw [leBytes_two] at copy stock
  rw [leBytes_four] at pack
  simp only [statusPayload, leBytes_two, leBytes_four, List.cons_append, List.nil_append, statusOfPayload, reportOfCode_code, headOfCode_code,
    conditionsOfCode_code, copy, stock, pack]

/-- R80: a printer's frame is read back from its kind and payload. -/
theorem printerFrameOf_frame (f : PrinterFrame) : printerFrameOf (printerFrameKind f) (printerFramePayload f) = some f := by
  cases f with
  | status f => exact congrArg (Option.map PrinterFrame.status) (statusOfPayload_payload f)
  | nextStripe n =>
    have word := word16_leBytes n
    rw [leBytes_two] at word
    exact congrArg (fun w => some (PrinterFrame.nextStripe w)) word
  | hold => rfl
  | resume => rfl
  | copyDone i r c =>
    have word := word16_leBytes i
    rw [leBytes_two] at word
    exact congrArg (fun w => some (PrinterFrame.copyDone w r c)) word

theorem length_printerFramePayload (f : PrinterFrame) : (printerFramePayload f).length < 65536 := by
  cases f with
  | status f => exact (by decide : 16 < 65536)
  | nextStripe n => exact (by decide : 2 < 65536)
  | hold => exact (by decide : 0 < 65536)
  | resume => exact (by decide : 0 < 65536)
  | copyDone i r c => exact (by decide : 4 < 65536)

/-! ## Terminal frames (R127) -/

/-- R127: a frame of the length its kind asks for passes both checks. -/
theorem parseTerminal_covered {kind result : Byte} {ref : W16} {amount : W32} {six : List Byte}
    (length : terminalLength kind = some (9 + six.length)) :
    parseTerminal (terminalCovered kind ref amount result six ++ [crc8 (terminalCovered kind ref amount result six)]) =
      if kind = 0x10#8 then some .ready
      else if kind = 0x11#8 then some (.cardWait ref)
      else if kind = 0x12#8 then some (.approved ref amount six)
      else if kind = 0x13#8 then some (.declined ref result)
      else if kind = 0x14#8 then some (.timedOut ref)
      else if kind = 0x15#8 then some (.aborted ref)
      else if kind = 0x16#8 then some (.captured ref amount)
      else if kind = 0x17#8 then some (.voided ref)
      else if kind = 0x18#8 then some (.refused ref result)
      else none := by
  have r := word16_leBytes ref
  have a := word32_leBytes amount
  rw [leBytes_two] at r
  rw [leBytes_four] at a
  have bytes : terminalCovered kind ref amount result six = kind :: BitVec.ofNat 8 ref.toNat :: BitVec.ofNat 8 (ref.toNat / 256)
    :: BitVec.ofNat 8 amount.toNat :: BitVec.ofNat 8 (amount.toNat / 256) :: BitVec.ofNat 8 (amount.toNat / 256 / 256)
    :: BitVec.ofNat 8 (amount.toNat / 256 / 256 / 256) :: result :: six := rfl
  have checks : terminalLength kind = some (terminalCovered kind ref amount result six ++ [crc8 (terminalCovered kind ref amount result six)]).length
      ∧ (terminalCovered kind ref amount result six ++ [crc8 (terminalCovered kind ref amount result six)]).getLast?
        = some (crc8 (terminalCovered kind ref amount result six ++ [crc8 (terminalCovered kind ref amount result six)]).dropLast) := by
    refine ⟨?_, ?_⟩
    · rw [length, List.length_append, bytes]
      simp only [List.length_cons, List.length_nil]
      congr 1
      omega
    · rw [List.getLast?_concat, List.dropLast_concat]
  generalize crc8 (terminalCovered kind ref amount result six) = check at *
  rw [bytes] at checks ⊢
  simp only [List.cons_append] at checks ⊢
  unfold parseTerminal
  simp only [if_pos checks, r, a, List.dropLast_concat]

/-! ## The card port (R107, R108) -/

theorem beBytes_two_form (v : Nat) : ∃ k1 k0, beBytes 2 v = [k1, k0] := ⟨_, _, rfl⟩

theorem beBytes_four_form (v : Nat) : ∃ c3 c2 c1 c0, beBytes 4 v = [c3, c2, c1, c0] := ⟨_, _, _, _, rfl⟩

theorem identityCommand_iff (b : BayId) (capacity serial : W32) (check : W16) (bytes : List Byte) :
    identityCommand b bytes = some (.identifyAnswer b capacity serial check) ↔
      bytes = beBytes 4 capacity.toNat ++ beBytes 4 serial.toNat ++ beBytes 2 check.toNat := by
  refine ⟨fun read => ?_, ?_⟩
  · unfold identityCommand identityOfWire at read
    split at read
    next c3 c2 c1 c0 s3 s2 s1 s0 k1 k0 =>
      simp only [Option.map_some, Option.some.injEq, Instr.identifyAnswer.injEq, true_and] at read
      obtain ⟨c, s, k⟩ := read
      rw [(beBytes_four_iff _ _ _ _ _).2 c.symm, (beBytes_four_iff _ _ _ _ _).2 s.symm, (beBytes_two_iff _ _ _).2 k.symm]
      rfl
    next => cases read
  · rintro rfl
    obtain ⟨c3, c2, c1, c0, c⟩ := beBytes_four_form capacity.toNat
    obtain ⟨s3, s2, s1, s0, s⟩ := beBytes_four_form serial.toNat
    obtain ⟨k1, k0, k⟩ := beBytes_two_form check.toNat
    rw [c, s, k, (beBytes_four_iff _ _ _ _ _).1 c, (beBytes_four_iff _ _ _ _ _).1 s, (beBytes_two_iff _ _ _).1 k]
    rfl

theorem blockCommand_iff (b : BayId) (data : List Byte) (check : W16) (bytes : List Byte) :
    blockCommand b bytes = some (.blockArrival b data check) ↔ data.length = 512 ∧ bytes = data ++ beBytes 2 check.toNat := by
  refine ⟨fun read => ?_, ?_⟩
  · unfold blockCommand blockOfWire at read
    split at read
    next k1 k0 tail =>
      simp only [Option.map_some, Option.some.injEq, Instr.blockArrival.injEq, true_and] at read
      obtain ⟨rfl, k⟩ := read
      have length := congrArg List.length tail
      rw [List.length_drop] at length
      refine ⟨?_, ?_⟩
      · rw [List.length_take]
        simp only [blockBytes, List.length_cons, List.length_nil] at length ⊢
        omega
      · rw [(beBytes_two_iff _ _ _).2 k.symm, ← tail, List.take_append_drop]
    next => cases read
  · rintro ⟨length, rfl⟩
    obtain ⟨k1, k0, k⟩ := beBytes_two_form check.toNat
    have head : (data ++ [k1, k0]).take blockBytes = data := List.take_left' length
    have tail : (data ++ [k1, k0]).drop blockBytes = [k1, k0] := List.drop_left' length
    unfold blockCommand blockOfWire
    rw [k, (beBytes_two_iff _ _ _).1 k]
    simp only [tail, head, Option.map_some]

/-- Settles O60. -/
theorem framesAreReadAsTheyAreSent : Obligations.FramesAreReadAsTheyAreSent := by
  refine ⟨fun f => (parsePrinter_wire _ (length_printerFramePayload f)).trans (printerFrameOf_frame f), fun ref amount code reason six f mem => ?_,
    fun kind payload => escape_no_start _, identityCommand_iff, blockCommand_iff⟩
  have long : terminalLength 0x12#8 = some (9 + code.length) := by rw [six]; rfl
  simp only [List.mem_cons, List.not_mem_nil, or_false] at mem
  obtain rfl | rfl | rfl | rfl | rfl | rfl | rfl | rfl | rfl := mem
  case inr.inr.inl => exact parseTerminal_covered long
  all_goals exact parseTerminal_covered rfl

end Sys2Proof.Machine
end

section
/-! SUPPORT. The end of a transfer that is told at once (R155, R157), and the price table image (R45, R47 to R49, R51): its checks in their
order and what its arrival does. -/

namespace Sys2Proof.Machine

/-! ## Telling an outcome (R155, R157) -/

theorem getElem?_between {α : Type} (before after : List α) (a : α) : (before ++ a :: after)[before.length]? = some a := by
  rw [List.getElem?_append_right (Nat.le_refl _), Nat.sub_self]
  rfl

theorem modify_between {α : Type} (before after : List α) (a : α) (f : α → α) :
    (before ++ a :: after).modify before.length f = before ++ f a :: after := by
  induction before with
  | nil => rfl
  | cons x rest ih => exact congrArg (x :: ·) ih

section Told
variable {r : Requester} {before after : List Granted} {g : Granted}

theorem tellable_others {l : List Granted} (others : ∀ x ∈ l, x.transfer.requester ≠ r) (m : List Granted) :
    tellable r (l ++ m) = tellable r m := by
  induction l with
  | nil => rfl
  | cons x rest ih =>
    rw [List.cons_append, tellable, if_neg (others x List.mem_cons_self)]
    exact ih fun y mem => others y (List.mem_cons_of_mem _ mem)

theorem dropTold_others {l : List Granted} (others : ∀ x ∈ l, x.transfer.requester ≠ r) (m : List Granted) :
    dropTold r (l ++ m) = l ++ dropTold r m := by
  induction l with
  | nil => rfl
  | cons x rest ih =>
    rw [List.cons_append, dropTold, if_neg (others x List.mem_cons_self), ih fun y mem => others y (List.mem_cons_of_mem _ mem)]
    rfl

variable (others : ∀ x ∈ before ++ after, x.transfer.requester ≠ r)
include others

theorem tellable_alone {o : TransferOutcome} (own : g.transfer.requester = r) (ended : g.outcome = some o) :
    tellable r (before ++ g :: after) = [(g.transfer, o)] := by
  have rest : tellable r after = [] := by
    have none := tellable_others (l := after) (fun x mem => others x (List.mem_append_right _ mem)) []
    rwa [List.append_nil] at none
  rw [tellable_others fun x mem => others x (List.mem_append_left _ mem), tellable, if_pos own]
  simp only [ended, rest]

theorem dropTold_alone {o : TransferOutcome} (own : g.transfer.requester = r) (ended : g.outcome = some o) :
    dropTold r (before ++ g :: after) = before ++ after := by
  have rest : dropTold r after = after := by
    have all := dropTold_others (l := after) (fun x mem => others x (List.mem_append_right _ mem)) []
    rwa [List.append_nil, dropTold, List.append_nil] at all
  rw [dropTold_others fun x mem => others x (List.mem_append_left _ mem), dropTold, if_pos own]
  simp only [ended, rest]

end Told

/-- State once a transfer that was granted has left the engine. -/
def State.ungranted (s : State) (left : List Granted) : State := s.onPort fun q => { q with granted := left }

/-- The engine with a transfer's outcome known. -/
def knownOutcome (index : Nat) (o : TransferOutcome) (s : State) : State :=
  s.onPort fun q => { q with granted := q.granted.modify index fun g => { g with timer := .stopped, outcome := some o } }

/-- R157: with no other transfer of its requester the outcome is told at once. -/
theorem tellRequester_alone {u : State} {r : Requester} {before after : List Granted} {g : Granted} {o : TransferOutcome}
    (now : u.port.granted = before ++ g :: after) (others : ∀ x ∈ before ++ after, x.transfer.requester ≠ r)
    (own : g.transfer.requester = r) (ended : g.outcome = some o) :
    tellRequester r u = tellOne g.transfer o (u.ungranted (before ++ after)) := by
  unfold tellRequester
  rw [now, tellable_alone others own ended]
  have left : (u.onPort fun q => { q with granted := dropTold r q.granted }) = u.ungranted (before ++ after) := by
    refine congrArg (fun p => { u with port := p }) ?_
    simp only [now, dropTold_alone others own ended]
  rw [left]
  rfl

section Reported
variable {s : State} {before after : List Granted} {g : Granted} (granted : s.port.granted = before ++ g :: after)
include granted

theorem knownOutcome_granted (o : TransferOutcome) :
    (knownOutcome before.length o s).port.granted = before ++ { g with timer := .stopped, outcome := some o } :: after := by
  have here := modify_between before after g fun g => { g with timer := .stopped, outcome := some o }
  rw [← granted] at here
  exact here

theorem endTransfer_done {data : List Byte} (runs : g.outcome = none)
    (others : ∀ x ∈ before ++ after, x.transfer.requester ≠ g.transfer.requester) :
    endTransfer before.length (.done data) s = tellOne g.transfer (.done data) (s.ungranted (before ++ after)) := by
  have now := knownOutcome_granted granted (.done data)
  unfold endTransfer
  rw [granted, getElem?_between]
  refine (if_neg (by rw [runs]; decide)).trans ?_
  exact (tellRequester_alone (u := knownOutcome before.length (.done data) s) now others rfl rfl).trans rfl

theorem transferReported_done {report : TransferReport} {data : List Byte} (outcome : outcomeOf g.transfer report = some (.done data))
    (runs : g.outcome = none) (others : ∀ x ∈ before ++ after, x.transfer.requester ≠ g.transfer.requester) :
    transferReported before.length report s = settle s (tellOne g.transfer (.done data) (s.ungranted (before ++ after))) := by
  unfold transferReported
  rw [granted, getElem?_between]
  simp only [outcome, runs, Option.isSome_none, Bool.false_eq_true, if_false]
  rw [endTransfer_done granted runs others]

end Reported

theorem thenSettles_transferEnd {s u : State} {index : Nat} {report : TransferReport} (run : s.part = .run)
    (effect : transferReported index report s.quiet = settle s.quiet u) : ThenSettles (exec (.transferEnd index report) s) s.quiet u :=
  (event_next (transferReported index report) run).trans (congrArg _ (congrArg _ effect))

/-! ## How a load ends (R47, R49, R51) -/

section LoadEnds
variable {s u : State} {l : Load} {outcome : LoadOutcome} {st : Status} {failure : Option (Nat × Violation)} {body : Body}

theorem endLoad_taken (taken : (s.slot l.slot).state = .taken) :
    endLoad l outcome st failure body s =
      { (s.onSlot l.slot fun c => { c with state := .done, status := st, reason := .none, completedAt := s.clock, body := body }) with
        price := { s.price with load := none, last := some { outcome := outcome, clock := s.clock, failure := failure },
                                loadFailedLatched := s.price.loadFailedLatched || outcome == .format || outcome == .transferFault },
        attnDone := true } :=
  complete_of_taken l.slot st .none body _ taken

theorem slot_endLoad (taken : (s.slot l.slot).state = .taken) :
    (endLoad l outcome st failure body s).slot l.slot =
      { s.slot l.slot with state := .done, status := st, reason := .none, completedAt := s.clock, body := body } := by
  rw [endLoad_taken taken]
  exact slot_onSlot_same s l.slot _

theorem otherSlot_endLoad (taken : (s.slot l.slot).state = .taken) {m : SlotId} (other : m ≠ l.slot) :
    (endLoad l outcome st failure body s).slot m = s.slot m := by
  rw [endLoad_taken taken]
  exact slot_onSlot_ne s (Ne.symm other) _

/-- What the end of a load leaves: everything but the price unit and its slot. -/
theorem endLoad_rest (taken : (s.slot l.slot).state = .taken) :
    { endLoad l outcome st failure body s with price := s.price, slots := s.slots, attnDone := s.attnDone } = s := by
  rw [endLoad_taken taken]
  rfl

end LoadEnds

/-- What the arrival of an image leaves: everything but the price unit and the load's slot. -/
theorem imageArrived_keeps {s : State} {image : List Byte} {l : Load} (load : s.price.load = some l)
    (taken : (s.slot l.slot).state = .taken) :
    (imageArrived image s).price.load = none ∧ ((imageArrived image s).slot l.slot).state = .done
      ∧ (∀ m, m ≠ l.slot → (imageArrived image s).slot m = s.slot m)
      ∧ { imageArrived image s with price := s.price, slots := s.slots, attnDone := s.attnDone } = s := by
  have ends {outcome st failure body} : (endLoad l outcome st failure body s).price.load = none
      ∧ ((endLoad l outcome st failure body s).slot l.slot).state = .done
      ∧ (∀ m, m ≠ l.slot → (endLoad l outcome st failure body s).slot m = s.slot m)
      ∧ { endLoad l outcome st failure body s with price := s.price, slots := s.slots, attnDone := s.attnDone } = s :=
    ⟨by rw [endLoad_taken taken], by rw [slot_endLoad taken], fun m other => otherSlot_endLoad taken other, endLoad_rest taken⟩
  simp only [imageArrived, load, faultLoad, judgeImage]
  split
  · exact ends
  · split
    · exact ends
    · split
      · exact ends
      · generalize tableOfImage image l.tag s.clock = t
        have kept : ((installTable t s).slot l.slot).state = .taken := taken
        exact ⟨by rw [endLoad_taken kept], by rw [slot_endLoad kept], fun m other => otherSlot_endLoad kept other,
          by rw [endLoad_taken kept]; rfl⟩

section Arrives
variable {s : State} {image : List Byte} {l : Load} (load : s.price.load = some l) (alive : l.areaDead = false)
  (taken : (s.slot l.slot).state = .taken)
include load alive taken

theorem imageArrived_good (opened : l.cancelled = false) (good : imageFailure image = none) :
    (imageArrived image s).price.table = tableOfImage image l.tag s.clock ∧ ((imageArrived image s).slot l.slot).status = .ok
      ∧ ((imageArrived image s).slot l.slot).body =
          .loaded l.tag s.clock (((imageArrived image s).price.table.sizes.toList.filter (·.offered)).length)
            (((imageArrived image s).price.table.promotions.toList.filter (·.rate != 0)).length)
      ∧ (imageArrived image s).price.last = some { outcome := .ok, clock := s.clock, failure := none }
      ∧ (imageArrived image s).price.loadFailedLatched = s.price.loadFailedLatched := by
  have ends : imageArrived image s =
      endLoad l .ok .ok none (.loaded l.tag s.clock ((tableOfImage image l.tag s.clock).sizes.toList.filter (·.offered)).length
        ((tableOfImage image l.tag s.clock).promotions.toList.filter (·.rate != 0)).length)
        (installTable (tableOfImage image l.tag s.clock) s) := by
    simp only [imageArrived, load, alive, opened, judgeImage, good]
    rfl
  generalize tableOfImage image l.tag s.clock = t at *
  have kept : ((installTable t s).slot l.slot).state = .taken := taken
  rw [ends, slot_endLoad kept, endLoad_taken kept]
  exact ⟨rfl, rfl, rfl, rfl, (Bool.or_false _).trans (Bool.or_false _)⟩

theorem imageArrived_bad {entry : Nat} {v : Violation} (opened : l.cancelled = false) (bad : imageFailure image = some (entry, v)) :
    (imageArrived image s).price.table = s.price.table ∧ ((imageArrived image s).slot l.slot).status = .format
      ∧ ((imageArrived image s).slot l.slot).body = .loadBad entry v
      ∧ (imageArrived image s).price.last = some { outcome := .format, clock := s.clock, failure := some (entry, v) }
      ∧ (imageArrived image s).price.loadFailedLatched = true := by
  have ends : imageArrived image s = endLoad l .format .format (some (entry, v)) (.loadBad entry v) s := by
    simp only [imageArrived, load, alive, opened, judgeImage, bad]
    rfl
  rw [ends, slot_endLoad taken, endLoad_taken taken]
  exact ⟨rfl, rfl, rfl, rfl, congrArg (· || false) (Bool.or_true _)⟩

theorem imageArrived_cancelled (closed : l.cancelled = true) :
    (imageArrived image s).price.table = s.price.table ∧ ((imageArrived image s).slot l.slot).status = .cancelled
      ∧ ((imageArrived image s).slot l.slot).body = .zero
      ∧ (imageArrived image s).price.last = some { outcome := .cancelled, clock := s.clock, failure := none }
      ∧ (imageArrived image s).price.loadFailedLatched = s.price.loadFailedLatched := by
  have ends : imageArrived image s = endLoad l .cancelled .cancelled none .zero s := by
    simp only [imageArrived, load, alive, closed]
    rfl
  rw [ends, slot_endLoad taken, endLoad_taken taken]
  exact ⟨rfl, rfl, rfl, rfl, (Bool.or_false _).trans (Bool.or_false _)⟩

end Arrives

/-! ## The checks of an image (R48) -/

/-- The checks `l`, each given that those before it hold, say what the statements `m` say. -/
inductive Agrees : List (Bool × Violation) → List (Prop × Violation) → Prop
  | nil : Agrees [] []
  | cons {b : Bool} {p : Prop} {v : Violation} {l : List (Bool × Violation)} {m : List (Prop × Violation)} (same : b = true ↔ p)
      (rest : p → Agrees l m) : Agrees ((b, v) :: l) ((p, v) :: m)

theorem Agrees.firstFailure_none {l : List (Bool × Violation)} {m : List (Prop × Violation)} (agree : Agrees l m) :
    firstFailure l = none ↔ ∀ x ∈ m, x.1 := by
  induction agree with
  | nil => exact ⟨fun _ x mem => absurd mem List.not_mem_nil, fun _ => rfl⟩
  | @cons b p v l m same rest ih =>
    rw [firstFailure, List.forall_mem_cons]
    by_cases holds : p
    · rw [if_pos (same.mpr holds), ih holds]
      exact ⟨fun all => ⟨holds, all⟩, And.right⟩
    · rw [if_neg fun t => holds (same.mp t)]
      exact ⟨fun none => absurd none (by simp), fun all => absurd all.1 holds⟩

theorem Agrees.firstFailure_some {l : List (Bool × Violation)} {m : List (Prop × Violation)} (agree : Agrees l m) (w : Violation) :
    firstFailure l = some w ↔ ∃ before bad after, m = before ++ (bad, w) :: after ∧ (∀ x ∈ before, x.1) ∧ ¬bad := by
  induction agree with
  | nil =>
    refine ⟨fun some => absurd some (by simp [firstFailure]), fun ⟨before, bad, after, here, _⟩ => ?_⟩
    exact absurd here.symm (by simp)
  | @cons b p v l m same rest ih =>
    rw [firstFailure]
    by_cases holds : p
    · rw [if_pos (same.mpr holds), ih holds]
      constructor
      · rintro ⟨before, bad, after, here, good, fails⟩
        exact ⟨(p, v) :: before, bad, after, congrArg ((p, v) :: ·) here, List.forall_mem_cons.mpr ⟨holds, good⟩, fails⟩
      · rintro ⟨before, bad, after, here, good, fails⟩
        cases before with
        | nil =>
          injection here with head _
          injection head with isBad _
          exact absurd (isBad ▸ holds) fails
        | cons x before =>
          injection here with _ tail
          exact ⟨before, bad, after, tail, fun y mem => good y (List.mem_cons_of_mem _ mem), fails⟩
    · rw [if_neg fun t => holds (same.mp t)]
      constructor
      · intro some
        injection some with isW
        exact ⟨[], p, m, by rw [isW]; rfl, fun x mem => absurd mem List.not_mem_nil, holds⟩
      · rintro ⟨before, bad, after, here, good, fails⟩
        cases before with
        | nil =>
          injection here with head _
          injection head with _ isW
          rw [isW]
        | cons x before =>
          injection here with head _
          exact absurd (by rw [show p = x.1 from congrArg Prod.fst head]; exact good x List.mem_cons_self) holds

theorem ofLeBytes_eq_zero (l : List Byte) : ofLeBytes l = 0 ↔ ∀ b ∈ l, b = 0#8 := by
  induction l with
  | nil => exact ⟨fun _ b mem => absurd mem List.not_mem_nil, fun _ => rfl⟩
  | cons b rest ih =>
    rw [ofLeBytes, List.forall_mem_cons, ← ih]
    have zero : b.toNat = 0 ↔ b = 0#8 := ⟨fun h => BitVec.eq_of_toNat_eq h, fun h => by rw [h]; rfl⟩
    rw [← zero]
    omega

theorem imageZero_iff (image : List Byte) (offset n : Nat) : imageZero image offset n = true ↔ imageField image offset n = 0 := by
  unfold imageZero imageField
  rw [ofLeBytes_eq_zero, List.all_eq_true]
  simp only [beq_iff_eq]

theorem imageZero_add (image : List Byte) (offset n m : Nat) :
    imageZero image offset (n + m) = (imageZero image offset n && imageZero image (offset + n) m) := by
  unfold imageZero
  rw [List.take_add, List.all_append, List.drop_drop]

/-- The bytes of consecutive tiers are zero when each tier's are. -/
theorem imageZero_tiers (image : List Byte) (offset m : Nat) :
    imageZero image offset (4 * m) = true ↔ ∀ k, k < m → imageField image (offset + 4 * k) 4 = 0 := by
  induction m with
  | zero => exact ⟨fun _ k lt => absurd lt (Nat.not_lt_zero k), fun _ => by simp [imageZero]⟩
  | succ m ih =>
    rw [Nat.mul_succ, imageZero_add, Bool.and_eq_true, ih, imageZero_iff]
    constructor
    · rintro ⟨low, top⟩ k lt
      rcases Nat.lt_succ_iff_lt_or_eq.mp lt with lt | rfl
      · exact low k lt
      · exact top
    · exact fun all => ⟨fun k lt => all k (Nat.lt_succ_of_lt lt), all m (Nat.lt_succ_self m)⟩

/-- R48: the tiers that are not used, from the count on. -/
theorem imageZero_unused (image : List Byte) (offset count : Nat) (few : count ≤ 4) :
    imageZero image (offset + 4 * count) (16 - 4 * count) = true ↔ ∀ k, count ≤ k → k < 4 → imageField image (offset + 4 * k) 4 = 0 := by
  rw [show 16 - 4 * count = 4 * (4 - count) by omega, imageZero_tiers]
  constructor
  · intro all k from' lt
    have at' := all (k - count) (by omega)
    rwa [show offset + 4 * count + 4 * (k - count) = offset + 4 * k by omega] at at'
  · intro all k lt
    have at' := all (count + k) (by omega) (by omega)
    rwa [show offset + 4 * (count + k) = offset + 4 * count + 4 * k by omega] at at'

/-- Neighbours in a list that is read off a range. -/
theorem all_neighbours {α : Type} (f : Nat → α) (test : α × α → Bool) (n : Nat) :
    (((List.range n).map f).zip ((List.range n).map f).tail).all test = true ↔ ∀ k, k + 1 < n → test (f k, f (k + 1)) = true := by
  rw [List.all_eq_true]
  constructor
  · intro all k lt
    refine all _ (List.mem_iff_getElem?.mpr ⟨k, ?_⟩)
    simp [List.getElem?_zip_eq_some, List.getElem?_tail, Nat.lt_of_succ_lt lt, lt]
  · intro all x mem
    obtain ⟨k, here⟩ := List.mem_iff_getElem?.mp mem
    simp only [List.getElem?_zip_eq_some, List.getElem?_tail, List.getElem?_map, Option.map_eq_some_iff] at here
    obtain ⟨⟨i, first, low⟩, ⟨j, second, high⟩⟩ := here
    obtain ⟨_, isK⟩ := List.getElem?_eq_some_iff.mp first
    obtain ⟨lt, isNext⟩ := List.getElem?_eq_some_iff.mp second
    rw [List.getElem_range] at isK isNext
    have holds := all k (by rwa [List.length_range] at lt)
    rwa [isNext, isK, low, high] at holds

/-- The checks of a size entry (R48), by its index. -/
def sizeChecks (N : Nat → Nat → Nat) (e : Nat) : List (Prop × Violation) :=
  [(N (24 * e) 1 ≤ 1, .badFlag), (N (24 * e + 1) 1 ≤ 4, .badCount),
   (N (24 * e) 1 = 0 → N (24 * e + 1) 1 = 0 ∧ N (24 * e + 4) 2 = 0 ∧ N (24 * e + 8) 16 = 0, .unusedNotZero),
   (N (24 * e) 1 ≠ 0 → ∀ k, k < N (24 * e + 1) 1 → 2 ≤ N (24 * e + 8 + 4 * k) 2 ∧ N (24 * e + 8 + 4 * k) 2 ≤ 2376, .thresholdRange),
   (N (24 * e) 1 ≠ 0 → ∀ k, k + 1 < N (24 * e + 1) 1 → N (24 * e + 8 + 4 * k) 2 < N (24 * e + 8 + 4 * (k + 1)) 2, .thresholdOrder),
   (N (24 * e) 1 ≠ 0 → ∀ k, N (24 * e + 1) 1 ≤ k → k < 4 → N (24 * e + 8 + 4 * k) 4 = 0, .unusedNotZero),
   (N (24 * e + 2) 2 = 0 ∧ N (24 * e + 6) 2 = 0, .reservedNotZero)]

/-- The checks of the common entry (R48). -/
def commonChecks (N : Nat → Nat → Nat) : List (Prop × Violation) :=
  [(N 0x60 2 ≤ 9999, .valueRange), (N 0x62 2 ≤ 5000, .valueRange), (N 0x64 2 ≤ 999, .valueRange),
   (N 0x66 10 = 0 ∧ N 0xF0 16 = 0, .reservedNotZero)]

/-- The checks of a promotion entry (R48), by its index. -/
def promotionChecks (N : Nat → Nat → Nat) (k : Nat) : List (Prop × Violation) :=
  [(N (0x70 + 8 * k) 2 ≤ 10000, .valueRange), (N (0x70 + 8 * k + 4) 4 ≤ 9999999, .valueRange),
   (N (0x70 + 8 * k) 2 = 0 → N (0x70 + 8 * k + 4) 4 = 0, .unusedNotZero), (N (0x70 + 8 * k + 2) 2 = 0, .reservedNotZero)]

/-- What an entry's check says of a list of statements: the first that fails, in order. -/
def Checks (failure : Option Violation) (m : List (Prop × Violation)) : Prop := ∃ l, failure = firstFailure l ∧ Agrees l m

theorem unless_iff {q p : Prop} [Decidable q] {b : Bool} (same : b = true ↔ p) : (decide q || b) = true ↔ (¬q → p) := by
  rw [Bool.or_eq_true, decide_eq_true_iff, same, Decidable.or_iff_not_imp_left]

theorem checkSizeEntry_checks (image : List Byte) (e : Nat) : Checks (checkSizeEntry image e) (sizeChecks (imageField image) e) := by
  refine ⟨_, rfl, .cons decide_eq_true_iff fun _ => .cons decide_eq_true_iff fun few => ?_⟩
  have count : min (imageNumber image (24 * e + 1) 1) 4 = imageField image (24 * e + 1) 1 := Nat.min_eq_left few
  rw [count]
  refine .cons ((unless_iff ?_).trans (imp_congr_left Classical.not_not)) fun _ => .cons (unless_iff ?_) fun _ => .cons (unless_iff ?_) fun _ =>
    .cons (unless_iff (imageZero_unused image _ _ few)) fun _ => .cons ?_ fun _ => .nil
  · rw [Bool.and_eq_true, Bool.and_eq_true, imageZero_iff, decide_eq_true_iff, decide_eq_true_iff, and_assoc, and_left_comm]
    rfl
  · rw [List.all_eq_true]
    simp only [List.forall_mem_map, List.mem_range, Bool.and_eq_true, decide_eq_true_iff]
    rfl
  · refine (all_neighbours (imageTier image e) (fun p => p.1.threshold < p.2.threshold) _).trans ?_
    simp only [decide_eq_true_iff]
    rfl
  · rw [Bool.and_eq_true, imageZero_iff, imageZero_iff]

theorem checkCommon_checks (image : List Byte) : Checks (checkCommon image) (commonChecks (imageField image)) :=
  ⟨_, rfl, .cons decide_eq_true_iff fun _ => .cons decide_eq_true_iff fun _ => .cons decide_eq_true_iff fun _ =>
    .cons (by rw [Bool.and_eq_true, imageZero_iff, imageZero_iff]) fun _ => .nil⟩

theorem checkPromotion_checks (image : List Byte) (k : Nat) : Checks (checkPromotion image k) (promotionChecks (imageField image) k) := by
  refine ⟨_, rfl, .cons decide_eq_true_iff fun _ => .cons decide_eq_true_iff fun _ =>
    .cons ((unless_iff decide_eq_true_iff).trans (imp_congr_left Classical.not_not)) fun _ => .cons (imageZero_iff _ _ _) fun _ => .nil⟩

/-- The first entry of a range whose check fails. -/
theorem findSome_range (f : Nat → Option Violation) (n e : Nat) (v : Violation) :
    (List.range n).findSome? (fun k => (f k).map fun w => (k, w)) = some (e, v) ↔ e < n ∧ (∀ d, d < e → f d = none) ∧ f e = some v := by
  induction n with
  | zero => simp
  | succ n ih =>
    rw [List.range_succ, List.findSome?_append]
    by_cases clean : ∀ d, d < n → f d = none
    · have nothing : (List.range n).findSome? (fun k => (f k).map fun w => (k, w)) = none := by
        simpa only [List.findSome?_eq_none_iff, List.mem_range, Option.map_eq_none_iff] using clean
      rw [nothing, Option.none_or, List.findSome?_singleton]
      simp only [Option.map_eq_some_iff, Prod.mk.injEq]
      constructor
      · rintro ⟨w, here, rfl, rfl⟩
        exact ⟨Nat.lt_succ_self n, clean, here⟩
      · rintro ⟨lt, _, here⟩
        rcases Nat.lt_succ_iff_lt_or_eq.mp lt with lt | rfl
        · exact absurd (here.symm.trans (clean e lt)) (by simp)
        · exact ⟨v, here, rfl, rfl⟩
    · have something : (List.range n).findSome? (fun k => (f k).map fun w => (k, w)) ≠ none := by
        simpa only [ne_eq, List.findSome?_eq_none_iff, List.mem_range, Option.map_eq_none_iff] using clean
      obtain ⟨found, isFound⟩ := Option.ne_none_iff_exists'.mp something
      rw [isFound, Option.some_or, ← isFound, ih]
      refine and_congr_left fun ⟨before, _⟩ => ⟨Nat.lt_succ_of_lt, fun lt => ?_⟩
      rcases Nat.lt_succ_iff_lt_or_eq.mp lt with lt | rfl
      · exact lt
      · exact absurd before clean

theorem firstEntry {image : List Byte} {checks : Nat → List (Prop × Violation)} (each : ∀ e, e < 21 → Checks (checkEntry image e) (checks e)) :
    (imageFailure image = none ↔ ∀ e, e < 21 → ∀ x ∈ checks e, x.1)
      ∧ ∀ e v, imageFailure image = some (e, v) ↔ e < 21 ∧ (∀ d, d < e → ∀ x ∈ checks d, x.1)
          ∧ ∃ before bad after, checks e = before ++ (bad, v) :: after ∧ (∀ x ∈ before, x.1) ∧ ¬bad := by
  have none {e : Nat} (lt : e < 21) : checkEntry image e = none ↔ ∀ x ∈ checks e, x.1 := by
    obtain ⟨l, isL, agree⟩ := each e lt
    rw [isL, agree.firstFailure_none]
  have some {e : Nat} (lt : e < 21) (v : Violation) : checkEntry image e = some v ↔
      ∃ before bad after, checks e = before ++ (bad, v) :: after ∧ (∀ x ∈ before, x.1) ∧ ¬bad := by
    obtain ⟨l, isL, agree⟩ := each e lt
    rw [isL, agree.firstFailure_some]
  constructor
  · unfold imageFailure
    simp only [List.findSome?_eq_none_iff, List.mem_range, Option.map_eq_none_iff]
    exact forall₂_congr fun e lt => none lt
  · intro e v
    rw [imageFailure, findSome_range]
    refine and_congr_right fun lt => and_congr (forall₂_congr fun d before => none (Nat.lt_trans before lt)) (some lt v)

theorem entries_agree {image : List Byte} {checks : Nat → List (Prop × Violation)}
    (sizes : ∀ e, e < 4 → checks e = sizeChecks (imageField image) e) (common : checks 4 = commonChecks (imageField image))
    (promotions : ∀ k, k < 16 → checks (5 + k) = promotionChecks (imageField image) k) (e : Nat) (lt : e < 21) :
    Checks (checkEntry image e) (checks e) := by
  unfold checkEntry
  split
  · next low =>
    rw [sizes e low]
    exact checkSizeEntry_checks image e
  · split
    · next isCommon =>
      rw [isCommon, common]
      exact checkCommon_checks image
    · rw [show e = 5 + (e - 5) by omega, promotions (e - 5) (by omega), Nat.add_sub_cancel_left]
      exact checkPromotion_checks image (e - 5)

theorem look_ofFn {α : Type} {n : Nat} (f : Fin n → α) (k : Fin n) : look (Vector.ofFn f) k = f k :=
  Vector.getElem_ofFn k.isLt

theorem size_tableOfImage (image : List Byte) (tag clock : W32) (e : Fin 4) :
    look (tableOfImage image tag clock).sizes e =
      { offered := decide (imageField image (24 * e.val) 1 = 1), base := imageField image (24 * e.val + 4) 2,
        tiers := (List.range (imageField image (24 * e.val + 1) 1)).map fun k =>
          { threshold := imageField image (24 * e.val + 8 + 4 * k) 2, price := imageField image (24 * e.val + 10 + 4 * k) 2 } } := by
  have tier (k : Nat) : imageTier image e.val k =
      { threshold := imageField image (24 * e.val + 8 + 4 * k) 2, price := imageField image (24 * e.val + 10 + 4 * k) 2 } := by
    rw [show 24 * e.val + 10 + 4 * k = 24 * e.val + 8 + 4 * k + 2 by omega]
    rfl
  refine (look_ofFn _ e).trans ?_
  simp only [imageSize, funext tier]
  rfl

/-! ## O45 -/

/-- Settles O45: the image's transfer is alone with its requester, so its outcome is told at once; each check agrees with its statement
given those before it. -/
theorem goodImagesAreInstalledWhole : Obligations.GoodImagesAreInstalledWhole := by
  unfold Obligations.GoodImagesAreInstalledWhole
  refine ⟨?_, ?_, ?_⟩
  · intro s before after g l image run granted others runs own purpose direction length whole load taken alive
    have outcome : outcomeOf g.transfer (.good image) = some (.done image) := by
      simp [outcomeOf, direction, length, whole]
    have effect := transferReported_done (s := s.quiet) granted outcome runs (own.symm ▸ others)
    have told (v : State) : tellOne g.transfer (.done image) v = imageArrived image v := by
      simp only [tellOne, own, purpose]
    rw [told] at effect
    have keeps := imageArrived_keeps (s := s.quiet.ungranted (before ++ after)) (image := image) load taken
    refine ⟨_, thenSettles_transferEnd run effect, keeps.1, ?_⟩
    obtain ⟨_, done, otherSlots, rest⟩ := keeps
    refine ⟨(congrArg (fun u : State => u.port.granted) rest :), done, fun m other => otherSlots m other,
      (congrArg State.orders rest :), (congrArg State.terminal rest :), (congrArg State.bays rest :), (congrArg State.printers rest :),
      (congrArg State.apertures rest :),
      imageArrived_good (s := s.quiet.ungranted (before ++ after)) load alive taken,
      fun entry violation => imageArrived_bad (s := s.quiet.ungranted (before ++ after)) load alive taken,
      imageArrived_cancelled (s := s.quiet.ungranted (before ++ after)) load alive taken⟩
  · intro image N checks _ isN sizes common promotions
    subst isN
    exact firstEntry (entries_agree sizes common promotions)
  · intro image tag clock t isTable
    subst isTable
    refine ⟨?_, rfl, rfl, rfl, ?_, rfl, rfl⟩
    · intro z
      cases z <;> exact size_tableOfImage image tag clock _
    · intro k
      exact look_ofFn _ k

end Sys2Proof.Machine
end

section
/-! SUPPORT. The card bays' operations: what each leaves alone, and what each does (R110 to R119): the halves and their writes, how a read
advances, completes and winds down. -/

namespace Sys2Proof.Machine

/-! ## What the work of a bay leaves alone -/

/-- State without the bay, its line of transfers, the slots and what is sent. -/
def State.offBay (b : BayId) (s : State) : State :=
  { s with slots := State.reset.slots, attnDone := false, attnProgress := false, bays := upd s.bays b fun _ => Bay.resetWith 0,
           port := { s.port with lines := upd s.port.lines (requesterIndex (.bay b)) fun _ => [] }, out := [] }

/-- The work of bay b leads from `s` to `t`: everything else stays, a slot that is not TAKEN too. -/
structure BayWork (b : BayId) (s t : State) : Prop where
  rest : t.offBay b = s.offBay b
  settled : ∀ m, (s.slot m).state ≠ .taken → t.slot m = s.slot m

theorem settled_ne {s : State} {n m : SlotId} (taken : (s.slot n).state = .taken) (ended : (s.slot m).state ≠ .taken) : n ≠ m := by
  rintro rfl
  exact ended taken

namespace BayWork

variable {b : BayId} {s t u : State}

theorem refl : BayWork b s s := ⟨rfl, fun _ _ => rfl⟩

theorem trans (first : BayWork b s t) (second : BayWork b t u) : BayWork b s u :=
  ⟨second.rest.trans first.rest, fun m ended => (second.settled m (by rwa [first.settled m ended])).trans (first.settled m ended)⟩

theorem ite {c : Prop} [Decidable c] (yes : BayWork b s t) (no : BayWork b s u) : BayWork b s (if c then t else u) := by
  split
  · exact yes
  · exact no

theorem onBay (f : Bay → Bay) : BayWork b s (s.onBay b f) :=
  ⟨by simp only [State.offBay, State.onBay, upd_upd], fun _ _ => rfl⟩

theorem emit (o : Out) : BayWork b s (s.emit o) := ⟨rfl, fun _ _ => rfl⟩

theorem present {x : Transfer} (own : x.requester = .bay b) : BayWork b s (s.present x) :=
  ⟨by simp only [State.offBay, State.present, State.onPort, own, upd_upd], fun _ _ => rfl⟩

theorem withdraw : BayWork b s (s.withdraw (.bay b)) :=
  ⟨by simp only [State.offBay, State.withdraw, State.onPort, upd_upd], fun _ _ => rfl⟩

theorem complete (n : SlotId) (st : Status) (why : Reason) (body : Body) : BayWork b s (complete n st why body s) := by
  by_cases taken : (s.slot n).state = .taken
  · refine ⟨by rw [complete_of_taken _ _ _ _ _ taken]; rfl, fun m ended => ?_⟩
    rw [complete_of_taken _ _ _ _ _ taken]
    exact slot_onSlot_ne s (settled_ne taken ended) _
  · rw [complete_of_not_taken _ _ _ _ _ taken]
    exact refl

theorem writeBody (n : SlotId) (body : Body) : BayWork b s (writeBody n body s) := by
  unfold Machine.writeBody
  split
  · next taken => exact ⟨rfl, fun m ended => slot_onSlot_ne s (settled_ne taken ended) _⟩
  · exact refl

theorem advanceProgress (n : SlotId) : BayWork b s (advanceProgress n s) := by
  unfold Machine.advanceProgress
  split
  · next taken => exact ⟨rfl, fun m ended => slot_onSlot_ne s (settled_ne taken ended) _⟩
  · exact refl

theorem syncRead : BayWork b s (syncRead b s) := by
  unfold Machine.syncRead
  split
  · exact writeBody _ _
  · exact refl

theorem recordRead (n : SlotId) (st : Status) : BayWork b s (recordRead b n st s) := onBay _

theorem activateNext : BayWork b s (activateNext b s) := by
  unfold Machine.activateNext
  split
  · exact refl
  · exact ((onBay _).trans (emit _)).trans syncRead

theorem queueMovesOn : BayWork b s (queueMovesOn b s) := by
  unfold Machine.queueMovesOn
  split
  · exact (onBay _).trans activateNext
  · exact (onBay _).trans activateNext
  · exact refl

theorem finishRead (r : Read) (st : Status) : BayWork b s (finishRead b r st s) :=
  (((onBay _).trans (complete _ _ _ _)).trans (recordRead _ _)).trans queueMovesOn

theorem finishEnded : BayWork b s (finishEnded b s) := by
  unfold Machine.finishEnded
  split
  · split
    · exact ite (finishRead _ _) refl
    · exact refl
  · exact refl

theorem requestWrite : BayWork b s (requestWrite b s) := by
  unfold Machine.requestWrite
  split
  · exact refl
  · exact ite (ite (onBay _) (present rfl)) refl

theorem restartRun : BayWork b s (restartRun b s) := by
  unfold Machine.restartRun
  split
  · exact ite ((onBay _).trans (emit _)) refl
  · exact refl

theorem bayAdvance : BayWork b s (bayAdvance b s) := by
  unfold Machine.bayAdvance
  split
  · exact refl
  · exact ite (requestWrite.trans finishEnded) (ite (finishRead _ _) (((onBay _).trans restartRun).trans requestWrite))

theorem windDown (cause : EndCause) : BayWork b s (windDown b cause s) := by
  unfold Machine.windDown
  split
  · exact refl
  · have halted : BayWork b s (if ((s.bay b).run = .running ∨ (s.bay b).run = .clockStopped) ∧ (s.bay b).card.isSome = true
        then s.emit (.halt b) else s) := ite (emit _) refl
    exact ((halted.trans (onBay _)).trans (ite refl withdraw)).trans bayAdvance

theorem endAtBoundary (cause : EndCause) : BayWork b s (endAtBoundary b cause s) := by
  unfold Machine.endAtBoundary
  split
  · exact refl
  · exact ite refl (ite (onBay _) (windDown _))

theorem endAtOnce (cause : EndCause) : BayWork b s (endAtOnce b cause s) := by
  unfold Machine.endAtOnce
  split
  · exact refl
  · exact ite refl (windDown _)

theorem endWaitingRead (cause : EndCause) (r : Read) : BayWork b s (endWaitingRead b cause r s) :=
  ((onBay _).trans (complete _ _ _ _)).trans (recordRead _ _)

theorem all {α : Type} {f : α → State → State} (each : ∀ a s, BayWork b s (f a s)) (l : List α) (s : State) :
    BayWork b s (forEach l f s) := by
  induction l generalizing s with
  | nil => exact refl
  | cons a rest ih => exact (each a s).trans (ih (f a s))

theorem endWaitingReads (cause : EndCause) : BayWork b s (endWaitingReads b cause s) := all (fun r _ => endWaitingRead cause r) _ s

section Frame
variable (work : BayWork b s t)
include work

theorem bay_ne {c : BayId} (other : c ≠ b) : t.bay c = s.bay c := by
  have bays := congrArg (fun u : State => u.bay c) work.rest
  exact (look_upd_ne t.bays (Ne.symm other) _).symm.trans (bays.trans (look_upd_ne s.bays (Ne.symm other) _))

theorem orders : t.orders = s.orders := (congrArg State.orders work.rest :)
theorem sessions : t.sessions = s.sessions := (congrArg State.sessions work.rest :)
theorem stations : t.stations = s.stations := (congrArg State.stations work.rest :)
theorem terminal : t.terminal = s.terminal := (congrArg State.terminal work.rest :)
theorem price : t.price = s.price := (congrArg State.price work.rest :)
theorem stock : t.stock = s.stock := (congrArg State.stock work.rest :)
theorem printers : t.printers = s.printers := (congrArg State.printers work.rest :)
theorem apertures : t.apertures = s.apertures := (congrArg State.apertures work.rest :)
theorem clock : t.clock = s.clock := (congrArg State.clock work.rest :)
theorem timers : t.timers = s.timers := (congrArg State.timers work.rest :)
theorem intake : t.intake = s.intake := (congrArg State.intake work.rest :)
theorem granted : t.port.granted = s.port.granted := (congrArg (fun u : State => u.port.granted) work.rest :)

end Frame

end BayWork

theorem onBay_congr (s : State) (b : BayId) {f g : Bay → Bay} (same : f (s.bay b) = g (s.bay b)) : s.onBay b f = s.onBay b g :=
  congrArg (fun v => { s with bays := v }) (upd_congr s.bays b f g same)

theorem onBay_self (s : State) (b : BayId) {f : Bay → Bay} (same : f (s.bay b) = s.bay b) : s.onBay b f = s :=
  congrArg (fun v => { s with bays := v }) (upd_self same)

theorem onBay_onBay (s : State) (b : BayId) (f g : Bay → Bay) : (s.onBay b f).onBay b g = s.onBay b fun y => g (f y) :=
  congrArg (fun v => { s with bays := v }) (upd_upd s.bays b f g)

/-! ## A read's completion (R112, R118, R119) -/

/-- The bay once its active read has completed. -/
def Bay.cleared (n : SlotId) (st : Status) (clock : W32) (y : Bay) : Bay :=
  { y with active := none, half0 := Half.reset, half1 := Half.reset, run := .idle, block := .stopped, giveBackWait := false,
           waitLength := 0, waitLimit := false, last := some { slot := n, status := st, clock := clock },
           counts := if st = .ok then { y.counts with readsOk := bump y.counts.readsOk }
                     else { y.counts with readsOther := bump y.counts.readsOther } }

/-- The bay once a waiting read has become active, with those that wait after it. -/
def Bay.activated (r : Read) (rest : List Read) (y : Bay) : Bay :=
  { y with state := .reading,
           active := some { r with accepted := 0, delivered := 0, filled := 0, givenBack := 0, waited := 0, failures := 0 },
           waiting := rest, half0 := Half.reset, half1 := Half.reset, run := .running, block := .running Config.blockMs,
           giveBackWait := false, waitLength := 0, waitLimit := false }

/-- The bay once its queue has moved on, which it does at a bay whose card is there. -/
def Bay.next (y : Bay) : Bay :=
  if y.state = .ready ∨ y.state = .reading then
    match y.waiting with
    | [] => { y with state := .ready }
    | r :: rest => y.activated r rest
  else y

/-- What the queue's moving on sends: READ_RUN for the read that starts. -/
def Bay.nextSends (b : BayId) (y : Bay) : List Out :=
  if y.state = .ready ∨ y.state = .reading then (y.waiting.head?.map fun r => Out.readRun b r.first).toList else []

theorem complete_bays (n : SlotId) (st : Status) (why : Reason) (body : Body) (s : State) : (complete n st why body s).bays = s.bays :=
  (congrArg State.bays (complete_rest n st why body s) :)

theorem writeBody_bays (n : SlotId) (body : Body) (s : State) : (writeBody n body s).bays = s.bays :=
  (congrArg State.bays (writeBody_rest n body s) :)

/-- The result's figures reach the slot alone. -/
theorem syncRead_rest (b : BayId) (s : State) : { syncRead b s with slots := s.slots } = s := by
  unfold syncRead
  split
  · exact writeBody_rest _ _ s
  · rfl

theorem bay_syncRead (b c : BayId) (s : State) : (syncRead b s).bay c = s.bay c :=
  (congrArg (fun u : State => u.bay c) (syncRead_rest b s) :)

section Activate
variable {b : BayId} {s : State}

theorem activateNext_cons {r : Read} {rest : List Read} (waits : (s.bay b).waiting = r :: rest) :
    activateNext b s = syncRead b ((s.onBay b (Bay.activated r rest)).emit (.readRun b r.first)) := by
  simp only [activateNext, waits]
  rfl

theorem Bay.next_nil {y : Bay} (ready : y.state = .ready ∨ y.state = .reading) (waits : y.waiting = []) :
    y.next = { y with state := .ready } := by
  simp only [Bay.next, if_pos ready, waits]

theorem Bay.next_cons {y : Bay} {r : Read} {rest : List Read} (ready : y.state = .ready ∨ y.state = .reading)
    (waits : y.waiting = r :: rest) : y.next = y.activated r rest := by
  simp only [Bay.next, if_pos ready, waits]

theorem Bay.next_off {y : Bay} (off : ¬(y.state = .ready ∨ y.state = .reading)) : y.next = y := if_neg off

theorem queueMovesOn_ready (ready : (s.bay b).state = .ready ∨ (s.bay b).state = .reading) :
    queueMovesOn b s = activateNext b (s.onBay b fun y => { y with state := .ready }) := by
  unfold queueMovesOn
  rcases ready with state | state <;> simp only [state]

theorem queueMovesOn_off (off : ¬((s.bay b).state = .ready ∨ (s.bay b).state = .reading)) : queueMovesOn b s = s := by
  unfold queueMovesOn
  split
  · next state => exact absurd (Or.inl state) off
  · next state => exact absurd (Or.inr state) off
  · rfl

/-- The queue's moving on: the bay, the port and what is sent. -/
theorem queueMovesOn_eq : (queueMovesOn b s).bay b = (s.bay b).next ∧ (queueMovesOn b s).out = s.out ++ (s.bay b).nextSends b
    ∧ (queueMovesOn b s).port = s.port := by
  by_cases ready : (s.bay b).state = .ready ∨ (s.bay b).state = .reading
  · rw [queueMovesOn_ready ready, Bay.nextSends, if_pos ready]
    have here := bay_onBay_same s b fun y => { y with state := .ready }
    cases waits : (s.bay b).waiting with
    | nil =>
      have still : ((s.onBay b fun y => { y with state := .ready }).bay b).waiting = [] := by rw [here]; exact waits
      rw [Bay.next_nil ready waits]
      simp only [activateNext, still]
      exact ⟨here, (List.append_nil _).symm, rfl⟩
    | cons r rest =>
      have still : ((s.onBay b fun y => { y with state := .ready }).bay b).waiting = r :: rest := by rw [here]; exact waits
      rw [activateNext_cons still, Bay.next_cons ready waits]
      refine ⟨?_, (congrArg State.out (syncRead_rest b _) :), (congrArg State.port (syncRead_rest b _) :)⟩
      rw [bay_syncRead]
      exact (bay_onBay_same _ _ (Bay.activated r rest)).trans ((congrArg (Bay.activated r rest) here).trans rfl)
  · rw [queueMovesOn_off ready, Bay.next_off ready, Bay.nextSends, if_neg ready]
    exact ⟨rfl, (List.append_nil _).symm, rfl⟩

end Activate

section Finish
variable {b : BayId} {r : Read} {st : Status} {s : State}

/-- State once the active read's slot has completed, before the queue moves on. -/
def readCompleted (b : BayId) (r : Read) (st : Status) (s : State) : State :=
  recordRead b r.slot st (complete r.slot st .none (.read (finalReadResult r)) (s.onBay b fun y =>
    { y with active := none, half0 := Half.reset, half1 := Half.reset, run := .idle, block := .stopped, giveBackWait := false,
             waitLength := 0, waitLimit := false }))

theorem recordRead_slot (n m : SlotId) (v : State) : (recordRead b n st v).slot m = v.slot m := rfl

theorem slot_complete_taken {v : State} {n : SlotId} {why : Reason} {body : Body} (taken : (v.slot n).state = .taken) :
    (complete n st why body v).slot n =
      { v.slot n with state := .done, status := st, reason := why, completedAt := v.clock, body := body } := by
  rw [complete_of_taken n st why body v taken]
  exact slot_onSlot_same v n _

theorem finishRead_eq : finishRead b r st s = queueMovesOn b (readCompleted b r st s) := rfl

theorem readCompleted_bay : (readCompleted b r st s).bay b = (s.bay b).cleared r.slot st s.clock := by
  unfold readCompleted recordRead
  refine (bay_onBay_same _ _ _).trans ?_
  have clock {v : State} {n : SlotId} {why : Reason} {body : Body} : (complete n st why body v).clock = v.clock :=
    (congrArg State.clock (complete_rest n st why body v) :)
  have bay {v : State} {n : SlotId} {why : Reason} {body : Body} : (complete n st why body v).bay b = v.bay b :=
    congrArg (fun t => look t b) (complete_bays n st why body v)
  rw [bay, bay_onBay_same, clock]
  rfl

theorem readCompleted_rest : (readCompleted b r st s).out = s.out ∧ (readCompleted b r st s).port = s.port := by
  have rest := complete_rest r.slot st .none (.read (finalReadResult r)) (s.onBay b fun y =>
    { y with active := none, half0 := Half.reset, half1 := Half.reset, run := .idle, block := .stopped, giveBackWait := false,
             waitLength := 0, waitLimit := false })
  exact ⟨(congrArg State.out rest :), (congrArg State.port rest :)⟩

theorem finishRead_bay : (finishRead b r st s).bay b = ((s.bay b).cleared r.slot st s.clock).next := by
  rw [finishRead_eq, queueMovesOn_eq.1, readCompleted_bay]

theorem finishRead_out : (finishRead b r st s).out = s.out ++ (s.bay b).nextSends b := by
  rw [finishRead_eq, queueMovesOn_eq.2.1, readCompleted_bay, readCompleted_rest.1]
  rfl

theorem finishRead_port : (finishRead b r st s).port = s.port := by
  rw [finishRead_eq, queueMovesOn_eq.2.2, readCompleted_rest.2]

/-- R118, R119: the slot of the read that completes. -/
theorem finishRead_slot (taken : (s.slot r.slot).state = .taken) : (finishRead b r st s).slot r.slot =
    { s.slot r.slot with state := .done, status := st, reason := .none, completedAt := s.clock, body := .read (finalReadResult r) } := by
  have done : (readCompleted b r st s).slot r.slot =
      { s.slot r.slot with state := .done, status := st, reason := .none, completedAt := s.clock, body := .read (finalReadResult r) } := by
    rw [readCompleted, recordRead_slot]
    exact slot_complete_taken taken
  rw [finishRead_eq, BayWork.queueMovesOn.settled r.slot (by rw [done]; nofun), done]

end Finish

/-! ## A read that winds down (R119) -/

section Halves
variable {cause : EndCause} {r : Read} {h : Fin 2} {v : Half}

theorem endHalf_writing (state : v.state = .writing) : endHalf cause r h v = v := by simp only [endHalf, state]

theorem endHalf_open (state : v.state = .empty ∨ v.state = .filling) : endHalf cause r h v = Half.reset := by
  rcases state with state | state <;> simp only [endHalf, state]

theorem endHalf_full (state : v.state = .full) : endHalf cause r h v = if keepsHalf cause r h then v else Half.reset := by
  simp only [endHalf, state]

/-- R119: every cause but READ_FAULT and CARD_GONE drops what is not being written. -/
theorem endHalf_drops (noFault : cause ≠ .readFault) (cardThere : cause ≠ .cardGone) :
    endHalf cause r h v = if v.state = .writing then v else Half.reset := by
  have drops : keepsHalf cause r h = false := by cases cause <;> first | rfl | contradiction
  cases state : v.state with
  | empty => rw [endHalf_open (.inl state), if_neg (by decide)]
  | filling => rw [endHalf_open (.inr state), if_neg (by decide)]
  | full => rw [endHalf_full state, drops, if_neg (by decide), if_neg (by decide)]
  | writing => rw [endHalf_writing state, if_pos rfl]

end Halves

/-- The bay of a read that winds down: R119's steps 2 and 3. -/
def Bay.wound (cause : EndCause) (r : Read) (y : Bay) : Bay :=
  { y with active := some { r with ended := some cause, mark := none }, run := .idle, block := .stopped, giveBackWait := false,
           waitLength := 0, waitLimit := false, half0 := endHalf cause r 0 y.half0, half1 := endHalf cause r 1 y.half1 }

/-- State of a read that winds down, before the bay goes on: a HALT to a card still there whose run goes on, and a write of its FULL half
that is not granted withdrawn if the half is dropped. -/
def wound (b : BayId) (cause : EndCause) (r : Read) (s : State) : State :=
  { s.onBay b (Bay.wound cause r) with
    out := if ((s.bay b).run = .running ∨ (s.bay b).run = .clockStopped) ∧ (s.bay b).card.isSome = true then s.out ++ [.halt b] else s.out,
    port := if (((s.bay b).wound cause r).half (writeHalf r)).state = .full then s.port
      else { s.port with lines := upd s.port.lines (requesterIndex (.bay b)) fun _ => [] } }

theorem wound_bay (b : BayId) (cause : EndCause) (r : Read) (s : State) : (wound b cause r s).bay b = (s.bay b).wound cause r :=
  bay_onBay_same s b _

theorem windDown_eq {b : BayId} {cause : EndCause} {r : Read} {s : State} (active : (s.bay b).active = some r) :
    windDown b cause s = bayAdvance b (wound b cause r s) := by
  have half (v : State) (same : v.bay b = s.bay b) :
      ((v.onBay b (Bay.wound cause r)).bay b).half (writeHalf r) = ((s.bay b).wound cause r).half (writeHalf r) := by
    rw [bay_onBay_same, same]
  simp only [windDown, active]
  unfold wound
  by_cases runs : ((s.bay b).run = .running ∨ (s.bay b).run = .clockStopped) ∧ (s.bay b).card.isSome = true
  · rw [if_pos runs, if_pos runs]
    refine congrArg (bayAdvance b) ((ite_congr (congrArg (·.state = .full) (half (s.emit (.halt b)) rfl)) (fun _ => rfl) fun _ => rfl).trans ?_)
    split <;> rfl
  · rw [if_neg runs, if_neg runs]
    refine congrArg (bayAdvance b) ((ite_congr (congrArg (·.state = .full) (half s rfl)) (fun _ => rfl) fun _ => rfl).trans ?_)
    split <;> rfl

/-! ## The writes of the halves (R110, R114, R116) -/

theorem bothEmpty_iff (y : Bay) : bothEmpty y = true ↔ y.half0.state = .empty ∧ y.half1.state = .empty := by
  simp only [bothEmpty, Bool.and_eq_true, beq_iff_eq]

theorem canTake_iff (v : Half) : canTake v = true ↔ v.state = .empty ∨ v.state = .filling := by
  simp only [canTake, Bool.or_eq_true, beq_iff_eq]

section Writes
variable {b : BayId} {s : State} {r : Read} (active : (s.bay b).active = some r)
include active

theorem requestWrite_notFull (empty : ((s.bay b).half (writeHalf r)).state ≠ .full) : requestWrite b s = s := by
  simp only [requestWrite, active]
  exact if_neg fun all => empty all.1

theorem requestWrite_presents (full : ((s.bay b).half (writeHalf r)).state = .full) (free : s.hasTransfer (.bay b) = false)
    (live : areasLive r = true) (goes : r.ended = none → mustWait r r.delivered = false) :
    requestWrite b s = s.present (halfTransfer b r ((s.bay b).half (writeHalf r))) := by
  simp only [requestWrite, active]
  exact (if_pos ⟨full, free, live⟩).trans (if_neg fun waits => by simp [goes waits.1] at waits)

theorem requestWrite_waits (full : ((s.bay b).half (writeHalf r)).state = .full) (free : s.hasTransfer (.bay b) = false)
    (live : areasLive r = true) (goesOn : r.ended = none) (waits : mustWait r r.delivered = true) :
    requestWrite b s = startWait b s := by
  simp only [requestWrite, active]
  exact (if_pos ⟨full, free, live⟩).trans (if_pos ⟨goesOn, waits⟩)

/-- A bay asks for a write, begins a wait or does nothing. -/
theorem requestWrite_cases : requestWrite b s = s ∨ (r.ended = none ∧ requestWrite b s = startWait b s)
    ∨ ∃ x, requestWrite b s = s.present x := by
  simp only [requestWrite, active]
  split
  · split
    · next waits => exact .inr (.inl ⟨waits.1, rfl⟩)
    · exact .inr (.inr ⟨_, rfl⟩)
  · exact .inl rfl

/-- What asking for a write leaves of the bay: all but the wait. -/
theorem requestWrite_keeps : ((requestWrite b s).bay b).active = some r ∧ ((requestWrite b s).bay b).half0 = (s.bay b).half0
    ∧ ((requestWrite b s).bay b).half1 = (s.bay b).half1 ∧ ((requestWrite b s).bay b).run = (s.bay b).run
    ∧ ((requestWrite b s).bay b).block = (s.bay b).block ∧ (requestWrite b s).out = s.out := by
  rcases requestWrite_cases active with same | ⟨_, same⟩ | ⟨x, same⟩
  · rw [same]
    exact ⟨active, rfl, rfl, rfl, rfl, rfl⟩
  · rw [same, startWait, bay_onBay_same]
    split
    · exact ⟨active, rfl, rfl, rfl, rfl, rfl⟩
    · exact ⟨active, rfl, rfl, rfl, rfl, rfl⟩
  · rw [same]
    exact ⟨active, rfl, rfl, rfl, rfl, rfl⟩

/-- A read that ends never waits for the host: asking for a write leaves the bay and the slots. -/
theorem requestWrite_ended (ends : r.ended ≠ none) : (requestWrite b s).slots = s.slots ∧ (requestWrite b s).bays = s.bays
    ∧ (requestWrite b s).out = s.out := by
  rcases requestWrite_cases active with same | ⟨goesOn, _⟩ | ⟨x, same⟩
  · rw [same]
    exact ⟨rfl, rfl, rfl⟩
  · exact absurd goesOn ends
  · rw [same]
    exact ⟨rfl, rfl, rfl⟩

/-! ## How the bay goes on -/

theorem bayAdvance_completes {cause : EndCause} (ends : r.ended = some cause) (empty0 : (s.bay b).half0.state = .empty)
    (empty1 : (s.bay b).half1.state = .empty) : bayAdvance b s = finishRead b (countPartial r) (endStatus cause) s := by
  have nothing : requestWrite b s = s := by
    refine requestWrite_notFull active ?_
    unfold Bay.half
    split
    · rw [empty0]; decide
    · rw [empty1]; decide
  have both : bothEmpty (s.bay b) = true := (bothEmpty_iff _).mpr ⟨empty0, empty1⟩
  simp only [bayAdvance, active, ends, Option.isSome_some, if_true, nothing, finishEnded, both]

theorem bayAdvance_lingers (ends : r.ended ≠ none) (left : (s.bay b).half0.state ≠ .empty ∨ (s.bay b).half1.state ≠ .empty) :
    bayAdvance b s = requestWrite b s := by
  obtain ⟨_, bays, _⟩ := requestWrite_ended active ends
  have bay : (requestWrite b s).bay b = s.bay b := congrArg (fun v => look v b) bays
  have notBoth : bothEmpty (s.bay b) ≠ true := fun both => by
    obtain ⟨empty0, empty1⟩ := (bothEmpty_iff _).mp both
    exact left.elim (· empty0) (· empty1)
  obtain ⟨cause, isCause⟩ := Option.ne_none_iff_exists'.mp ends
  simp only [bayAdvance, active, isCause, Option.isSome_some, if_true, finishEnded, bay]
  exact if_neg notBoth

theorem bayAdvance_delivered (goesOn : r.ended = none) (all : r.delivered = r.count) : bayAdvance b s = finishRead b r .ok s := by
  simp only [bayAdvance, active, goesOn, Option.isSome_none, Bool.false_eq_true, if_false, all, if_true]

theorem bayAdvance_runs (goesOn : r.ended = none) (more : r.delivered ≠ r.count) :
    bayAdvance b s = requestWrite b (restartRun b (restartClock b s)) := by
  simp only [bayAdvance, active, goesOn, Option.isSome_none, Bool.false_eq_true, if_false, more]

/-! ## The card clock and a halted run (R110, R116) -/

theorem restartClock_restarts (stopped : (s.bay b).run = .clockStopped) (takes : canTake ((s.bay b).half (fillHalf r)) = true) :
    restartClock b s = s.onBay b fun y => { y with run := .running, block := y.block.resume } := by
  refine onBay_congr s b ?_
  simp only [active]
  exact if_pos ⟨stopped, takes⟩

theorem restartClock_runs (goes : (s.bay b).run ≠ .clockStopped) : restartClock b s = s := by
  refine onBay_self s b ?_
  simp only [active]
  exact if_neg fun all => goes all.1

theorem restartRun_restarts (halted : (s.bay b).run = .halted) (noWait : (s.bay b).giveBackWait = false) (room : someEmpty (s.bay b) = true) :
    restartRun b s = (s.onBay b fun y => { y with run := .running, block := .running Config.blockMs }).emit (.readRun b (r.first + r.accepted)) := by
  simp only [restartRun, active]
  exact if_pos ⟨halted, noWait, room⟩

theorem restartRun_runs (goes : (s.bay b).run ≠ .halted) : restartRun b s = s := by
  simp only [restartRun, active]
  exact if_neg fun all => goes all.1

end Writes

end Sys2Proof.Machine
end

section
/-! SUPPORT. The end of the write of a card half (R110, R113, R114) and what the bay then does (R116, R118, R119). -/

namespace Sys2Proof.Machine

/-! ## A half's write has ended (R110, R113, R114) -/

theorem half_setHalf (y : Bay) (h : Fin 2) (v : Half) : (y.setHalf h v).half h = v := by
  unfold Bay.setHalf Bay.half
  split <;> rfl

/-- The half that is not number `h`. -/
def Bay.otherHalf (y : Bay) (h : Fin 2) : Half := if h = 0 then y.half1 else y.half0

theorem otherHalf_setHalf (y : Bay) (h : Fin 2) (v : Half) : (y.setHalf h v).otherHalf h = y.otherHalf h := by
  unfold Bay.setHalf Bay.otherHalf
  split <;> rfl

theorem syncRead_taken {b : BayId} {s : State} {r : Read} (active : (s.bay b).active = some r) (taken : (s.slot r.slot).state = .taken) :
    syncRead b s = s.onSlot r.slot fun c => { c with body := .read (liveResult r) } := by
  simp only [syncRead, active, writeBody]
  exact if_pos taken

theorem advanceProgress_taken {n : SlotId} {s : State} (taken : (s.slot n).state = .taken) :
    advanceProgress n s = { (s.onSlot n fun c => { c with progress := c.progress + 1 }) with attnProgress := true } := if_pos taken

theorem advanceProgress_bays (n : SlotId) (s : State) : (advanceProgress n s).bays = s.bays := by
  unfold advanceProgress
  split <;> rfl

/-- The read once a half's write has ended. -/
def Read.counted (r : Read) (blocks : Nat) : Read :=
  { r with delivered := r.delivered + blocks, filled := buffersFilled r (r.delivered + blocks) }

/-- State once the blocks of a half count as delivered, before the bay goes on. -/
def halfCounted (b : BayId) (h : Fin 2) (blocks : Nat) (r : Read) (s : State) : State :=
  let t := syncRead b (s.onBay b fun y => { (y.setHalf h Half.reset) with active := some (r.counted blocks) })
  if advances r (r.delivered + blocks) then advanceProgress r.slot t else t

theorem halfWritten_eq {b : BayId} {h : Fin 2} {blocks : Nat} {r : Read} {s : State} (active : (s.bay b).active = some r) :
    halfWritten b h blocks s = bayAdvance b (halfCounted b h blocks r s) := by
  simp only [halfWritten, active]
  rfl

section Counted
variable {b : BayId} {h : Fin 2} {blocks : Nat} {r : Read} {s : State}

theorem halfCounted_bays : (halfCounted b h blocks r s).bay b =
    { ((s.bay b).setHalf h Half.reset) with active := some (r.counted blocks) } := by
  have here := (bay_syncRead b b _).trans
    (bay_onBay_same s b fun y => { (y.setHalf h Half.reset) with active := some (r.counted blocks) })
  unfold halfCounted
  split
  · exact (congrArg (fun v => look v b) (advanceProgress_bays _ _)).trans here
  · exact here

theorem halfCounted_granted : (halfCounted b h blocks r s).port.granted = s.port.granted := by
  have work : BayWork b s (halfCounted b h blocks r s) :=
    BayWork.ite (((BayWork.onBay _).trans .syncRead).trans (.advanceProgress _)) ((BayWork.onBay _).trans .syncRead)
  exact work.granted

variable (taken : (s.slot r.slot).state = .taken)
include taken

/-- The slot with the read's figures, before its progress counts. -/
theorem synced_slot : (syncRead b (s.onBay b fun y => { (y.setHalf h Half.reset) with active := some (r.counted blocks) })).slot r.slot =
    { s.slot r.slot with body := .read (liveResult (r.counted blocks)) } := by
  have active : ((s.onBay b fun y => { (y.setHalf h Half.reset) with active := some (r.counted blocks) }).bay b).active =
      some (r.counted blocks) := by rw [bay_onBay_same]
  rw [syncRead_taken active taken]
  exact slot_onSlot_same _ _ _

theorem halfCounted_body : ((halfCounted b h blocks r s).slot r.slot).body = .read (liveResult (r.counted blocks)) := by
  have synced := synced_slot (b := b) (h := h) (blocks := blocks) taken
  unfold halfCounted
  split
  · rw [advanceProgress_taken (by rw [synced]; exact taken)]
    refine (congrArg Slot.body (slot_onSlot_same _ _ _)).trans ?_
    rw [synced]
  · rw [synced]

theorem halfCounted_progress (counts : advances r (r.delivered + blocks) = true) :
    ((halfCounted b h blocks r s).slot r.slot).progress = (s.slot r.slot).progress + 1 ∧ (halfCounted b h blocks r s).attnProgress = true := by
  have synced := synced_slot (b := b) (h := h) (blocks := blocks) taken
  unfold halfCounted
  rw [if_pos counts, advanceProgress_taken (by rw [synced]; exact taken)]
  refine ⟨(congrArg Slot.progress (slot_onSlot_same _ _ _)).trans ?_, rfl⟩
  rw [synced]

end Counted

theorem buffersFilled_alternate {r : Read} {delivered : Nat} (mode : r.mode = .alternate) :
    buffersFilled r delivered = r.filled + 1 ↔ delivered = r.count ∨ (r.filled + 1) * r.chunk ≤ delivered * 512 := by
  simp only [buffersFilled, mode]
  split
  · next fills => exact ⟨fun _ => fills, fun _ => rfl⟩
  · next fills => exact ⟨fun same => absurd same (Nat.ne_of_lt (Nat.lt_succ_self _)), fun f => absurd f fills⟩

/-! ## How the bay goes on after a write -/

theorem countPartial_eq (r : Read) :
    countPartial r = if r.mode = .alternate ∧ r.filled * r.chunk < r.delivered * 512 then { r with filled := r.filled + 1 } else r := rfl

theorem endStatus_of_mem {cause : EndCause} {st : Status}
    (mem : (cause, st) ∈ [(EndCause.cancelled, Status.cancelled), (.sessionEnded, .sessionEnded), (.cardGone, .cardGone),
      (.readFault, .readFault), (.stalled, .stalled), (.transferFault, .transferFault), (.unitDown, .unitDown)]) : endStatus cause = st := by
  revert st; cases cause <;> simp [endStatus]

theorem half_writeHalf (y : Bay) (r : Read) : y.half (writeHalf r) = if r.delivered / 8 % 2 = 0 then y.half0 else y.half1 := by
  unfold Bay.half writeHalf
  split <;> rfl

theorem half_fillHalf (y : Bay) (r : Read) : y.half (fillHalf r) = if r.accepted / 8 % 2 = 0 then y.half0 else y.half1 := by
  unfold Bay.half fillHalf
  split <;> rfl

theorem hasTransfer_none {s : State} {r : Requester} (empty : look s.port.lines (requesterIndex r) = [])
    (none : ∀ g ∈ s.port.granted, g.transfer.requester ≠ r) : s.hasTransfer r = false := by
  unfold State.hasTransfer
  rw [empty, List.isEmpty_nil, Bool.not_true, Bool.false_or, List.any_eq_false]
  exact fun g mem own => none g mem (beq_iff_eq.mp own)

/-- State once the card clock and a halted run have restarted where they can. -/
def restarted (b : BayId) (s : State) : State := restartRun b (restartClock b s)

section Restarts
variable {b : BayId} {s : State} {r : Read} (active : (s.bay b).active = some r)
include active

/-- A restart reaches the run, its limit and what is sent. -/
theorem restarted_rest : { restarted b s with bays := s.bays, out := s.out } = s
    ∧ { (restarted b s).bay b with run := (s.bay b).run, block := (s.bay b).block } = s.bay b := by
  have clock : { restartClock b s with bays := s.bays } = s
      ∧ { (restartClock b s).bay b with run := (s.bay b).run, block := (s.bay b).block } = s.bay b := by
    by_cases stopped : (s.bay b).run = .clockStopped ∧ canTake ((s.bay b).half (fillHalf r)) = true
    · rw [restartClock_restarts active stopped.1 stopped.2, bay_onBay_same]
      exact ⟨rfl, rfl⟩
    · have same : restartClock b s = s := by
        refine onBay_self s b ?_
        simp only [active]
        exact if_neg stopped
      rw [same]
      exact ⟨rfl, rfl⟩
  have still : ((restartClock b s).bay b).active = some r := (congrArg Bay.active clock.2 :).trans active
  unfold restarted
  by_cases halted : ((restartClock b s).bay b).run = .halted ∧ ((restartClock b s).bay b).giveBackWait = false
      ∧ someEmpty ((restartClock b s).bay b) = true
  · rw [restartRun_restarts still halted.1 halted.2.1 halted.2.2]
    refine ⟨clock.1, ?_⟩
    have here := bay_onBay_same (restartClock b s) b fun y => { y with run := .running, block := .running Config.blockMs }
    refine Eq.trans ?_ clock.2
    exact congrArg (fun y : Bay => { y with run := (s.bay b).run, block := (s.bay b).block }) here
  · have same : restartRun b (restartClock b s) = restartClock b s := by
      simp only [restartRun, still]
      exact if_neg halted
    rw [same]
    exact ⟨clock.1, clock.2⟩

theorem restarted_stopped (stopped : (s.bay b).run = .clockStopped) (takes : canTake ((s.bay b).half (fillHalf r)) = true) :
    restarted b s = s.onBay b fun y => { y with run := .running, block := y.block.resume } := by
  unfold restarted
  rw [restartClock_restarts active stopped takes, restartRun_runs (r := r)]
  · rw [bay_onBay_same]
    exact active
  · rw [bay_onBay_same]
    nofun

theorem restarted_halted (halted : (s.bay b).run = .halted) (noWait : (s.bay b).giveBackWait = false) (room : someEmpty (s.bay b) = true) :
    restarted b s = (s.onBay b fun y => { y with run := .running, block := .running Config.blockMs }).emit (.readRun b (r.first + r.accepted)) := by
  unfold restarted
  rw [restartClock_runs active (by rw [halted]; decide), restartRun_restarts active halted noWait room]

theorem restarted_runs (goes : (s.bay b).run = .running ∨ (s.bay b).run = .idle) : restarted b s = s := by
  unfold restarted
  rw [restartClock_runs active (by rcases goes with goes | goes <;> rw [goes] <;> decide),
    restartRun_runs active (by rcases goes with goes | goes <;> rw [goes] <;> decide)]

end Restarts

section Asks
variable {b : BayId} {u : State} {r : Read} (active : (u.bay b).active = some r)
  (full : ((u.bay b).half (writeHalf r)).state = .full) (line : look u.port.lines (requesterIndex (.bay b)) = [])
  (noneGranted : ∀ g ∈ u.port.granted, g.transfer.requester ≠ .bay b) (live : areasLive r = true) (goesOn : r.ended = none)
include active full line noneGranted live

theorem requestWrite_line (goes : mustWait r r.delivered = false) :
    look (requestWrite b u).port.lines (requesterIndex (.bay b)) = [halfTransfer b r ((u.bay b).half (writeHalf r))] := by
  rw [requestWrite_presents active full (hasTransfer_none line noneGranted) live fun _ => goes]
  refine (look_upd_same u.port.lines (requesterIndex (.bay b)) (· ++ [halfTransfer b r ((u.bay b).half (writeHalf r))])).trans ?_
  rw [line, List.nil_append]

include goesOn in
theorem requestWrite_begins_wait (waits : mustWait r r.delivered = true) (noWait : (u.bay b).giveBackWait = false) :
    (requestWrite b u).port = u.port ∧ ((requestWrite b u).bay b).giveBackWait = true
      ∧ ((requestWrite b u).bay b).latched.giveBackWait = true ∧ ((requestWrite b u).bay b).waitLength = 0
      ∧ ((requestWrite b u).bay b).waitLimit = true := by
  rw [requestWrite_waits active full (hasTransfer_none line noneGranted) live goesOn waits, startWait, bay_onBay_same]
  rw [if_neg (by rw [noWait]; decide)]
  exact ⟨rfl, rfl, rfl, rfl, rfl⟩

end Asks

theorem areasLive_iff (r : Read) : areasLive r = true ↔ r.liveA = true ∧ (r.mode = .single ∨ r.liveB = true) := by
  simp only [areasLive, Bool.and_eq_true, Bool.or_eq_true, beq_iff_eq]

theorem halfTransfer_single {b : BayId} {r : Read} {v : Half} (mode : r.mode = .single) : halfTransfer b r v =
    { requester := .bay b, direction := .write, address := r.addressA + r.delivered * 512, length := v.blocks * 512,
      aperture := r.apertureA, purpose := .half (if r.delivered / 8 % 2 = 0 then 0 else 1) v.blocks, data := v.data } := by
  simp only [halfTransfer, halfAddress, halfAperture, mode]
  rfl

theorem halfTransfer_alternate {b : BayId} {r : Read} {v : Half} (mode : r.mode = .alternate) : halfTransfer b r v =
    { requester := .bay b, direction := .write,
      address := (if r.delivered * 512 / r.chunk % 2 = 0 then r.addressA else r.addressB) + r.delivered * 512 % r.chunk,
      length := v.blocks * 512, aperture := if r.delivered * 512 / r.chunk % 2 = 0 then r.apertureA else r.apertureB,
      purpose := .half (if r.delivered / 8 % 2 = 0 then 0 else 1) v.blocks, data := v.data } := by
  simp only [halfTransfer, halfAddress, halfAperture, mode]
  rfl

theorem mustWait_single {r : Read} {block : Nat} (mode : r.mode = .single) : mustWait r block = false := by
  simp only [mustWait, mode]

theorem mustWait_alternate {r : Read} (block : Nat) (mode : r.mode = .alternate) :
    mustWait r block = decide (r.givenBack + 2 ≤ block * 512 / r.chunk) := by
  simp only [mustWait, mode]
  rfl

theorem next_cleared (n : SlotId) (st : Status) (clock : W32) (y : Bay) :
    (y.cleared n st clock).next.half0 = Half.reset ∧ (y.cleared n st clock).next.half1 = Half.reset
      ∧ (y.cleared n st clock).next.giveBackWait = false
      ∧ (y.cleared n st clock).next.last = some { slot := n, status := st, clock := clock }
      ∧ (y.cleared n st clock).next.counts = if st = .ok then { y.counts with readsOk := bump y.counts.readsOk }
          else { y.counts with readsOther := bump y.counts.readsOther } := by
  by_cases ready : (y.cleared n st clock).state = .ready ∨ (y.cleared n st clock).state = .reading
  · cases waits : (y.cleared n st clock).waiting with
    | nil =>
      rw [Bay.next_nil ready waits]
      exact ⟨rfl, rfl, rfl, rfl, rfl⟩
    | cons r rest =>
      rw [Bay.next_cons ready waits]
      exact ⟨rfl, rfl, rfl, rfl, rfl⟩
  · rw [Bay.next_off ready]
    exact ⟨rfl, rfl, rfl, rfl, rfl⟩

/-! ## O46 -/

/-- Settles O46: the half's write is alone with its bay, so it is told at once; then the bay's next step by the read's state. -/
theorem writtenHalvesAreDelivered : Obligations.WrittenHalvesAreDelivered := by
  unfold Obligations.WrittenHalvesAreDelivered
  refine ⟨?_, ?_, ?_⟩
  · intro s before after g b h blocks r run granted others runs own purpose direction active taken
    have outcome : outcomeOf g.transfer (.good []) = some (.done []) := by simp only [outcomeOf, direction]
    have effect := transferReported_done (s := s.quiet) granted outcome runs (own.symm ▸ others)
    have told (v : State) : tellOne g.transfer (.done []) v = halfWritten b h blocks v := by
      simp only [tellOne, own, purpose]
    rw [told, halfWritten_eq (s := s.quiet.ungranted (before ++ after)) active] at effect
    have bay := halfCounted_bays (b := b) (h := h) (blocks := blocks) (r := r) (s := s.quiet.ungranted (before ++ after))
    refine ⟨_, thenSettles_transferEnd run effect, halfCounted_granted, by rw [bay]; rfl, ?_, ?_,
      halfCounted_body (s := s.quiet.ungranted (before ++ after)) taken, ?_, ?_, fun mode => buffersFilled_alternate mode⟩
    · rw [bay]
      exact congrArg Half.state (half_setHalf (s.bay b) h Half.reset)
    · rw [bay]
      exact otherHalf_setHalf (s.bay b) h Half.reset
    · intro mode counts
      refine halfCounted_progress (s := s.quiet.ungranted (before ++ after)) taken ?_
      simp only [advances, mode, counts, decide_true]
    · intro mode fills
      refine halfCounted_progress (s := s.quiet.ungranted (before ++ after)) taken ?_
      simp only [advances, mode, fills, Nat.lt_succ_self, decide_true]
  · intro b s r active
    refine ⟨?_, ?_, fun goesOn all => bayAdvance_delivered active goesOn all, ?_⟩
    · intro cause st final ends empty0 empty1 mem isFinal
      rw [bayAdvance_completes active ends empty0 empty1, endStatus_of_mem mem, isFinal, countPartial_eq]
    · intro ends left
      have ended : r.ended ≠ none := by rwa [← Option.isSome_iff_ne_none]
      obtain ⟨slots, bays, _⟩ := requestWrite_ended active ended
      rw [bayAdvance_lingers active ended left]
      exact ⟨slots, congrArg (fun v => look v b) bays⟩
    · intro goesOn more fill write t isFill isWrite isT
      rw [← half_fillHalf] at isFill
      rw [← half_writeHalf] at isWrite
      rw [show bayAdvance b s = requestWrite b (restarted b s) from bayAdvance_runs active goesOn more] at isT
      subst isT isFill isWrite
      obtain ⟨rest, bay⟩ := restarted_rest active
      have still : ((restarted b s).bay b).active = some r := (congrArg Bay.active bay :).trans active
      have port : (restarted b s).port = s.port := (congrArg State.port rest :)
      have half : ((restarted b s).bay b).half (writeHalf r) = (s.bay b).half (writeHalf r) :=
        (congrArg (fun y : Bay => y.half (writeHalf r)) bay :)
      have wait : ((restarted b s).bay b).giveBackWait = (s.bay b).giveBackWait := (congrArg Bay.giveBackWait bay :)
      obtain ⟨activeNow, half0, half1, runNow, block, out⟩ := requestWrite_keeps still
      refine ⟨?_, ?_, ?_, half0.trans (congrArg Bay.half0 bay :), half1.trans (congrArg Bay.half1 bay :), activeNow, ?_, ?_⟩
      · intro stopped takes
        rw [runNow, block, out, restarted_stopped active stopped ((canTake_iff _).mpr takes), bay_onBay_same]
        exact ⟨rfl, rfl, rfl⟩
      · intro halted noWait room
        have same := restarted_halted active halted noWait (by simpa only [someEmpty, Bool.or_eq_true, beq_iff_eq] using room)
        have bayNow : (restarted b s).bay b = _ := (congrArg (fun u : State => u.bay b) same).trans (bay_onBay_same s b _)
        rw [runNow, block, out, bayNow, same]
        exact ⟨rfl, rfl, rfl⟩
      · intro goes
        rw [runNow, out, restarted_runs active goes]
        exact ⟨rfl, rfl⟩
      · intro notFull
        refine (congrArg State.port (requestWrite_notFull still (by rwa [half]))).trans port
      · intro full line none liveA liveB
        have fullNow : (((restarted b s).bay b).half (writeHalf r)).state = .full := by rwa [half]
        have live := (areasLive_iff r).mpr ⟨liveA, liveB⟩
        have asks := requestWrite_line still fullNow (by rwa [port]) (by rwa [port]) live
        rw [half] at asks
        refine ⟨fun mode => ?_, fun mode early => ?_, fun mode late noWait => ?_⟩
        · exact (asks (mustWait_single mode)).trans (congrArg (· :: []) (halfTransfer_single mode))
        · refine (asks ?_).trans (congrArg (· :: []) (halfTransfer_alternate mode))
          rw [mustWait_alternate _ mode, decide_eq_false_iff_not]
          exact Nat.not_le.mpr early
        · have begins := requestWrite_begins_wait still fullNow (by rwa [port]) (by rwa [port]) live goesOn
            (by rw [mustWait_alternate _ mode, decide_eq_true_iff]; exact late) (wait.trans noWait)
          rwa [port] at begins
  · intro b s t r st taken isT
    subst isT
    have slot := finishRead_slot (b := b) (st := st) taken
    have work : BayWork b s (finishRead b r st s) := BayWork.finishRead r st
    have bay := finishRead_bay (b := b) (r := r) (st := st) (s := s)
    have out := finishRead_out (b := b) (r := r) (st := st) (s := s)
    obtain ⟨half0, half1, wait, last, counts⟩ := next_cleared r.slot st s.clock (s.bay b)
    rw [bay, out]
    refine ⟨by rw [slot], by rw [slot], by rw [slot], by rw [slot], by rw [slot]; rfl, last, by rw [half0]; rfl, by rw [half1]; rfl, wait,
      fun ok => ?_, fun notOk => ?_, ?_, ?_, ?_, fun c other => work.bay_ne other, finishRead_port, work.orders, work.terminal⟩
    · rw [counts, if_pos ok]
      exact ⟨rfl, rfl⟩
    · rw [counts, if_neg notOk]
      exact ⟨rfl, rfl⟩
    · intro ready waits
      rw [Bay.next_nil (y := (s.bay b).cleared r.slot st s.clock) ready waits, Bay.nextSends, if_pos ready, waits]
      exact ⟨rfl, rfl, rfl, List.append_nil _⟩
    · intro x rest ready waits
      rw [Bay.next_cons (y := (s.bay b).cleared r.slot st s.clock) ready waits, Bay.nextSends, if_pos ready, waits]
      exact ⟨rfl, rfl, rfl, rfl, rfl, rfl⟩
    · intro notReady notReading
      have off : ¬((s.bay b).state = .ready ∨ (s.bay b).state = .reading) := fun ready => ready.elim notReady notReading
      rw [Bay.next_off (y := (s.bay b).cleared r.slot st s.clock) off, Bay.nextSends, if_neg off]
      exact ⟨rfl, rfl, rfl, List.append_nil _⟩

end Sys2Proof.Machine
end

section
/-! SUPPORT. Blocks of a running read (R108 to R110), what winding down does (R119), and the host's GIVE_BACK with its limits (R115 to
R117). -/

namespace Sys2Proof.Machine

/-! ## A block is accepted (R108, R110) -/

/-- The read with one block more. -/
def Read.advanced (r : Read) : Read := { r with accepted := r.accepted + 1, failures := 0 }

/-- The bay with a block in its filling half. -/
def Bay.filled (r : Read) (data : List Byte) (y : Bay) : Bay :=
  { (y.setHalf (fillHalf r)
      { state := if (y.half (fillHalf r)).blocks + 1 = 8 ∨ r.accepted + 1 = r.count then .full else .filling,
        blocks := (y.half (fillHalf r)).blocks + 1, data := (y.half (fillHalf r)).data ++ data }) with
    active := some r.advanced, block := .running Config.blockMs }

section Accepted
variable {b : BayId} {r : Read} {data : List Byte} {s : State}

theorem acceptBlock_last (last : r.accepted + 1 = r.count) : acceptBlock b r data s =
    (s.onBay b fun y => { y.filled r data with run := .idle, block := .stopped }).emit (.halt b) := by
  have both := onBay_onBay s b (Bay.filled r data) fun y => { y with run := .idle, block := .stopped }
  refine Eq.trans ?_ (congrArg (fun v => State.emit v (.halt b)) both)
  simp only [acceptBlock, if_pos last]
  exact congrArg (fun v => State.emit v _) (congrArg (fun v => State.onBay v b _) (onBay_congr s b rfl))

theorem acceptBlock_more (more : r.accepted + 1 ≠ r.count) : acceptBlock b r data s = s.onBay b fun y =>
    if canTake ((y.filled r data).half (fillHalf r.advanced)) then y.filled r data
    else { y.filled r data with run := .clockStopped, block := .paused Config.blockMs } := by
  simp only [acceptBlock, if_neg more]
  refine Eq.trans (congrArg (fun v => State.onBay v b _) (onBay_congr s b (g := Bay.filled r data) rfl)) ?_
  exact onBay_onBay s b (Bay.filled r data) _

/-- What accepting a block leaves alone. -/
theorem acceptBlock_work : BayWork b s (acceptBlock b r data s) := by
  by_cases last : r.accepted + 1 = r.count
  · rw [acceptBlock_last last]
    exact (BayWork.onBay _).trans (.emit _)
  · rw [acceptBlock_more last]
    exact .onBay _

theorem acceptBlock_rest : { acceptBlock b r data s with bays := s.bays, out := s.out } = s := by
  by_cases last : r.accepted + 1 = r.count
  · rw [acceptBlock_last last]
    rfl
  · rw [acceptBlock_more last]
    rfl

/-- Whatever the run then does, the bay has the block. -/
theorem acceptBlock_bay : ∃ run block, (acceptBlock b r data s).bay b = { (s.bay b).filled r data with run := run, block := block } := by
  by_cases last : r.accepted + 1 = r.count
  · rw [acceptBlock_last last]
    exact ⟨.idle, .stopped, bay_onBay_same s b fun y => { y.filled r data with run := .idle, block := .stopped }⟩
  · rw [acceptBlock_more last, bay_onBay_same]
    split
    · exact ⟨_, _, rfl⟩
    · exact ⟨_, _, rfl⟩

theorem filled_run (y : Bay) : (y.filled r data).run = y.run := by
  unfold Bay.filled Bay.setHalf
  split <;> rfl

end Accepted

/-! ## The events of the card port (R108, R109) -/

theorem endBlock_running {b : BayId} {good : Option (List Byte)} {s : State} {r : Read} (active : (s.bay b).active = some r)
    (running : (s.bay b).run = .running) (goesOn : r.ended = none) : endBlock b good s = settle s (blockEnd b r good s) := by
  simp only [endBlock, active]
  exact if_pos ⟨running, goesOn⟩

theorem thenSettles_block {b : BayId} {data : List Byte} {check : W16} {s : State} {r : Read} (run : s.part = .run)
    (active : (s.bay b).active = some r) (running : (s.bay b).run = .running) (goesOn : r.ended = none) :
    ThenSettles (exec (.blockArrival b data check) s) s.quiet (blockEnd b r (goodBlock data check) s.quiet) :=
  (event_next (endBlock b (goodBlock data check)) run).trans
    (congrArg _ (congrArg _ (endBlock_running (s := s.quiet) active running goesOn)))

/-- A block limit's end, where the limit runs. -/
def lateBlock (b : BayId) (t : State) : State := if (t.bay b).block.isRunning then endBlock b none t else t

theorem thenSettles_lateBlock {b : BayId} {s : State} {r : Read} (run : s.part = .run) (active : (s.bay b).active = some r)
    (running : (s.bay b).run = .running) (goesOn : r.ended = none) (limit : (s.bay b).block.isRunning = true) :
    ThenSettles (exec (.blockLimitExpiry b) s) s.quiet (blockEnd b r none s.quiet) :=
  (event_next (lateBlock b) run).trans
    (congrArg _ (congrArg _ ((if_pos limit).trans (endBlock_running (s := s.quiet) active running goesOn))))

theorem goodBlock_good {data : List Byte} (length : data.length = 512) : goodBlock data (crc16 data) = some data := if_pos ⟨length, rfl⟩

theorem goodBlock_bad {data : List Byte} {check : W16} (bad : data.length ≠ 512 ∨ check ≠ crc16 data) : goodBlock data check = none :=
  if_neg fun all => bad.elim (· all.1) (· all.2.symm)

/-- A block failure, by either command that brings one. -/
theorem thenSettles_badBlock {b : BayId} {c : Instr} {s : State} {r : Read} (run : s.part = .run) (active : (s.bay b).active = some r)
    (running : (s.bay b).run = .running) (goesOn : r.ended = none)
    (fails : (c = .blockLimitExpiry b ∧ (s.bay b).block.isRunning = true)
      ∨ ∃ data check, c = .blockArrival b data check ∧ (data.length ≠ 512 ∨ check ≠ crc16 data)) :
    ThenSettles (exec c s) s.quiet (blockEnd b r none s.quiet) := by
  rcases fails with ⟨isC, limit⟩ | ⟨data, check, isC, bad⟩
  · rw [isC]
    exact thenSettles_lateBlock run active running goesOn limit
  · rw [isC, ← goodBlock_bad bad]
    exact thenSettles_block run active running goesOn

section Ends
variable {b : BayId} {r : Read} {s : State}

theorem blockEnd_good {data : List Byte} (unmarked : r.mark = none) : blockEnd b r (some data) s = bayAdvance b (acceptBlock b r data s) := by
  simp only [blockEnd, unmarked]

theorem blockEnd_bad (unmarked : r.mark = none) : blockEnd b r none s = blockFailed b r s := by
  simp only [blockEnd, unmarked]

theorem blockEnd_marked {cause : EndCause} (marked : r.mark = some cause) (good : Option (List Byte)) :
    blockEnd b r good s = windDown b cause (match good with | some data => acceptBlock b r data s | none => countRetry b s) := by
  cases good <;> simp only [blockEnd, marked]

theorem blockFailed_again (running : (s.bay b).run = .running) (few : r.failures < 2) : blockFailed b r s =
    ((s.onBay b fun y =>
      { y with active := some { r with failures := r.failures + 1 }, block := .running 250,
               counts := { y.counts with blockRetries := bump y.counts.blockRetries } }).emit (.halt b)).emit
      (.readRun b (r.first + r.accepted)) := by
  simp only [blockFailed, countRetry, if_pos few]
  refine congrArg (fun v : State => (v.emit _).emit _) ((onBay_onBay s b _ _).trans (onBay_congr s b ?_))
  simp only [← running]
  rfl

theorem blockFailed_last (many : 2 ≤ r.failures) : blockFailed b r s =
    windDown b .readFault (s.onBay b fun y =>
      { y with active := some { r with failures := r.failures + 1, failing := some (r.first + r.accepted) },
               counts := { y.counts with blockRetries := bump y.counts.blockRetries },
               latched := { y.latched with readFault := true } }) := by
  simp only [blockFailed, countRetry, if_neg (Nat.not_lt.mpr many)]
  exact congrArg (windDown b .readFault) (onBay_onBay s b _ _)

end Ends

/-! ## What winding down does to a half (R119) -/

theorem writeHalf_eq (r : Read) (h : Fin 2) : h = writeHalf r ↔ h.val = r.delivered / 8 % 2 := by
  unfold writeHalf
  split
  · next even => rw [even]; exact Fin.ext_iff
  · next odd => rw [show r.delivered / 8 % 2 = 1 by omega]; exact Fin.ext_iff

theorem endHalf_kept {cause : EndCause} {r : Read} {h : Fin 2} {v : Half} {block : Nat} (full : v.state = .full)
    (keeps : cause = .readFault ∨ cause = .cardGone) (live : areasLive r = true)
    (isBlock : block = if h.val = r.delivered / 8 % 2 then r.delivered else r.delivered + 8) :
    endHalf cause r h v = if mustWait r block then Half.reset else v := by
  have kept : keepsHalf cause r h = !mustWait r block := by
    have early : (cause == .readFault || cause == .cardGone) = true := by simpa only [Bool.or_eq_true, beq_iff_eq] using keeps
    have at' : (if h = writeHalf r then r.delivered else r.delivered + 8) = block :=
      (ite_congr (propext (writeHalf_eq r h)) (fun _ => rfl) fun _ => rfl).trans isBlock.symm
    simp only [keepsHalf, early, live, at', Bool.true_and]
  rw [endHalf_full full, kept]
  cases mustWait r block <;> rfl

/-- What winding down does to one half, by the state it finds it in. -/
theorem endHalf_outcome {cause : EndCause} {r : Read} {h : Fin 2} {v w : Half} (isW : w = endHalf cause r h v) :
    (v.state = .writing → w = v) ∧ (v.state = .empty ∨ v.state = .filling → w.state = .empty)
      ∧ (v.state = .full → cause ≠ .readFault → cause ≠ .cardGone → w.state = .empty)
      ∧ (v.state = .full → cause = .readFault ∨ cause = .cardGone → r.liveA = true → r.mode = .single ∨ r.liveB = true →
        (r.mode = .single → w = v)
          ∧ ∀ block, block = (if h.val = r.delivered / 8 % 2 then r.delivered else r.delivered + 8) → r.mode = .alternate →
            (block * 512 / r.chunk < r.givenBack + 2 → w = v) ∧ (r.givenBack + 2 ≤ block * 512 / r.chunk → w.state = .empty)) := by
  subst isW
  refine ⟨endHalf_writing, fun open' => by rw [endHalf_open open']; rfl, fun full noFault cardThere => ?_, fun full keeps liveA liveB => ?_⟩
  · rw [endHalf_drops noFault cardThere, if_neg (by rw [full]; decide)]
    rfl
  · have live := (areasLive_iff r).mpr ⟨liveA, liveB⟩
    refine ⟨fun mode => ?_, fun block isBlock mode => ⟨fun early => ?_, fun late => ?_⟩⟩
    · rw [endHalf_kept full keeps live rfl, mustWait_single mode]
      rfl
    · rw [endHalf_kept full keeps live isBlock, mustWait_alternate _ mode, if_neg (by simpa using early)]
    · rw [endHalf_kept full keeps live isBlock, mustWait_alternate _ mode, if_pos (by simpa using late)]
      rfl

theorem wound_out (b : BayId) (cause : EndCause) (r : Read) (s : State) : (wound b cause r s).out =
    s.out ++ (if ((s.bay b).run = .running ∨ (s.bay b).run = .clockStopped) ∧ (s.bay b).card.isSome = true then [.halt b] else []) := by
  change (if _ then s.out ++ [Out.halt b] else s.out) = _
  split
  · rfl
  · exact (List.append_nil _).symm

theorem otherHalf_fillHalf (y : Bay) (r : Read) : y.otherHalf (fillHalf r) = if r.accepted / 8 % 2 = 0 then y.half1 else y.half0 := by
  unfold Bay.otherHalf fillHalf
  split <;> rfl

/-! ## O41 -/

/-- Settles O41: a block's end at a running read by its mark and its check; winding down is `wound`, and then the bay goes on. -/
theorem blocksFillHalvesOrAreRetried : Obligations.BlocksFillHalvesOrAreRetried := by
  unfold Obligations.BlocksFillHalvesOrAreRetried
  refine ⟨?_, ?_, ?_⟩
  · intro b s r run active running goesOn unmarked
    refine ⟨?_, ?_⟩
    · intro data h length isH
      rw [← half_fillHalf] at isH
      subst isH
      have ends := thenSettles_block (data := data) (check := crc16 data) run active running goesOn
      rw [goodBlock_good length, blockEnd_good unmarked] at ends
      obtain ⟨last, block, bay⟩ := acceptBlock_bay (b := b) (r := r) (data := data) (s := s.quiet)
      have half (i : Fin 2) : ((acceptBlock b r data s.quiet).bay b).half i = ((s.bay b).filled r data).half i := by rw [bay]; rfl
      have other (i : Fin 2) : ((acceptBlock b r data s.quiet).bay b).otherHalf i = ((s.bay b).filled r data).otherHalf i := by rw [bay]; rfl
      refine ⟨_, ends, by rw [bay]; rfl, ?_, ?_, ?_, ?_, acceptBlock_rest, fun c ne => acceptBlock_work.bay_ne ne⟩
      · rw [← half_fillHalf, half]
        exact half_setHalf (s.bay b) (fillHalf r) _
      · rw [← otherHalf_fillHalf, ← otherHalf_fillHalf, other]
        exact otherHalf_setHalf (s.bay b) (fillHalf r) _
      · intro all
        rw [acceptBlock_last all]
        have here := bay_onBay_same s.quiet b fun y => { y.filled r data with run := .idle, block := .stopped }
        exact ⟨congrArg Bay.run here, congrArg Bay.block here, rfl⟩
      · intro more
        have here := acceptBlock_more (b := b) (data := data) (s := s.quiet) more
        refine ⟨by rw [here]; rfl, fun next isNext => ?_⟩
        have isHalf : next = ((s.quiet.bay b).filled r data).half (fillHalf r.advanced) :=
          (isNext.trans (half_fillHalf ((acceptBlock b r data s.quiet).bay b) r.advanced).symm).trans (half _)
        rw [here, bay_onBay_same, ← canTake_iff, isHalf]
        refine ⟨fun takes => ?_, fun stops => ?_⟩
        · rw [if_pos takes]
          exact ⟨(filled_run _).trans running, rfl⟩
        · rw [if_neg fun takes => by rcases (canTake_iff _).mp takes with state | state <;> rw [state] at stops <;> simp at stops]
          exact ⟨rfl, rfl⟩
    · intro c fails
      have ends := thenSettles_badBlock run active running goesOn fails
      rw [blockEnd_bad unmarked] at ends
      refine ⟨fun few => ?_, fun many => ?_⟩
      · rwa [blockFailed_again (s := s.quiet) running few] at ends
      · rwa [blockFailed_last many] at ends
  · intro b s r cause run active running goesOn marked
    refine ⟨fun data length => ?_, fun c fails => ?_⟩
    · have ends := thenSettles_block (data := data) (check := crc16 data) run active running goesOn
      rwa [goodBlock_good length, blockEnd_marked marked] at ends
    · have ends := thenSettles_badBlock run active running goesOn fails
      rwa [blockEnd_marked marked] at ends
  · intro b s r cause active
    have bay := wound_bay b cause r s
    refine ⟨wound b cause r s, windDown_eq active, ?_, by rw [bay]; rfl, by rw [bay]; rfl, by rw [bay]; rfl, by rw [bay]; rfl,
      by rw [bay]; rfl, by rw [bay]; rfl, ?_, ?_, rfl, fun c other => bay_onBay_ne s (Ne.symm other) _⟩
    · exact wound_out b cause r s
    · rw [bay]
      rintro index v w (⟨rfl, rfl, isW⟩ | ⟨rfl, rfl, isW⟩)
      · exact endHalf_outcome (h := 0) isW
      · exact endHalf_outcome (h := 1) isW
    · rw [bay, ← half_writeHalf]
      intro next isNext
      subst isNext
      exact ⟨fun full => if_pos full, fun notFull => if_neg notFull⟩

/-! ## GIVE_BACK and the limits of its wait (R115 to R117) -/

theorem alternateRead_of {s : State} {n : SlotId} {b : BayId} {r : Read} (active : (s.bay b).active = some r) (own : r.slot = n)
    (mode : r.mode = .alternate) (only : ∀ c x, (s.bay c).active = some x → x.slot = n → c = b) : alternateRead s n = some (b, r) := by
  cases found : alternateRead s n with
  | none =>
    have nothing := List.findSome?_eq_none_iff.mp found b (List.mem_finRange b)
    simp only [active, own, mode, and_self, if_true] at nothing
    exact absurd nothing (by simp)
  | some x =>
    obtain ⟨c, x⟩ := x
    obtain ⟨activeC, ownC, _⟩ := active_of_alternateRead found
    have isB := only c x activeC ownC
    subst isB
    rw [Option.some.inj (activeC.symm.trans active)]

theorem hostEvent_next (f : State → State) {s : State} (run : s.part = .run) (up : s.pcieUp = true) :
    hostEvent f s = .next (closeEvent s.quiet (f s.quiet)) := congrArg _ (if_pos ⟨run, up⟩)

/-- The bay once the wait has lasted 2 s. -/
def Bay.waitedLong (r : Read) (y : Bay) : Bay :=
  { y with waitLimit := false, waitLength := 2000, active := some { r with waited := min 30000 (r.waited + (2000 - y.waitLength)) } }

/-- State once the 2 s limit of a wait has halted the card. -/
def waitHalted (b : BayId) (r : Read) (s : State) : State :=
  (s.onBay b fun y => { y.waitedLong r with run := .halted, block := .stopped }).emit (.halt b)

section TooLong
variable {b : BayId} {s : State} {r : Read} (active : (s.bay b).active = some r)
include active

theorem waitedLong_counted : (s.onBay b fun y =>
      { y with waitLimit := false, waitLength := Config.giveBackWaitMs,
               active := y.active.map fun r => { r with waited := min Config.stallMs (r.waited + (Config.giveBackWaitMs - y.waitLength)) } })
    = s.onBay b (Bay.waitedLong r) := onBay_congr s b (by simp only [active]; rfl)

omit active in
theorem waitedLong_run : ((s.onBay b (Bay.waitedLong r)).bay b).run = (s.bay b).run := by
  rw [bay_onBay_same]
  rfl

theorem waitTooLong_rests (still : ¬((s.bay b).run = .running ∨ (s.bay b).run = .clockStopped)) :
    waitTooLong b s = s.onBay b (Bay.waitedLong r) := by
  simp only [waitTooLong, waitedLong_counted active, waitedLong_run]
  exact if_neg still

omit active in
theorem waitHalted_active : ((waitHalted b r s).bay b).active =
    some { r with waited := min 30000 (r.waited + (2000 - (s.bay b).waitLength)) } :=
  congrArg Bay.active (bay_onBay_same s b fun y => { y.waitedLong r with run := .halted, block := .stopped })

omit active in
theorem waitHalted_eq : ((s.onBay b (Bay.waitedLong r)).onBay b fun y => { y with run := .halted, block := .stopped }).emit (.halt b) =
    waitHalted b r s :=
  congrArg (fun v => State.emit v (.halt b)) (onBay_onBay s b (Bay.waitedLong r) fun y => { y with run := .halted, block := .stopped })

theorem waitTooLong_halts (goes : (s.bay b).run = .running ∨ (s.bay b).run = .clockStopped) (unmarked : r.mark = none) :
    waitTooLong b s = waitHalted b r s := by
  simp only [waitTooLong, waitedLong_counted active, waitedLong_run, waitHalted_eq, waitHalted_active, unmarked]
  exact if_pos goes

theorem waitTooLong_ends {cause : EndCause} (goes : (s.bay b).run = .running ∨ (s.bay b).run = .clockStopped)
    (marked : r.mark = some cause) : waitTooLong b s = windDown b cause (waitHalted b r s) := by
  simp only [waitTooLong, waitedLong_counted active, waitedLong_run, waitHalted_eq, waitHalted_active, marked]
  exact if_pos goes

end TooLong

/-- R116: the wait's 2 s limit ends, where it runs. -/
def waitLimitEnds (b : BayId) (t : State) : State :=
  if (t.bay b).giveBackWait = true ∧ (t.bay b).waitLimit = true then settle t (waitTooLong b t) else t

/-- R117: the stall limit ends, where it runs. -/
def stallLimitEnds (b : BayId) (t : State) : State := if canStall (t.bay b) then settle t (stallRead b t) else t

theorem thenSettles_waitLimit {b : BayId} {s u : State} (run : s.part = .run) (waits : (s.bay b).giveBackWait = true)
    (limit : (s.bay b).waitLimit = true) (effect : waitTooLong b s.quiet = u) :
    ThenSettles (exec (.giveBackWaitExpiry b) s) s.quiet u := by
  refine (event_next (waitLimitEnds b) run).trans (congrArg _ (congrArg _ ?_))
  rw [← effect]
  exact if_pos ⟨waits, limit⟩

theorem giveBackBuffer_taken {b : BayId} {s : State} {r : Read} (taken : (s.slot r.slot).state = .taken) :
    giveBackBuffer b r s = bayAdvance b ((s.onBay b fun y =>
      { y with active := some { r with givenBack := r.givenBack + 1 }, giveBackWait := false, waitLength := 0, waitLimit := false }).onSlot
        r.slot fun c => { c with body := .read (liveResult { r with givenBack := r.givenBack + 1 }) }) := by
  refine congrArg (bayAdvance b) (syncRead_taken (r := { r with givenBack := r.givenBack + 1 }) ?_ taken)
  rw [bay_onBay_same]

theorem stallRead_unmarked {b : BayId} {s : State} {r : Read} (active : (s.bay b).active = some r) (unmarked : r.mark = none)
    (goesOn : r.ended = none) : stallRead b s = windDown b .stalled (s.onBay b fun y =>
      { y with active := some { r with waited := 30000 }, latched := { y.latched with stalled := true } }) := by
  have first : (s.onBay b fun y =>
      { y with active := y.active.map fun r => { r with waited := Config.stallMs }, latched := { y.latched with stalled := true } })
      = s.onBay b fun y => { y with active := some { r with waited := 30000 }, latched := { y.latched with stalled := true } } :=
    onBay_congr s b (by simp only [active]; rfl)
  have now : ((s.onBay b fun y =>
      { y with active := some { r with waited := 30000 }, latched := { y.latched with stalled := true } }).bay b).active =
      some { r with waited := 30000 } := by rw [bay_onBay_same]
  have open' : ({ r with waited := 30000 } : Read).ended.isSome = false := by rw [goesOn]; rfl
  have cause : ({ r with waited := 30000 } : Read).mark.getD EndCause.stalled = .stalled := by rw [unmarked]; rfl
  simp only [stallRead, first, endAtOnce, now, open', cause, Bool.false_eq_true, if_false]

theorem canStall_iff {y : Bay} {r : Read} (active : y.active = some r) :
    canStall y = true ↔ y.giveBackWait = true ∧ r.mark = none ∧ r.ended = none := by
  simp only [canStall, active, Bool.and_eq_true, Option.isNone_iff_eq_none]

/-! ## O42 -/

/-- Settles O42. -/
theorem giveBackAndItsLimits : Obligations.GiveBackAndItsLimits := by
  unfold Obligations.GiveBackAndItsLimits
  intro b s r run active
  refine ⟨?_, ?_, ?_, ?_, ?_⟩
  · intro up taken mode fewer only
    have found : alternateRead s.quiet r.slot = some (b, r) := alternateRead_of (s := s.quiet) active rfl mode only
    refine (hostEvent_next (giveBackSlot r.slot) run up).trans (congrArg _ (congrArg _ ?_))
    simp only [giveBackSlot, found]
    refine (if_pos ⟨taken, fewer⟩).trans (congrArg _ ?_)
    exact giveBackBuffer_taken (s := s.quiet) taken
  · intro waits limit
    refine ⟨fun unmarked goes => ?_, fun cause marked goes => ?_, fun still => ?_⟩
    · refine thenSettles_waitLimit run waits limit ((waitTooLong_halts (s := s.quiet) active goes unmarked).trans ?_)
      rfl
    · refine thenSettles_waitLimit run waits limit ((waitTooLong_ends (s := s.quiet) active goes marked).trans ?_)
      rfl
    · refine thenSettles_waitLimit run waits limit ((waitTooLong_rests (s := s.quiet) active fun goes => ?_).trans rfl)
      rcases goes with goes | goes <;> rcases still with still | still <;> exact absurd (goes.symm.trans still) (by decide)
  · intro waits unmarked goesOn
    refine (event_next (stallLimitEnds b) run).trans (congrArg _ (congrArg _ ?_))
    refine (if_pos ((canStall_iff active).mpr ⟨waits, unmarked, goesOn⟩)).trans (congrArg _ ?_)
    exact stallRead_unmarked (s := s.quiet) active unmarked goesOn
  · intro stopped
    refine endsAs_congr (event_endsAs (waitLimitEnds b) s run) (if_neg fun runs => ?_)
    rcases stopped with stopped | stopped
    · exact absurd (runs.1.symm.trans stopped) (by decide)
    · exact absurd (runs.2.symm.trans stopped) (by decide)
  · intro stopped
    refine endsAs_congr (event_endsAs (stallLimitEnds b) s run) (if_neg fun runs => ?_)
    obtain ⟨waits, unmarked, goesOn⟩ := (canStall_iff (y := s.bay b) active).mp runs
    rcases stopped with stopped | stopped | stopped
    · exact absurd (waits.symm.trans stopped) (by decide)
    · rw [unmarked] at stopped
      exact absurd stopped (by decide)
    · rw [goesOn] at stopped
      exact absurd stopped (by decide)

end Sys2Proof.Machine
end

section
/-! SUPPORT. How the active read of a bay ends (R119), and CANCEL on a TAKEN slot (R49, R120, R133, R138, R167). -/

namespace Sys2Proof.Machine

/-! ## A read that winds down: at once, or after the writes of its halves (R119) -/

theorem slot_countPartial (r : Read) : (countPartial r).slot = r.slot := by
  unfold countPartial
  split <;> rfl

/-- The result says nothing of the end's cause. -/
theorem finalReadResult_wound (r : Read) (cause : EndCause) :
    finalReadResult (countPartial { r with ended := some cause, mark := none }) = finalReadResult (countPartial r) := by
  unfold countPartial
  split <;> rfl

section Winds
variable {b : BayId} {cause : EndCause} {r : Read} {s : State} (active : (s.bay b).active = some r)
include active

theorem windDown_completes (empty0 : (endHalf cause r 0 (s.bay b).half0).state = .empty)
    (empty1 : (endHalf cause r 1 (s.bay b).half1).state = .empty) :
    windDown b cause s = finishRead b (countPartial { r with ended := some cause, mark := none }) (endStatus cause) (wound b cause r s) := by
  have bay := wound_bay b cause r s
  rw [windDown_eq active]
  exact bayAdvance_completes (r := { r with ended := some cause, mark := none }) (by rw [bay]; rfl) rfl (by rw [bay]; exact empty0)
    (by rw [bay]; exact empty1)

theorem windDown_lingers (left : (endHalf cause r 0 (s.bay b).half0).state ≠ .empty ∨ (endHalf cause r 1 (s.bay b).half1).state ≠ .empty) :
    windDown b cause s = requestWrite b (wound b cause r s) := by
  have bay := wound_bay b cause r s
  rw [windDown_eq active]
  exact bayAdvance_lingers (r := { r with ended := some cause, mark := none }) (by rw [bay]; rfl) (Option.some_ne_none _)
    (by rw [bay]; exact left)

/-- A read that winds down and has nothing left to write completes, and the queue moves on. -/
theorem windDown_moves (empty0 : (endHalf cause r 0 (s.bay b).half0).state = .empty)
    (empty1 : (endHalf cause r 1 (s.bay b).half1).state = .empty) :
    (windDown b cause s).bay b = ((s.bay b).cleared r.slot (endStatus cause) s.clock).next
      ∧ (windDown b cause s).out = s.out
          ++ (if ((s.bay b).run = .running ∨ (s.bay b).run = .clockStopped) ∧ (s.bay b).card.isSome = true then [.halt b] else [])
          ++ (s.bay b).nextSends b := by
  rw [windDown_completes active empty0 empty1]
  have own : (countPartial { r with ended := some cause, mark := none }).slot = r.slot := slot_countPartial _
  refine ⟨?_, ?_⟩
  · rw [finishRead_bay, wound_bay, own]
    rfl
  · rw [finishRead_out, wound_out, wound_bay]
    rfl

/-- A read that winds down and has nothing left to write: its slot completes. -/
theorem windDown_slot (empty0 : (endHalf cause r 0 (s.bay b).half0).state = .empty)
    (empty1 : (endHalf cause r 1 (s.bay b).half1).state = .empty) (taken : (s.slot r.slot).state = .taken) :
    (windDown b cause s).slot r.slot =
      { s.slot r.slot with state := .done, status := endStatus cause, reason := .none, completedAt := s.clock,
                           body := .read (finalReadResult (countPartial r)) } := by
  rw [windDown_completes active empty0 empty1]
  have own : (countPartial { r with ended := some cause, mark := none }).slot = r.slot := slot_countPartial _
  have result := finalReadResult_wound r cause
  generalize countPartial { r with ended := some cause, mark := none } = final at *
  rw [← own] at taken ⊢
  rw [finishRead_slot (s := wound b cause r s) taken, result]
  rfl

/-- A read that winds down and has something left to write goes on until it is written. -/
theorem windDown_left (left : (endHalf cause r 0 (s.bay b).half0).state ≠ .empty ∨ (endHalf cause r 1 (s.bay b).half1).state ≠ .empty) :
    (windDown b cause s).slots = s.slots ∧ (windDown b cause s).bay b = (s.bay b).wound cause r
      ∧ (windDown b cause s).out = s.out
          ++ (if ((s.bay b).run = .running ∨ (s.bay b).run = .clockStopped) ∧ (s.bay b).card.isSome = true then [.halt b] else []) := by
  rw [windDown_lingers active left]
  have still : ((wound b cause r s).bay b).active = some { r with ended := some cause, mark := none } := by rw [wound_bay]; rfl
  obtain ⟨slots, bays, out⟩ := requestWrite_ended still (Option.some_ne_none _)
  exact ⟨slots, (congrArg (fun v => look v b) bays).trans (wound_bay b cause r s), out.trans (wound_out b cause r s)⟩

end Winds

/-- What winding down leaves of a half for a cause that keeps no FULL one. -/
theorem endHalf_empty_iff {cause : EndCause} {r : Read} {h : Fin 2} {v : Half} (noFault : cause ≠ .readFault) (cardThere : cause ≠ .cardGone) :
    (endHalf cause r h v).state = .empty ↔ v.state ≠ .writing := by
  rw [endHalf_drops noFault cardThere]
  split
  · next writing => rw [writing]; exact ⟨nofun, fun other => absurd rfl other⟩
  · next other => exact ⟨fun _ => other, fun _ => rfl⟩

theorem endStatus_ne_ok (cause : EndCause) : endStatus cause ≠ .ok := by
  cases cause <;> nofun

/-- R119: a waiting read ends at once, its figures 0 or absent. -/
theorem endWaitingRead_taken {b : BayId} {cause : EndCause} {r : Read} {s : State} (taken : (s.slot r.slot).state = .taken) :
    endWaitingRead b cause r s =
      { ((s.onBay b fun y =>
          { y with waiting := y.waiting.filter (·.slot != r.slot),
                   last := some { slot := r.slot, status := endStatus cause, clock := s.clock },
                   counts := { y.counts with readsOther := bump y.counts.readsOther } }).onSlot r.slot fun c =>
          { c with state := .done, status := endStatus cause, reason := .none, completedAt := s.clock, body := .read (unstartedResult r) }) with
        attnDone := true } := by
  have waiting : ((s.onBay b fun y => { y with waiting := y.waiting.filter (·.slot != r.slot) }).slot r.slot).state = .taken := taken
  simp only [endWaitingRead, recordRead, complete_of_taken _ _ _ _ _ waiting, if_neg (endStatus_ne_ok cause)]
  have both := onBay_onBay s b (fun y => { y with waiting := y.waiting.filter (·.slot != r.slot) }) fun y =>
    { y with last := some { slot := r.slot, status := endStatus cause, clock := s.clock },
             counts := { y.counts with readsOther := bump y.counts.readsOther } }
  exact congrArg (fun v : State => { (v.onSlot r.slot fun c =>
    { c with state := .done, status := endStatus cause, reason := .none, completedAt := s.clock, body := .read (unstartedResult r) }) with
    attnDone := true }) both

/-! ## A cause that waits for the block boundary (R119, step 1) -/

section Boundary
variable {b : BayId} {cause : EndCause} {r : Read} {s : State} (active : (s.bay b).active = some r)
include active

theorem endAtBoundary_leaves (left : r.ended.isSome = true ∨ r.mark.isSome = true ∨ (r.accepted = r.count ∧ (s.bay b).giveBackWait = false)) :
    endAtBoundary b cause s = s := by
  have past : r.ended.isSome = true ∨ r.mark.isSome = true ∨ pastLastBoundary (s.bay b) r = true := by
    refine left.imp id (Or.imp id fun all => ?_)
    rw [pastLastBoundary, all.1, all.2]
    simp
  simp only [endAtBoundary, active]
  exact if_pos past

variable (goesOn : r.ended = none) (unmarked : r.mark = none) (within : r.accepted ≠ r.count ∨ (s.bay b).giveBackWait = true)
include goesOn unmarked within

omit active in
theorem not_past : ¬(r.ended.isSome = true ∨ r.mark.isSome = true ∨ pastLastBoundary (s.bay b) r = true) := by
  rw [goesOn, unmarked, pastLastBoundary, Bool.and_eq_true, beq_iff_eq, Bool.not_eq_true']
  rintro (ends | marked | ⟨all, noWait⟩)
  · exact absurd ends (by decide)
  · exact absurd marked (by decide)
  · rcases within with more | waits
    · exact more all
    · exact absurd (waits.symm.trans noWait) (by decide)

theorem endAtBoundary_marks (running : (s.bay b).run = .running) :
    endAtBoundary b cause s = s.onBay b fun y => { y with active := some { r with mark := some cause } } := by
  have notPast := not_past goesOn unmarked within
  simp only [endAtBoundary, active]
  refine (if_neg notPast).trans ((if_pos running).trans (onBay_congr s b ?_))
  simp only [active, Option.map_some]

theorem endAtBoundary_winds (stopped : (s.bay b).run ≠ .running) : endAtBoundary b cause s = windDown b cause s := by
  have notPast := not_past goesOn unmarked within
  simp only [endAtBoundary, active]
  exact (if_neg notPast).trans (if_neg stopped)

end Boundary

/-! ## CANCEL on a TAKEN slot (R167) -/

section Cancel
variable {n : SlotId} {s : State}

theorem cancelRead_none {b : BayId} (noWaiting : ∀ r ∈ (s.bay b).waiting, r.slot ≠ n) (notActive : ∀ r, (s.bay b).active = some r → r.slot ≠ n) :
    cancelRead n b s = s := by
  have notFound : (s.bay b).waiting.find? (·.slot == n) = none :=
    List.find?_eq_none.mpr fun r mem own => noWaiting r mem (beq_iff_eq.mp own)
  simp only [cancelRead, notFound]
  split
  · next r active => exact if_neg (notActive r active)
  · rfl

theorem cancelPay_none (noPay : noPay s n) : cancelPay n s = s := by
  obtain ⟨noWaiting, notHolding⟩ := noPay
  have notFound : s.terminal.waitList.find? (·.slot == n) = none :=
    List.find?_eq_none.mpr fun e mem own => noWaiting e mem (beq_iff_eq.mp own)
  simp only [cancelPay, notFound]
  split
  · next h holds => exact if_neg fun both => notHolding h holds both.1
  · rfl

theorem cancelPriceLoad_none (noLoad : noLoad s n) : cancelPriceLoad n s = s := by
  unfold cancelPriceLoad
  split
  · next l load => exact if_neg (noLoad l load)
  · rfl

theorem forEach_skips {α : Type} {f : α → State → State} {s : State} (l : List α) (skips : ∀ c ∈ l, f c s = s) : forEach l f s = s := by
  induction l with
  | nil => rfl
  | cons a rest ih =>
    rw [forEach_cons, skips a List.mem_cons_self]
    exact ih fun c mem => skips c (List.mem_cons_of_mem _ mem)

/-- A pass over the bays in which only one does anything. -/
theorem forEach_one {α : Type} {f : α → State → State} {s : State} {a : α} {l : List α} (mem : a ∈ l) (nodup : l.Nodup)
    (before : ∀ c, c ≠ a → f c s = s) (after : ∀ c, c ≠ a → f c (f a s) = f a s) : forEach l f s = f a s := by
  induction l with
  | nil => exact absurd mem List.not_mem_nil
  | cons x rest ih =>
    obtain ⟨notIn, nodupRest⟩ := List.nodup_cons.mp nodup
    rw [forEach_cons]
    rcases List.mem_cons.mp mem with rfl | mem
    · exact forEach_skips rest fun c mem => after c fun same => notIn (same ▸ mem)
    · have other : x ≠ a := fun same => notIn (same ▸ mem)
      rw [before x other]
      exact ih mem nodupRest

theorem cancelReads_none (noRead : noRead s n) : forEach (List.finRange 4) (cancelRead n) s = s :=
  forEach_self (fun b => cancelRead_none (noRead b).1 (noRead b).2) _

/-- CANCEL of a read reaches its bay alone. -/
theorem cancelReads_one {b : BayId}
    (only : ∀ c, c ≠ b → (∀ x ∈ (s.bay c).waiting, x.slot ≠ n) ∧ ∀ x, (s.bay c).active = some x → x.slot ≠ n)
    (work : BayWork b s (cancelRead n b s)) : forEach (List.finRange 4) (cancelRead n) s = cancelRead n b s := by
  refine forEach_one (List.mem_finRange b) (List.nodup_finRange 4) (fun c other => cancelRead_none (only c other).1 (only c other).2)
    fun c other => ?_
  have bay := work.bay_ne other
  exact cancelRead_none (by rw [bay]; exact (only c other).1) (by rw [bay]; exact (only c other).2)

theorem cancelRead_work {b : BayId} : BayWork b s (cancelRead n b s) := by
  unfold cancelRead
  split
  · exact .endWaitingRead _ _
  · split
    · exact .ite (.endAtBoundary _) .refl
    · exact .refl

theorem thenSettles_cancel {u : State} (run : s.part = .run) (up : s.pcieUp = true) (taken : (s.slot n).state = .taken)
    (effect : cancelTaken n s.quiet = u) : ThenSettles (exec (.cancel n) s) s.quiet u := by
  refine (hostEvent_next (cancelSlot n) run up).trans (congrArg _ (congrArg _ ?_))
  have state : (s.quiet.slot n).state = .taken := taken
  rw [← effect]
  simp only [cancelSlot, state]

/-- CANCEL on the slot of one read, of no PAY and of no load. -/
theorem cancelTaken_read {b : BayId} (noPay : noPay s n) (noLoad : noLoad s n)
    (only : ∀ c, c ≠ b → (∀ x ∈ (s.bay c).waiting, x.slot ≠ n) ∧ ∀ x, (s.bay c).active = some x → x.slot ≠ n) :
    cancelTaken n s = cancelRead n b s := by
  unfold cancelTaken
  rw [cancelPay_none noPay, cancelReads_one only cancelRead_work]
  refine cancelPriceLoad_none fun l load => noLoad l ?_
  rwa [cancelRead_work.price] at load

theorem cancelTaken_pay (noRead : noRead s n) (noLoad : noLoad s n) (bays : (cancelPay n s).bays = s.bays)
    (price : (cancelPay n s).price = s.price) : cancelTaken n s = cancelPay n s := by
  unfold cancelTaken
  have noReadNow : Machine.noRead (cancelPay n s) n := fun b => by
    rw [show (cancelPay n s).bay b = s.bay b from congrArg (fun v => look v b) bays]
    exact noRead b
  rw [cancelReads_none noReadNow]
  exact cancelPriceLoad_none fun l load => noLoad l (by rwa [price] at load)

theorem cancelTaken_load {l : Load} (noRead : noRead s n) (noPay : noPay s n) (load : s.price.load = some l) (own : l.slot = n) :
    cancelTaken n s = cancelLoad l s := by
  unfold cancelTaken
  rw [cancelPay_none noPay, cancelReads_none noRead]
  simp only [cancelPriceLoad, load]
  exact if_pos own

end Cancel

/-! ## O43 -/

/-- Settles O43: the operation behind the slot is one block's, so the other blocks pass the CANCEL over. -/
theorem cancelReachesTheOperation : Obligations.CancelReachesTheOperation := by
  unfold Obligations.CancelReachesTheOperation
  intro n s run up taken
  refine ⟨?_, ?_, ?_, ?_, ?_, ?_, ?_⟩
  · intro e noRead noLoad found
    have pays : cancelPay n s.quiet = endPay n e.order .cancelled none none none
        (s.quiet.onTerminal fun t => { t with waitList := t.waitList.filter (·.slot != n) }) := by
      have foundNow : s.quiet.terminal.waitList.find? (·.slot == n) = some e := found
      simp only [cancelPay, foundNow]
    obtain ⟨_, _, _, _, price, _, bays⟩ := endPay_tables n e.order .cancelled none none none
      (s.quiet.onTerminal fun t => { t with waitList := t.waitList.filter (·.slot != n) })
    refine thenSettles_cancel run up taken ?_
    rw [cancelTaken_pay (s := s.quiet) noRead noLoad (by rw [pays, bays]; rfl) (by rw [pays, price]; rfl), pays]
  · intro h noRead noLoad noWaiting holds own opened
    have pays : cancelPay n s.quiet = abortExchange h s.quiet := by
      have notFound : s.quiet.terminal.waitList.find? (·.slot == n) = none :=
        List.find?_eq_none.mpr fun e mem own => noWaiting e mem (beq_iff_eq.mp own)
      have holdsNow : s.quiet.terminal.holder = some h := holds
      simp only [cancelPay, notFound, holdsNow]
      exact if_pos ⟨own, opened⟩
    refine thenSettles_cancel run up taken ?_
    rw [cancelTaken_pay (s := s.quiet) noRead noLoad (by rw [pays]; rfl) (by rw [pays]; rfl), pays]
    rfl
  · intro h noRead noLoad noWaiting holds own aborting
    have pays : cancelPay n s.quiet = s.quiet := by
      have notFound : s.quiet.terminal.waitList.find? (·.slot == n) = none :=
        List.find?_eq_none.mpr fun e mem own => noWaiting e mem (beq_iff_eq.mp own)
      have holdsNow : s.quiet.terminal.holder = some h := holds
      simp only [cancelPay, notFound, holdsNow]
      exact if_neg fun both => absurd (aborting.symm.trans both.2) (by decide)
    refine thenSettles_cancel run up taken ?_
    rw [cancelTaken_pay (s := s.quiet) noRead noLoad (by rw [pays]) (by rw [pays]), pays]
  · intro l noRead noPay load own waits
    refine thenSettles_cancel run up taken ((cancelTaken_load (s := s.quiet) noRead noPay load own).trans ?_)
    have idle : ¬l.fetching = true := by rw [waits]; decide
    rw [← own] at taken ⊢
    refine (if_neg idle).trans ((endLoad_taken (s := s.quiet.withdraw .load) taken).trans ?_)
    rw [show (s.quiet.withdraw .load).price.loadFailedLatched = s.price.loadFailedLatched from rfl,
      show (s.price.loadFailedLatched || LoadOutcome.cancelled == .format || LoadOutcome.cancelled == .transferFault)
        = s.price.loadFailedLatched from (Bool.or_false _).trans (Bool.or_false _)]
    rfl
  · intro l noRead noPay load own fetching
    refine thenSettles_cancel run up taken ((cancelTaken_load (s := s.quiet) noRead noPay load own).trans ?_)
    exact if_pos fetching
  · intro b r noPay noLoad only found
    have own : r.slot = n := by simpa using List.find?_some found
    refine thenSettles_cancel run up taken ((cancelTaken_read (s := s.quiet) noPay noLoad only).trans ?_)
    have foundNow : (s.quiet.bay b).waiting.find? (·.slot == n) = some r := found
    simp only [cancelRead, foundNow]
    rw [← own] at taken ⊢
    exact endWaitingRead_taken (s := s.quiet) taken
  · intro b r noPay noLoad only noWaiting active own
    have reads : cancelTaken n s.quiet = endAtBoundary b .cancelled s.quiet := by
      refine (cancelTaken_read (s := s.quiet) noPay noLoad only).trans ?_
      have notFound : (s.quiet.bay b).waiting.find? (·.slot == n) = none :=
        List.find?_eq_none.mpr fun r mem own => noWaiting r mem (beq_iff_eq.mp own)
      have activeNow : (s.quiet.bay b).active = some r := active
      simp only [cancelRead, notFound, activeNow]
      exact if_pos own
    refine ⟨fun goesOn unmarked within => ⟨fun running => ?_, fun stopped u final isU isFinal => ?_⟩, fun left => ?_⟩
    · exact thenSettles_cancel run up taken (reads.trans (endAtBoundary_marks (s := s.quiet) active goesOn unmarked within running))
    · have winds := reads.trans (endAtBoundary_winds (s := s.quiet) active goesOn unmarked within stopped)
      subst isU
      refine ⟨thenSettles_cancel run up taken winds, ?_, ?_⟩
      · intro notWriting0 notWriting1
        have empty0 := (endHalf_empty_iff (cause := .cancelled) (r := r) (h := 0) nofun nofun).mpr notWriting0
        have empty1 := (endHalf_empty_iff (cause := .cancelled) (r := r) (h := 1) nofun nofun).mpr notWriting1
        have slot := windDown_slot (s := s.quiet) active empty0 empty1 (own ▸ taken)
        obtain ⟨bay, out⟩ := windDown_moves (s := s.quiet) active empty0 empty1
        have isPartial : final = countPartial r := isFinal
        rw [own] at slot
        rw [slot, bay, out, isPartial, finishRead_bay, slot_countPartial]
        refine ⟨rfl, rfl, rfl, rfl, _, congrArg (· ++ _) ?_⟩
        exact ite_congr (propext (and_congr_left' (or_iff_right stopped))) (fun _ => rfl) fun _ => rfl
      · intro writing
        have left := writing.imp (mt (endHalf_empty_iff (cause := .cancelled) (r := r) (h := 0) nofun nofun).mp ∘ not_not_intro)
          (mt (endHalf_empty_iff (cause := .cancelled) (r := r) (h := 1) nofun nofun).mp ∘ not_not_intro)
        obtain ⟨slots, bay, out⟩ := windDown_left (s := s.quiet) active left
        rw [bay, out]
        refine ⟨congrArg (fun v => look v n) slots, rfl, rfl, endHalf_drops nofun nofun, endHalf_drops nofun nofun, ?_⟩
        exact ite_congr (propext (and_congr_left' (or_iff_right stopped))) (fun _ => rfl) fun _ => rfl
    · exact thenSettles_cancel run up taken (reads.trans (endAtBoundary_leaves (s := s.quiet) active left))

end Sys2Proof.Machine
end

section
/-! SUPPORT. The ends of a bay's reads that one event brings (R119, R121, R123): the waiting ones in queue order, then the active one. -/

namespace Sys2Proof.Machine

/-! ## The waiting reads -/

section Waiting
variable {b : BayId} {cause : EndCause}

theorem endWaitingRead_rest (r : Read) (s : State) :
    { endWaitingRead b cause r s with bays := s.bays, slots := s.slots, attnDone := s.attnDone } = s := by
  have rest := complete_rest r.slot (endStatus cause) .none (.read (unstartedResult r))
    (s.onBay b fun y => { y with waiting := y.waiting.filter (·.slot != r.slot) })
  exact congrArg (fun v : State => { v with bays := s.bays, slots := s.slots, attnDone := s.attnDone }) rest

theorem complete_otherSlot {n m : SlotId} (other : m ≠ n) (st : Status) (why : Reason) (body : Body) (s : State) :
    (complete n st why body s).slot m = s.slot m := by
  unfold complete
  split
  · exact slot_onSlot_ne s (Ne.symm other) _
  · rfl

theorem endWaitingRead_otherSlot (r : Read) (s : State) {m : SlotId} (other : m ≠ r.slot) :
    (endWaitingRead b cause r s).slot m = s.slot m := complete_otherSlot other _ _ _ _

theorem endWaitingRead_bay (r : Read) (s : State) : ∃ last counts, (endWaitingRead b cause r s).bay b =
    { s.bay b with waiting := (s.bay b).waiting.filter (·.slot != r.slot), last := last, counts := counts } := by
  have bays := complete_bays r.slot (endStatus cause) .none (.read (unstartedResult r))
    (s.onBay b fun y => { y with waiting := y.waiting.filter (·.slot != r.slot) })
  have bay := (congrArg (fun v => look v b) bays).trans
    (bay_onBay_same s b fun y => { y with waiting := y.waiting.filter (·.slot != r.slot) })
  unfold endWaitingRead recordRead
  rw [bay_onBay_same]
  generalize complete r.slot (endStatus cause) .none (.read (unstartedResult r))
    (s.onBay b fun y => { y with waiting := y.waiting.filter (·.slot != r.slot) }) = v at *
  have bayNow : v.bay b = { s.bay b with waiting := (s.bay b).waiting.filter (·.slot != r.slot) } := bay
  rw [bayNow]
  exact ⟨_, _, rfl⟩

theorem endWaiting_rest (l : List Read) (s : State) :
    { forEach l (endWaitingRead b cause) s with bays := s.bays, slots := s.slots, attnDone := s.attnDone } = s := by
  induction l generalizing s with
  | nil => rfl
  | cons r rest ih =>
    rw [forEach_cons]
    have first := endWaitingRead_rest (b := b) (cause := cause) r s
    generalize endWaitingRead b cause r s = v at *
    exact (congrArg (fun u : State => { u with bays := s.bays, slots := s.slots, attnDone := s.attnDone }) (ih v)).trans first

theorem endWaiting_bay (l : List Read) (s : State) : ∃ last counts, (forEach l (endWaitingRead b cause) s).bay b =
    { s.bay b with waiting := (s.bay b).waiting.filter (fun x => l.all fun r => x.slot != r.slot), last := last, counts := counts } := by
  induction l generalizing s with
  | nil =>
    have all : (s.bay b).waiting.filter (fun x => ([] : List Read).all fun r => x.slot != r.slot) = (s.bay b).waiting :=
      List.filter_eq_self.mpr fun _ _ => rfl
    rw [all]
    exact ⟨_, _, rfl⟩
  | cons r rest ih =>
    rw [forEach_cons]
    obtain ⟨last, counts, first⟩ := endWaitingRead_bay (b := b) (cause := cause) r s
    obtain ⟨last', counts', then'⟩ := ih (endWaitingRead b cause r s)
    refine ⟨last', counts', then'.trans ?_⟩
    rw [first]
    have both : ((s.bay b).waiting.filter (·.slot != r.slot)).filter (fun x => rest.all fun r => x.slot != r.slot) =
        (s.bay b).waiting.filter fun x => (r :: rest).all fun r => x.slot != r.slot := by
      rw [List.filter_filter]
      exact List.filter_congr fun x _ => (Bool.and_comm _ _).trans rfl
    exact congrArg (fun w => { s.bay b with waiting := w, last := last', counts := counts' }) both

/-- R119: the slot of a read that ends while waiting. -/
theorem endWaiting_done (l : List Read) (s : State) {m : SlotId} (taken : (s.slot m).state = .taken) (ends : ∃ r ∈ l, r.slot = m) :
    ((forEach l (endWaitingRead b cause) s).slot m).state = .done
      ∧ ((forEach l (endWaitingRead b cause) s).slot m).status = endStatus cause := by
  induction l generalizing s with
  | nil =>
    obtain ⟨r, mem, _⟩ := ends
    exact absurd mem List.not_mem_nil
  | cons r rest ih =>
    rw [forEach_cons]
    by_cases own : r.slot = m
    · subst own
      have done : (endWaitingRead b cause r s).slot r.slot = { s.slot r.slot with
          state := .done, status := endStatus cause, reason := .none, completedAt := s.clock, body := .read (unstartedResult r) } := by
        rw [endWaitingRead_taken taken]
        exact slot_onSlot_same _ _ _
      have stays := (BayWork.all (b := b) (f := endWaitingRead b cause) (fun r _ => .endWaitingRead cause r) rest
        (endWaitingRead b cause r s)).settled r.slot (by rw [done]; nofun)
      rw [stays, done]
      exact ⟨rfl, rfl⟩
    · refine ih _ ?_ ?_
      · rw [endWaitingRead_otherSlot r s (Ne.symm own)]
        exact taken
      · obtain ⟨x, mem, isM⟩ := ends
        rcases List.mem_cons.mp mem with rfl | mem
        · exact absurd isM own
        · exact ⟨x, mem, isM⟩

theorem endWaiting_otherSlot (l : List Read) (s : State) {m : SlotId} (others : ∀ r ∈ l, m ≠ r.slot) :
    (forEach l (endWaitingRead b cause) s).slot m = s.slot m := by
  induction l generalizing s with
  | nil => rfl
  | cons r rest ih =>
    rw [forEach_cons, ih _ fun x mem => others x (List.mem_cons_of_mem _ mem)]
    exact endWaitingRead_otherSlot r s (others r List.mem_cons_self)

theorem endWaitingReads_bay (s : State) : ∃ last counts, (endWaitingReads b cause s).bay b =
    { s.bay b with waiting := [], last := last, counts := counts } := by
  obtain ⟨last, counts, bay⟩ := endWaiting_bay (b := b) (cause := cause) (s.bay b).waiting s
  refine ⟨last, counts, bay.trans ?_⟩
  have none : (s.bay b).waiting.filter (fun x => (s.bay b).waiting.all fun r => x.slot != r.slot) = [] := by
    refine List.filter_eq_nil_iff.mpr fun x mem all => ?_
    simpa using List.all_eq_true.mp all x mem
  rw [none]

end Waiting

/-! ## The active read, with no read to follow -/

theorem Bay.next_still {y : Bay} (alone : y.waiting = []) :
    y.next = { y with state := if y.state = .ready ∨ y.state = .reading then .ready else y.state } := by
  by_cases ready : y.state = .ready ∨ y.state = .reading
  · rw [Bay.next_nil ready alone, if_pos ready]
  · rw [Bay.next_off ready, if_neg ready]

theorem Bay.nextSends_still {b : BayId} {y : Bay} (alone : y.waiting = []) : y.nextSends b = [] := by
  unfold Bay.nextSends
  split
  · rw [alone]
    rfl
  · rfl

theorem queueMovesOn_still {b : BayId} {s : State} (alone : (s.bay b).waiting = []) : (queueMovesOn b s).slots = s.slots := by
  by_cases ready : (s.bay b).state = .ready ∨ (s.bay b).state = .reading
  · have still : ((s.onBay b fun y => { y with state := .ready }).bay b).waiting = [] := by rw [bay_onBay_same]; exact alone
    rw [queueMovesOn_ready ready]
    simp only [activateNext, still]
    rfl
  · rw [queueMovesOn_off ready]

theorem finishRead_otherSlot {b : BayId} {r : Read} {st : Status} {s : State} (alone : (s.bay b).waiting = []) {m : SlotId}
    (other : m ≠ r.slot) : (finishRead b r st s).slot m = s.slot m := by
  have slots := queueMovesOn_still (b := b) (s := readCompleted b r st s) (by rw [readCompleted_bay]; exact alone)
  rw [finishRead_eq, show (queueMovesOn b (readCompleted b r st s)).slot m = (readCompleted b r st s).slot m from
    congrArg (fun v => look v m) slots]
  exact complete_otherSlot other _ _ _ _

/-- What a read's end leaves of its bay, whatever its cause: the card, its identification, the contact and the latched conditions. -/
def Bay.face (y : Bay) : Bay :=
  { y with state := .empty, run := .idle, block := .stopped, active := none, half0 := Half.reset, half1 := Half.reset, giveBackWait := false,
           waitLength := 0, waitLimit := false, last := none, counts := { y.counts with readsOk := 0, readsOther := 0 } }

theorem face_state (y : Bay) (state : BayState) : { y with state := state }.face = y.face := rfl

theorem face_cleared (n : SlotId) (st : Status) (clock : W32) (y : Bay) : (y.cleared n st clock).face = y.face := by
  unfold Bay.cleared Bay.face
  split <;> rfl

theorem endHalf_reset {cause : EndCause} {r : Read} {h : Fin 2} {v : Half} (empty : (endHalf cause r h v).state = .empty) :
    endHalf cause r h v = Half.reset := by
  cases state : v.state with
  | empty => exact endHalf_open (.inl state)
  | filling => exact endHalf_open (.inr state)
  | writing =>
    rw [endHalf_writing state, state] at empty
    exact absurd empty nofun
  | full =>
    rw [endHalf_full state] at empty ⊢
    split at empty
    · rw [state] at empty
      exact absurd empty nofun
    · next dropped => exact if_neg dropped

section Alone
variable {b : BayId} {cause : EndCause} {r : Read} {s : State} (active : (s.bay b).active = some r) (alone : (s.bay b).waiting = [])
include active alone

/-- R119: a read whose end finds no half left to write, with no read to follow. -/
theorem windDown_alone (empty0 : (endHalf cause r 0 (s.bay b).half0).state = .empty)
    (empty1 : (endHalf cause r 1 (s.bay b).half1).state = .empty) :
    (windDown b cause s).bay b =
        { (s.bay b).cleared r.slot (endStatus cause) s.clock with
          state := if (s.bay b).state = .ready ∨ (s.bay b).state = .reading then .ready else (s.bay b).state }
      ∧ (windDown b cause s).out = s.out
          ++ (if ((s.bay b).run = .running ∨ (s.bay b).run = .clockStopped) ∧ (s.bay b).card.isSome = true then [.halt b] else []) := by
  obtain ⟨bay, out⟩ := windDown_moves active empty0 empty1
  rw [Bay.next_still (y := (s.bay b).cleared r.slot (endStatus cause) s.clock) alone] at bay
  rw [Bay.nextSends_still alone, List.append_nil] at out
  exact ⟨bay, out⟩

omit alone in
theorem windDown_alone_left (left : (endHalf cause r 0 (s.bay b).half0).state ≠ .empty ∨ (endHalf cause r 1 (s.bay b).half1).state ≠ .empty) :
    (windDown b cause s).bay b = (s.bay b).wound cause r ∧ (windDown b cause s).out = s.out
      ++ (if ((s.bay b).run = .running ∨ (s.bay b).run = .clockStopped) ∧ (s.bay b).card.isSome = true then [.halt b] else []) :=
  (windDown_left active left).2

/-- The bay of a read that has wound down, whether or not its halves are written. -/
theorem windDown_bay : ((windDown b cause s).bay b).run = .idle ∧ ((windDown b cause s).bay b).block = .stopped
    ∧ ((windDown b cause s).bay b).giveBackWait = false
    ∧ ((windDown b cause s).bay b).half0 = endHalf cause r 0 (s.bay b).half0
    ∧ ((windDown b cause s).bay b).half1 = endHalf cause r 1 (s.bay b).half1
    ∧ ((windDown b cause s).bay b).face = (s.bay b).face
    ∧ (¬((s.bay b).state = .ready ∨ (s.bay b).state = .reading) → ((windDown b cause s).bay b).state = (s.bay b).state)
    ∧ (windDown b cause s).out = s.out
      ++ (if ((s.bay b).run = .running ∨ (s.bay b).run = .clockStopped) ∧ (s.bay b).card.isSome = true then [.halt b] else []) := by
  by_cases left : (endHalf cause r 0 (s.bay b).half0).state ≠ .empty ∨ (endHalf cause r 1 (s.bay b).half1).state ≠ .empty
  · obtain ⟨bay, out⟩ := windDown_alone_left active left
    rw [bay]
    exact ⟨rfl, rfl, rfl, rfl, rfl, rfl, fun _ => rfl, out⟩
  · simp only [not_or, Classical.not_not] at left
    obtain ⟨bay, out⟩ := windDown_alone active alone left.1 left.2
    rw [bay]
    exact ⟨rfl, rfl, rfl, (endHalf_reset left.1).symm, (endHalf_reset left.2).symm, (face_state _ _).trans (face_cleared _ _ _ _), fun off => if_neg off, out⟩

/-- The active read of a bay that has wound down. -/
theorem windDown_active (taken : (s.slot r.slot).state = .taken) :
    (((windDown b cause s).bay b).half0.state = .empty → ((windDown b cause s).bay b).half1.state = .empty →
        ((windDown b cause s).bay b).active = none ∧ (windDown b cause s).slot r.slot =
          { s.slot r.slot with state := .done, status := endStatus cause, reason := .none, completedAt := s.clock,
                               body := .read (finalReadResult (countPartial r)) })
      ∧ (((windDown b cause s).bay b).half0.state ≠ .empty ∨ ((windDown b cause s).bay b).half1.state ≠ .empty →
        ((windDown b cause s).bay b).active = some { r with ended := some cause, mark := none }
          ∧ (windDown b cause s).slot r.slot = s.slot r.slot) := by
  obtain ⟨_, _, _, half0, half1, _⟩ := windDown_bay (cause := cause) active alone
  rw [half0, half1]
  refine ⟨fun empty0 empty1 => ⟨?_, windDown_slot active empty0 empty1 taken⟩, fun left => ?_⟩
  · rw [(windDown_alone active alone empty0 empty1).1]
    rfl
  · obtain ⟨slots, bay, _⟩ := windDown_left active left
    exact ⟨by rw [bay]; rfl, congrArg (fun v => look v r.slot) slots⟩

theorem windDown_otherSlot {m : SlotId} (other : m ≠ r.slot) : (windDown b cause s).slot m = s.slot m := by
  by_cases left : (endHalf cause r 0 (s.bay b).half0).state ≠ .empty ∨ (endHalf cause r 1 (s.bay b).half1).state ≠ .empty
  · exact congrArg (fun v => look v m) (windDown_left active left).1
  · simp only [not_or, Classical.not_not] at left
    rw [windDown_completes active left.1 left.2]
    refine finishRead_otherSlot (by rw [wound_bay]; exact alone) ?_
    rw [slot_countPartial]
    exact other

end Alone

end Sys2Proof.Machine
end

section
/-! SUPPORT. Cards: contacts, arrival and identification (R104 to R107), and the removal of a card (R105, R121). -/

namespace Sys2Proof.Machine

/-! ## The removal of an accepted card (R105, R121) -/

/-- The bay as its card goes. -/
def Bay.gone (y : Bay) : Bay :=
  { y with contact := false, state := .empty, card := none, identify := .stopped, identifySends := 0,
           latched := { y.latched with removedDuringRead := y.latched.removedDuringRead || (y.active.isSome && halfFilling y) } }

/-- State once the waiting reads have gone with the card. -/
def waitingGone (b : BayId) (s : State) : State := endWaitingReads b .cardGone (s.onBay b Bay.gone)

section Gone
variable {b : BayId} {s : State}

theorem waitingGone_bay : ∃ last counts, (waitingGone b s).bay b = { (s.bay b).gone with waiting := [], last := last, counts := counts } := by
  obtain ⟨last, counts, bay⟩ := endWaitingReads_bay (b := b) (cause := .cardGone) (s.onBay b Bay.gone)
  rw [bay_onBay_same] at bay
  exact ⟨last, counts, bay⟩

theorem waitingGone_work : BayWork b s (waitingGone b s) := (BayWork.onBay _).trans (.endWaitingReads _)

theorem waitingGone_out : (waitingGone b s).out = s.out :=
  (congrArg State.out (endWaiting_rest (b := b) (cause := .cardGone) ((s.onBay b Bay.gone).bay b).waiting (s.onBay b Bay.gone)) :)

theorem waitingGone_done {r : Read} (mem : r ∈ (s.bay b).waiting) (taken : (s.slot r.slot).state = .taken) :
    ((waitingGone b s).slot r.slot).state = .done ∧ ((waitingGone b s).slot r.slot).status = .cardGone := by
  unfold waitingGone endWaitingReads
  rw [bay_onBay_same]
  exact endWaiting_done (b := b) (cause := .cardGone) _ (s.onBay b Bay.gone) taken ⟨r, mem, rfl⟩

theorem waitingGone_otherSlot {m : SlotId} (others : ∀ r ∈ (s.bay b).waiting, m ≠ r.slot) : (waitingGone b s).slot m = s.slot m := by
  unfold waitingGone endWaitingReads
  rw [bay_onBay_same]
  exact endWaiting_otherSlot (b := b) (cause := .cardGone) _ (s.onBay b Bay.gone) others

/-- What remains of a bay whose card has gone, whatever its active read does. -/
structure CardGone (b : BayId) (s v : State) : Prop where
  work : BayWork b s v
  state : (v.bay b).state = .empty
  waiting : (v.bay b).waiting = []
  card : (v.bay b).card = none
  contact : (v.bay b).contact = false
  identify : (v.bay b).identify = .stopped
  generation : (v.bay b).generation = (s.bay b).generation
  latched : (v.bay b).latched = (s.bay b).gone.latched
  out : v.out = s.out
  done : ∀ r ∈ (s.bay b).waiting, (s.slot r.slot).state = .taken → (v.slot r.slot).state = .done ∧ (v.slot r.slot).status = .cardGone

theorem waitingGone_cardGone : CardGone b s (waitingGone b s) := by
  obtain ⟨last, counts, bay⟩ := waitingGone_bay (b := b) (s := s)
  exact { work := waitingGone_work, state := by rw [bay]; rfl, waiting := by rw [bay], card := by rw [bay]; rfl,
          contact := by rw [bay]; rfl, identify := by rw [bay]; rfl, generation := by rw [bay]; rfl, latched := by rw [bay],
          out := waitingGone_out, done := fun r => waitingGone_done }

theorem cardGone_windDown {r : Read} {cause : EndCause} {v : State} (gone : CardGone b s v) (active : (v.bay b).active = some r) :
    CardGone b s (windDown b cause v) := by
  obtain ⟨_, _, _, _, _, face, state, out⟩ := windDown_bay (cause := cause) active gone.waiting
  have off : ¬((v.bay b).state = .ready ∨ (v.bay b).state = .reading) := by rw [gone.state]; decide
  have noHalt : ¬(((v.bay b).run = .running ∨ (v.bay b).run = .clockStopped) ∧ (v.bay b).card.isSome = true) := by
    rw [gone.card]
    exact fun both => absurd both.2 (by decide)
  have work : BayWork b v (windDown b cause v) := .windDown cause
  rw [if_neg noHalt, List.append_nil] at out
  exact { work := gone.work.trans work, state := (state off).trans gone.state,
          waiting := (congrArg Bay.waiting face :).trans gone.waiting, card := (congrArg Bay.card face :).trans gone.card,
          contact := (congrArg Bay.contact face :).trans gone.contact, identify := (congrArg Bay.identify face :).trans gone.identify,
          generation := (congrArg Bay.generation face :).trans gone.generation,
          latched := (congrArg Bay.latched face :).trans gone.latched, out := out.trans gone.out,
          done := fun r mem taken => by
            obtain ⟨done, status⟩ := gone.done r mem taken
            rw [work.settled r.slot (by rw [done]; decide)]
            exact ⟨done, status⟩ }

theorem removeCard_eq : removeCard b s = evalLamps b (match ((waitingGone b s).bay b).active with
    | some r => if pastLastBoundary ((waitingGone b s).bay b) r then waitingGone b s else endAtOnce b .cardGone (waitingGone b s)
    | none => waitingGone b s) := rfl

theorem waitingGone_active : ((waitingGone b s).bay b).active = (s.bay b).active ∧ ((waitingGone b s).bay b).half0 = (s.bay b).half0
    ∧ ((waitingGone b s).bay b).half1 = (s.bay b).half1 ∧ ((waitingGone b s).bay b).giveBackWait = (s.bay b).giveBackWait := by
  obtain ⟨last, counts, bay⟩ := waitingGone_bay (b := b) (s := s)
  rw [bay]
  exact ⟨rfl, rfl, rfl, rfl⟩

theorem pastLastBoundary_iff (y : Bay) (r : Read) : pastLastBoundary y r = true ↔ r.accepted = r.count ∧ y.giveBackWait = false := by
  rw [pastLastBoundary, Bool.and_eq_true, beq_iff_eq, Bool.not_eq_true']

theorem endAtOnce_ended {cause : EndCause} {r : Read} (active : (s.bay b).active = some r) (ends : r.ended.isSome = true) :
    endAtOnce b cause s = s := by
  simp only [endAtOnce, active]
  exact if_pos ends

theorem endAtOnce_winds {cause : EndCause} {r : Read} (active : (s.bay b).active = some r) (goesOn : r.ended = none) :
    endAtOnce b cause s = windDown b (r.mark.getD cause) s := by
  simp only [endAtOnce, active]
  exact if_neg (by rw [goesOn]; decide)

/-- With no active read, or one that ends already or is past its last boundary, the card goes and no more. -/
theorem removeCard_leaves (left : ∀ r, (s.bay b).active = some r → r.ended.isSome = true ∨ (r.accepted = r.count ∧ (s.bay b).giveBackWait = false)) :
    removeCard b s = evalLamps b (waitingGone b s) := by
  obtain ⟨active, _, _, wait⟩ := waitingGone_active (b := b) (s := s)
  rw [removeCard_eq]
  refine congrArg (evalLamps b) ?_
  split
  · next r here =>
    split
    · rfl
    · next notPast =>
      rcases left r (active.symm.trans here) with ends | past
      · exact endAtOnce_ended here ends
      · exact absurd ((pastLastBoundary_iff _ _).mpr ⟨past.1, wait.trans past.2⟩) notPast
  · rfl

theorem removeCard_ends {r : Read} (here : (s.bay b).active = some r) (goesOn : r.ended = none)
    (within : r.accepted ≠ r.count ∨ (s.bay b).giveBackWait = true) :
    removeCard b s = evalLamps b (windDown b (r.mark.getD .cardGone) (waitingGone b s)) := by
  obtain ⟨active, _, _, wait⟩ := waitingGone_active (b := b) (s := s)
  have notPast : ¬pastLastBoundary ((waitingGone b s).bay b) r = true := fun past => by
    obtain ⟨all, noWait⟩ := (pastLastBoundary_iff _ _).mp past
    rcases within with more | waits
    · exact more all
    · exact absurd (waits.symm.trans (wait.symm.trans noWait)) (by decide)
  rw [removeCard_eq]
  simp only [active, here]
  exact congrArg (evalLamps b) ((if_neg notPast).trans (endAtOnce_winds (active.trans here) goesOn))

/-- The active read of a bay either goes on as it was, or ends with the card. -/
theorem read_stays_or_ends (y : Bay) :
    (∀ r, y.active = some r → r.ended.isSome = true ∨ (r.accepted = r.count ∧ y.giveBackWait = false))
      ∨ ∃ r, y.active = some r ∧ r.ended = none ∧ (r.accepted ≠ r.count ∨ y.giveBackWait = true) := by
  cases active : y.active with
  | none => exact .inl fun r none => absurd none.symm (Option.some_ne_none r)
  | some r =>
    by_cases finishing : r.ended.isSome = true ∨ (r.accepted = r.count ∧ y.giveBackWait = false)
    · left
      intro x same
      rwa [← Option.some.inj same]
    · obtain ⟨goesOn, within⟩ := not_or.mp finishing
      refine .inr ⟨r, rfl, Option.not_isSome_iff_eq_none.mp goesOn, ?_⟩
      by_cases all : r.accepted = r.count
      · exact .inr ((Bool.not_eq_false _).mp fun noWait => within ⟨all, noWait⟩)
      · exact .inl all

/-- R105, R121: what the removal of a card leaves, whatever the active read. -/
theorem removeCard_cardGone : ∃ v, removeCard b s = evalLamps b v ∧ CardGone b s v := by
  rcases read_stays_or_ends (s.bay b) with left | ⟨r, here, goesOn, within⟩
  · exact ⟨_, removeCard_leaves left, waitingGone_cardGone⟩
  · exact ⟨_, removeCard_ends here goesOn within,
      cardGone_windDown waitingGone_cardGone (waitingGone_active.1.trans here)⟩

end Gone

section Removed
variable {b : BayId} {s : State}

/-- R121: a removed card's active read that ends: its halves, and its slot once nothing is left to write. -/
theorem removeCard_active {r : Read} {cause : EndCause} (here : (s.bay b).active = some r) (goesOn : r.ended = none)
    (within : r.accepted ≠ r.count ∨ (s.bay b).giveBackWait = true) (isCause : cause = r.mark.getD .cardGone)
    (taken : (s.slot r.slot).state = .taken) (notWaiting : ∀ x ∈ (s.bay b).waiting, x.slot ≠ r.slot) :
    ((removeCard b s).bay b).run = .idle ∧ ((removeCard b s).bay b).block = .stopped ∧ ((removeCard b s).bay b).giveBackWait = false
      ∧ ((removeCard b s).bay b).half0 = endHalf cause r 0 (s.bay b).half0
      ∧ ((removeCard b s).bay b).half1 = endHalf cause r 1 (s.bay b).half1
      ∧ (((removeCard b s).bay b).half0.state = .empty → ((removeCard b s).bay b).half1.state = .empty →
          ((removeCard b s).bay b).active = none ∧ (removeCard b s).slot r.slot =
            { s.slot r.slot with state := .done, status := endStatus cause, reason := .none, completedAt := s.clock,
                                 body := .read (finalReadResult (countPartial r)) })
      ∧ (((removeCard b s).bay b).half0.state ≠ .empty ∨ ((removeCard b s).bay b).half1.state ≠ .empty →
          ((removeCard b s).bay b).active = some { r with ended := some cause, mark := none }
            ∧ (removeCard b s).slot r.slot = s.slot r.slot) := by
  rw [removeCard_ends here goesOn within, ← isCause]
  obtain ⟨active, half0, half1, _⟩ := waitingGone_active (b := b) (s := s)
  have alone : ((waitingGone b s).bay b).waiting = [] := waitingGone_cardGone.waiting
  have slot : (waitingGone b s).slot r.slot = s.slot r.slot := waitingGone_otherSlot fun x mem => Ne.symm (notWaiting x mem)
  have clock : (waitingGone b s).clock = s.clock := waitingGone_work.clock
  generalize waitingGone b s = v at *
  have activeNow := active.trans here
  obtain ⟨run, block, wait, now0, now1, _⟩ := windDown_bay (cause := cause) activeNow alone
  have ends := windDown_active (cause := cause) activeNow alone (by rw [slot]; exact taken)
  rw [slot, clock] at ends
  exact ⟨run, block, wait, now0.trans (congrArg _ half0), now1.trans (congrArg _ half1), ends⟩

end Removed

/-! ## Contacts, arrival and identification (R104, R105, R107) -/

/-- R104: the settle timer's end, where the card settles. -/
def settleEnds (b : BayId) (t : State) : State :=
  if (t.bay b).state = .settling ∧ (t.bay b).settle.isRunning = true then acceptArrival b t else t

/-- R107: an answer, where one is awaited. -/
def identityAnswered (b : BayId) (capacity serial : W32) (check : W16) (t : State) : State :=
  if (t.bay b).state = .identifying ∧ (t.bay b).identify.isRunning = true then identityAnswer b capacity serial check t else t

/-- R107: the answer limit's end, where one is awaited. -/
def identityLate (b : BayId) (t : State) : State :=
  if (t.bay b).state = .identifying ∧ (t.bay b).identify.isRunning = true then identifyFailed b t else t

section Cards
variable {b : BayId} {s : State}

theorem acceptArrival_eq : acceptArrival b s = cardArrival b ((s.onBay b fun y =>
    { y with generation := y.generation + 1, state := .identifying, settle := .stopped, identifySends := 1,
             identify := .running 100, counts := { y.counts with cardsAccepted := bump y.counts.cardsAccepted } }).emit (.identify b)) :=
  congrArg (fun v => cardArrival b (State.emit v (.identify b))) (onBay_onBay s b _ _)

theorem identifyFailed_again (first : (s.bay b).identifySends < 2) : identifyFailed b s =
    (s.onBay b fun y => { y with identifySends := y.identifySends + 1, identify := .running 100 }).emit (.identify b) := if_pos first

theorem identifyFailed_faults (second : 2 ≤ (s.bay b).identifySends) : identifyFailed b s =
    evalLamps b (s.onBay b fun y =>
      { y with state := .faulted, identify := .stopped, latched := { y.latched with identFault := true } }) := if_neg (Nat.not_lt.mpr second)

theorem identityAnswer_good {capacity serial : W32} {check : W16} (right : check = identityCheck capacity serial) (card : capacity ≠ 0#32)
    (alone : (s.bay b).waiting = []) : identityAnswer b capacity serial check s = s.onBay b fun y =>
      { y with card := some { capacity := capacity.toNat, serial := serial, identifiedAt := s.clock }, state := .ready, identify := .stopped } := by
  have still : ((s.onBay b fun y =>
      { y with card := some { capacity := capacity.toNat, serial := serial, identifiedAt := s.clock }, state := .ready,
               identify := .stopped }).bay b).waiting = [] := by rw [bay_onBay_same]; exact alone
  unfold identityAnswer
  refine (if_pos ⟨right, card⟩).trans ?_
  simp only [activateNext, still]
  exact ite_self _

theorem identityAnswer_bad {capacity serial : W32} {check : W16} (bad : capacity = 0#32 ∨ check ≠ identityCheck capacity serial) :
    identityAnswer b capacity serial check s = identifyFailed b s :=
  if_neg fun both => bad.elim both.2 fun wrong => wrong both.1

theorem cardArrival_known {k : SessionId} (session : (s.station b).session = some k) : cardArrival b s = restartForStation b s := by
  simp only [cardArrival, restartForStation, session]

theorem cardArrival_opens {k : SessionId} (none : (s.station b).session = none) (free : (s.session k).state = .free)
    (below : ∀ j, j < k → (s.session j).state ≠ .free) : cardArrival b s = openSessionAt b k s := by
  simp only [cardArrival, none, lowestFree_eq free below]

theorem cardArrival_full (none : (s.station b).session = none) (full : ∀ k, (s.session k).state ≠ .free) :
    cardArrival b s = (s.onStation b fun t => { t with noRoomLive := true, noRoomLatched := true }).markUnit (stationUnit b) := by
  simp only [cardArrival, none, lowestFree_none full]

theorem openContact_accepted (notEmpty : (s.bay b).state ≠ .empty) (notSettling : (s.bay b).state ≠ .settling) :
    openContact b s = settle s (removeCard b s) := by
  unfold openContact
  split
  · next state => exact absurd state notEmpty
  · next state => exact absurd state notSettling
  all_goals rfl

end Cards

/-- R105, R121: the removal of a card by the contact's opening, as the obligation lists it. -/
theorem removeCard_half {r : Read} {cause : EndCause} {h : Fin 2} {v w : Half} (isW : w = endHalf cause r h v)
    (causes : (r.mark = none ∧ cause = .cardGone) ∨ (r.mark.isSome = true ∧ cause ≠ .readFault ∧ cause ≠ .cardGone)) :
    (v.state = .writing → w = v) ∧ (v.state = .empty ∨ v.state = .filling → w.state = .empty)
      ∧ (v.state = .full → r.mark.isSome = true ∨ r.liveA = false ∨ (r.mode = .alternate ∧ r.liveB = false) → w.state = .empty)
      ∧ (v.state = .full → r.mark = none → r.liveA = true → r.mode = .single ∨ r.liveB = true →
        (r.mode = .single → w = v)
          ∧ ∀ block, block = (if h.val = r.delivered / 8 % 2 then r.delivered else r.delivered + 8) → r.mode = .alternate →
            (block * 512 / r.chunk < r.givenBack + 2 → w = v) ∧ (r.givenBack + 2 ≤ block * 512 / r.chunk → w.state = .empty)) := by
  obtain ⟨writing, open', drops, keeps⟩ := endHalf_outcome isW
  refine ⟨writing, open', fun full dead => ?_, fun full unmarked => ?_⟩
  · rcases causes with ⟨unmarked, isCause⟩ | ⟨_, noFault, cardThere⟩
    · have areasDead : areasLive r = false := by
        rw [unmarked] at dead
        unfold areasLive
        rcases dead with marked | deadA | ⟨mode, deadB⟩
        · exact absurd marked (by decide)
        · rw [deadA]; rfl
        · rw [mode, deadB, Bool.and_eq_false_iff]; exact .inr rfl
      have dropped : keepsHalf cause r h = false := by simp only [keepsHalf, areasDead, Bool.and_false, Bool.false_and]
      rw [isW, endHalf_full full, dropped]
      rfl
    · exact drops full noFault cardThere
  · rcases causes with ⟨_, isCause⟩ | ⟨marked, _⟩
    · exact keeps full (.inr isCause)
    · rw [unmarked] at marked
      exact absurd marked (by decide)

/-- The clause of O40 on an opening contact at an accepted card, for any state before the event. -/
theorem removeCard_clause (b : BayId) (s : State) :
    ((removeCard b s).bay b).state = .empty ∧ ((removeCard b s).bay b).card = none ∧ ((removeCard b s).bay b).contact = false
      ∧ ((removeCard b s).bay b).identify = .stopped ∧ ((removeCard b s).bay b).waiting = []
      ∧ ((removeCard b s).bay b).generation = (s.bay b).generation
      ∧ (((removeCard b s).bay b).latched.removedDuringRead = true ↔ (s.bay b).latched.removedDuringRead = true
          ∨ (s.bay b).active.isSome = true ∧ ((s.bay b).half0.state = .filling ∨ (s.bay b).half1.state = .filling))
      ∧ (∀ r ∈ (s.bay b).waiting, (s.slot r.slot).state = .taken →
          ((removeCard b s).slot r.slot).state = .done ∧ ((removeCard b s).slot r.slot).status = .cardGone)
      ∧ (removeCard b s).out = s.out
      ∧ (∀ r, (s.bay b).active = some r → r.ended.isSome = true ∨ (r.accepted = r.count ∧ (s.bay b).giveBackWait = false) →
          ((removeCard b s).bay b).active = some r ∧ ((removeCard b s).bay b).half0 = (s.bay b).half0
            ∧ ((removeCard b s).bay b).half1 = (s.bay b).half1)
      ∧ (∀ c, c ≠ b → (removeCard b s).bay c = s.bay c) ∧ (removeCard b s).orders = s.orders ∧ (removeCard b s).sessions = s.sessions
      ∧ (removeCard b s).terminal = s.terminal := by
  have leaves : ∀ r, (s.bay b).active = some r → r.ended.isSome = true ∨ (r.accepted = r.count ∧ (s.bay b).giveBackWait = false) →
      ((removeCard b s).bay b).active = some r ∧ ((removeCard b s).bay b).half0 = (s.bay b).half0
        ∧ ((removeCard b s).bay b).half1 = (s.bay b).half1 := by
    intro r here left
    obtain ⟨active, half0, half1, _⟩ := waitingGone_active (b := b) (s := s)
    rw [removeCard_leaves fun x same => Option.some.inj (here.symm.trans same) ▸ left]
    exact ⟨active.trans here, half0, half1⟩
  obtain ⟨v, isV, gone⟩ := removeCard_cardGone (b := b) (s := s)
  rw [isV] at leaves ⊢
  refine ⟨gone.state, gone.card, gone.contact, gone.identify, gone.waiting, gone.generation, ?_, gone.done, gone.out, leaves,
    fun c other => gone.work.bay_ne other, gone.work.orders, gone.work.sessions, gone.work.terminal⟩
  have latched : ((evalLamps b v).bay b).latched = (s.bay b).gone.latched := gone.latched
  rw [latched]
  simp only [Bay.gone, halfFilling, Bool.or_eq_true, Bool.and_eq_true, beq_iff_eq]

/-! ## O40 -/

/-- Settles O40. -/
theorem cardsArriveAndAreIdentified : Obligations.CardsArriveAndAreIdentified := by
  unfold Obligations.CardsArriveAndAreIdentified
  refine ⟨?_, ?_⟩
  · intro b s run
    refine ⟨fun empty => ?_, fun notEmpty => ?_, fun empty => ?_, fun settling => ?_, fun notEmpty notSettling => ?_,
      fun settling running => ?_, fun identifying awaited => ?_, fun notAwaited capacity serial check => ?_,
      fun k session => cardArrival_known session, fun k none free below => cardArrival_opens none free below,
      fun none full => cardArrival_full none full⟩
    · exact endsAs_congr (event_endsAs (closeContact b) { s with contactPins := upd s.contactPins b fun _ => true } run) (if_pos empty)
    · exact endsAs_congr (event_endsAs (closeContact b) { s with contactPins := upd s.contactPins b fun _ => true } run) (if_neg notEmpty)
    · refine endsAs_congr (event_endsAs (openContact b) { s with contactPins := upd s.contactPins b fun _ => false } run) ?_
      have state : (State.bay { s with contactPins := upd s.contactPins b fun _ => false }.quiet b).state = .empty := empty
      simp only [openContact, state]
      rfl
    · refine endsAs_congr (event_endsAs (openContact b) { s with contactPins := upd s.contactPins b fun _ => false } run) ?_
      have state : (State.bay { s with contactPins := upd s.contactPins b fun _ => false }.quiet b).state = .settling := settling
      simp only [openContact, state]
      rfl
    · let before : State := { s with contactPins := upd s.contactPins b fun _ => false }.quiet
      have clause := removeCard_clause b before
      refine ⟨removeCard b before, ?_, clause.1, ?_⟩
      · refine (event_next (openContact b) (s := { s with contactPins := upd s.contactPins b fun _ => false }) run).trans ?_
        exact congrArg _ (congrArg _ (openContact_accepted (s := before) notEmpty notSettling))
      obtain ⟨_, card, contact, identify, waiting, generation, latched, done, out, leaves, others, orders, sessions, terminal⟩ := clause
      refine ⟨card, contact, identify, waiting, generation, latched, done, out, leaves, ?_, others, orders, sessions, terminal⟩
      intro r cause st final here goesOn within causes isFinal taken notWaiting
      have isCause : cause = r.mark.getD .cardGone := by
        rcases causes with ⟨mark, isCause, _⟩ | ⟨mark, isCause, _⟩ | ⟨mark, isCause, _⟩ <;> rw [mark, isCause] <;> rfl
      have isStatus : endStatus cause = st := by
        rcases causes with ⟨_, isCause, isSt⟩ | ⟨_, isCause, isSt⟩ | ⟨_, isCause, isSt⟩ <;> rw [isCause, isSt] <;> rfl
      have marks : (r.mark = none ∧ cause = .cardGone) ∨ (r.mark.isSome = true ∧ cause ≠ .readFault ∧ cause ≠ .cardGone) := by
        rcases causes with ⟨mark, isCause, _⟩ | ⟨mark, isCause, _⟩ | ⟨mark, isCause, _⟩
        · exact .inl ⟨mark, isCause⟩
        · exact .inr (by rw [mark, isCause]; exact ⟨rfl, nofun, nofun⟩)
        · exact .inr (by rw [mark, isCause]; exact ⟨rfl, nofun, nofun⟩)
      obtain ⟨idle, block, wait, half0, half1, ends, lingers⟩ :=
        removeCard_active (s := before) here goesOn within isCause taken notWaiting
      have isPartial : final = countPartial r := isFinal
      refine ⟨idle, block, wait, ?_, fun empty0 empty1 => ?_, lingers⟩
      · rintro index v w (⟨rfl, rfl, isW⟩ | ⟨rfl, rfl, isW⟩)
        · exact removeCard_half (h := 0) (isW.trans half0) marks
        · exact removeCard_half (h := 1) (isW.trans half1) marks
      · obtain ⟨idleNow, slot⟩ := ends empty0 empty1
        rw [slot, isStatus, isPartial]
        exact ⟨idleNow, rfl, rfl, rfl⟩
    · refine endsAs_congr (event_endsAs (settleEnds b) s run) ?_
      exact (if_pos ⟨settling, running⟩).trans (acceptArrival_eq (s := s.quiet))
    · refine ⟨fun capacity serial card alone => ?_, fun first => ?_, fun second => ?_, fun capacity serial check bad => ?_⟩
      · refine endsAs_congr (event_endsAs (identityAnswered b capacity serial _) s run) ?_
        exact (if_pos ⟨identifying, awaited⟩).trans (identityAnswer_good (s := s.quiet) rfl card alone)
      · refine endsAs_congr (event_endsAs (identityLate b) s run) ?_
        exact (if_pos ⟨identifying, awaited⟩).trans (identifyFailed_again (s := s.quiet) first)
      · refine endsAs_congr (event_endsAs (identityLate b) s run) ?_
        exact (if_pos ⟨identifying, awaited⟩).trans (identifyFailed_faults (s := s.quiet) second)
      · have same : identityAnswered b capacity serial check s.quiet = identityLate b s.quiet :=
          ite_congr rfl (fun _ => identityAnswer_bad bad) fun _ => rfl
        exact (event_next (identityAnswered b capacity serial check) run).trans
          ((congrArg _ (congrArg _ same)).trans (event_next (identityLate b) run).symm)
    · refine endsAs_congr (event_endsAs (identityAnswered b capacity serial check) s run) (if_neg fun both => ?_)
      rcases notAwaited with state | stopped
      · exact state both.1
      · exact absurd (both.2.symm.trans stopped) (by decide)
  · intro b s off
    exact ⟨congrArg _ (if_neg off), congrArg _ (if_neg off)⟩

end Sys2Proof.Machine
end

section
/-! SUPPORT. The close of a session (R8): the orders it cancels, the reads it ends, its entry and its station. -/

namespace Sys2Proof.Machine

/-! ## The orders of a closing session (R8, step 2) -/

/-- The record of a cancelled order. -/
def cancelledRecord (clock : W32) (r : Order) : Order :=
  { r with state := .cancelled, hold := .none, placement := none, settleStatus := .none, closedAt := some clock }

theorem reportFinal_listed {o : OrderId} {s : State} (inUse : (s.session (s.order o).session).state ≠ .draining) : reportFinal o s = s :=
  if_neg fun all => inUse all.1

section Cancels
variable {s : State} {k : SessionId}

/-- With its session ACTIVE, a cancelled order changes its own record alone. -/
theorem makeCancelled_active {o : OrderId} (active : (s.session k).state = .active) (own : (s.order o).session = k) :
    makeCancelled o s = s.onOrder o (cancelledRecord s.clock) := by
  refine reportFinal_listed (s := s.onOrder o (cancelledRecord s.clock)) ?_
  rw [order_onOrder_same, show (cancelledRecord s.clock (s.order o)).session = k from own]
  change (s.session k).state ≠ .draining
  rw [active]
  decide

theorem cancelForClose_eq {o : OrderId} (active : (s.session k).state = .active) (own : (s.order o).session = k) :
    cancelForClose o s =
      if (s.order o).state = .draft ∨ (s.order o).state = .priced then s.onOrder o (cancelledRecord s.clock) else s := by
  unfold cancelForClose
  split
  · next state => rw [makeCancelled_active active own, if_pos (.inl state)]
  · next state => rw [makeCancelled_active active own, if_pos (.inr state)]
  · next notDraft notPriced => exact (if_neg fun either => either.elim notDraft notPriced).symm

/-- R8, step 2: every order of the list in DRAFT or PRICED is cancelled, and nothing else changes. -/
theorem cancelAll (l : List OrderId) (active : (s.session k).state = .active) (own : ∀ o ∈ l, (s.order o).session = k) :
    { forEach l cancelForClose s with orders := s.orders } = s
      ∧ ∀ o, (forEach l cancelForClose s).order o =
          if o ∈ l ∧ ((s.order o).state = .draft ∨ (s.order o).state = .priced) then cancelledRecord s.clock (s.order o) else s.order o := by
  induction l generalizing s with
  | nil => exact ⟨rfl, fun o => (if_neg fun both => absurd both.1 List.not_mem_nil).symm⟩
  | cons a rest ih =>
    rw [forEach_cons]
    have ownA := own a List.mem_cons_self
    have ownRest : ∀ o ∈ rest, (s.order o).session = k := fun o mem => own o (List.mem_cons_of_mem _ mem)
    rw [cancelForClose_eq active ownA]
    by_cases cancels : (s.order a).state = .draft ∨ (s.order a).state = .priced
    · rw [if_pos cancels]
      have sessionNow : ∀ o, ((s.onOrder a (cancelledRecord s.clock)).order o).session = (s.order o).session := by
        intro o
        by_cases same : a = o
        · subst same
          rw [order_onOrder_same]
          rfl
        · rw [order_onOrder_ne s same]
      obtain ⟨others, orders⟩ := ih (s := s.onOrder a (cancelledRecord s.clock)) active fun o mem => (sessionNow o).trans (ownRest o mem)
      refine ⟨congrArg (fun u : State => { u with orders := s.orders }) others, fun o => (orders o).trans ?_⟩
      by_cases same : a = o
      · subst same
        rw [order_onOrder_same, if_neg fun both => both.2.elim nofun nofun]
        exact (if_pos ⟨List.mem_cons_self, cancels⟩).symm
      · rw [order_onOrder_ne s same]
        exact ite_congr (propext (and_congr_left' (by rw [List.mem_cons, or_iff_right (Ne.symm same)]))) (fun _ => rfl) fun _ => rfl
    · rw [if_neg cancels]
      obtain ⟨others, orders⟩ := ih active ownRest
      refine ⟨others, fun o => (orders o).trans ?_⟩
      by_cases same : a = o
      · subst same
        rw [if_neg fun both => cancels both.2, if_neg fun both => cancels both.2]
      · exact ite_congr (propext (and_congr_left' (by rw [List.mem_cons, or_iff_right (Ne.symm same)]))) (fun _ => rfl) fun _ => rfl

end Cancels

/-! ## The station and the entry (R8, steps 4 and 5) -/

theorem steady_evalLamps (i j : StationId) (s : State) : ((evalLamps i s).station j).steady = (s.station j).steady := by
  unfold evalLamps
  by_cases same : i = j
  · subst same
    rw [station_onStation_same, steady_lampsOf]
  · rw [station_onStation_ne s same]

theorem station_clearNoRoom (s : State) (j : StationId) : (clearNoRoom s).station j = { s.station j with noRoomLive := false } := by
  refine forEach_all (f := fun i t =>
    if (t.station i).noRoomLive then (t.onStation i fun e => { e with noRoomLive := false }).markUnit (stationUnit i) else t)
    State.station (fun _ t => { t with noRoomLive := false }) (fun _ => True) (fun _ _ _ => trivial) ?_ ?_ s trivial j
  · intro i t _
    split
    · exact station_onStation_same t i _
    · next off =>
      rw [Bool.not_eq_true] at off
      rw [← off]
  · intro i c t _ ne
    split
    · exact station_onStation_ne t ne _
    · rfl

/-- State once the orders of a closing session are cancelled. -/
def ordersClosed (k : SessionId) (s : State) : State :=
  forEach (s.session k).orders cancelForClose (s.onSession k fun e => { e with deadline := none })

/-- R8: the close, once the entry has drained or become FREE. -/
def stationClosed (i : StationId) (k : SessionId) (cause : CloseCause) (clock : W32) (s : State) : State :=
  evalLamps i ((s.onStation i fun e => { e with session := none, last := some { index := k, cause := cause, clock := clock } }).markUnit
    (stationUnit i))

section Closes
variable {i : StationId} {k : SessionId} {cause : CloseCause} {clock : W32} {s : State}

theorem closeSession_eq : closeSession i k cause s = stationClosed i k cause s.clock (closeEntry k i (closeReads i (ordersClosed k s))) := by
  have list : ((s.onSession k fun e => { e with deadline := none }).session k).orders = (s.session k).orders := by
    rw [session_onSession_same]
  simp only [closeSession, ordersClosed, list]
  rfl

theorem closeReads_work : BayWork i s (closeReads i s) := (BayWork.endWaitingReads _).trans (.endAtBoundary _)

@[simp] theorem beyond_closeEntry : (closeEntry k i s).beyond = s.beyond := by
  unfold closeEntry
  split <;> simp

@[simp] theorem beyond_stationClosed : (stationClosed i k cause clock s).beyond = s.beyond := by simp [stationClosed]

/-- What the close does to the station, by what has become of the entry. -/
theorem station_stationClosed : ((stationClosed i k cause clock s).station i).session = none
    ∧ ((stationClosed i k cause clock s).station i).last = some { index := k, cause := cause, clock := clock }
    ∧ ((stationClosed i k cause clock s).station i).draining = (s.station i).draining
    ∧ ∀ j, ((stationClosed i k cause clock s).station j).noRoomLive = (s.station j).noRoomLive := by
  have here := steady_evalLamps i i ((s.onStation i fun e =>
    { e with session := none, last := some { index := k, cause := cause, clock := clock } }).markUnit (stationUnit i))
  have own := station_onStation_same s i fun e => { e with session := none, last := some { index := k, cause := cause, clock := clock } }
  have ownHere := here.trans (congrArg Station.steady own)
  refine ⟨(congrArg Station.session ownHere :), (congrArg Station.last ownHere :), (congrArg Station.draining ownHere :), fun j => ?_⟩
  have there := steady_evalLamps i j ((s.onStation i fun e =>
    { e with session := none, last := some { index := k, cause := cause, clock := clock } }).markUnit (stationUnit i))
  refine (congrArg Station.noRoomLive there :).trans ?_
  by_cases same : i = j
  · subst same
    exact (congrArg Station.noRoomLive own :)
  · exact (congrArg Station.noRoomLive (station_onStation_ne s same fun e =>
      { e with session := none, last := some { index := k, cause := cause, clock := clock } }) :)

theorem session_stationClosed (m : SessionId) : (stationClosed i k cause clock s).session m = s.session m := rfl

theorem closeEntry_drains (left : 0 < s.nonFinalCount k) :
    (closeEntry k i s).session k = { s.session k with state := .draining }
      ∧ ((closeEntry k i s).station i).draining = (s.station i).draining + 1 := by
  unfold closeEntry
  rw [if_pos left]
  exact ⟨session_onSession_same s k _, congrArg Station.draining (station_onStation_same _ i _)⟩

theorem closeEntry_frees (none : s.nonFinalCount k = 0) :
    (closeEntry k i s).session k = { s.session k with state := .free, orders := [], deadline := Option.none }
      ∧ ∀ j, (closeEntry k i s).station j = { s.station j with noRoomLive := false } := by
  unfold closeEntry
  rw [if_neg (by rw [none]; decide)]
  refine ⟨?_, fun j => station_clearNoRoom _ j⟩
  unfold freeEntry
  rw [session_clearNoRoom, session_onSession_same]

theorem nonFinalCount_pos (some' : ∃ o ∈ (s.session k).orders, nonFinal (s.order o) = true) : 0 < s.nonFinalCount k := by
  obtain ⟨o, mem, isNonFinal⟩ := some'
  exact List.length_pos_of_mem (List.mem_filter.mpr ⟨mem, isNonFinal⟩)

theorem nonFinalCount_zero (all : ∀ o ∈ (s.session k).orders, nonFinal (s.order o) = false) : s.nonFinalCount k = 0 := by
  unfold State.nonFinalCount
  rw [List.filter_eq_nil_iff.mpr fun o mem isNonFinal => by rw [all o mem] at isNonFinal; exact absurd isNonFinal (by decide)]
  rfl

end Closes

/-- The orders and the session table once the orders of a closing session are cancelled. -/
theorem ordersClosed_spec {k : SessionId} {s : State} (active : (s.session k).state = .active)
    (own : ∀ o ∈ (s.session k).orders, (s.order o).session = k) :
    { ordersClosed k s with orders := s.orders, sessions := s.sessions } = s
      ∧ (ordersClosed k s).session k = { s.session k with deadline := none }
      ∧ ∀ o, (ordersClosed k s).order o =
          if o ∈ (s.session k).orders ∧ ((s.order o).state = .draft ∨ (s.order o).state = .priced) then cancelledRecord s.clock (s.order o)
          else s.order o := by
  have activeNow : ((s.onSession k fun e => { e with deadline := none }).session k).state = .active := by
    rw [session_onSession_same]
    exact active
  obtain ⟨others, orders⟩ := cancelAll (s := s.onSession k fun e => { e with deadline := none }) (s.session k).orders activeNow own
  refine ⟨congrArg (fun u : State => { u with sessions := s.sessions }) others, ?_, orders⟩
  exact (congrArg (fun u : State => u.session k) others :).trans (session_onSession_same s k _)

/-! ## The reads of a closing session's bay (R8, step 3; R119) -/

section Reads
variable {b : BayId} {s : State}

theorem closeReads_waiting : ∃ last counts, (endWaitingReads b .sessionEnded s).bay b =
    { s.bay b with waiting := [], last := last, counts := counts } := endWaitingReads_bay s

theorem endWaitingReads_out {cause : EndCause} : (endWaitingReads b cause s).out = s.out :=
  (congrArg State.out (endWaiting_rest (b := b) (cause := cause) (s.bay b).waiting s) :)

theorem endWaitingReads_done {cause : EndCause} {r : Read} (mem : r ∈ (s.bay b).waiting) (taken : (s.slot r.slot).state = .taken) :
    ((endWaitingReads b cause s).slot r.slot).state = .done ∧ ((endWaitingReads b cause s).slot r.slot).status = endStatus cause :=
  endWaiting_done _ s taken ⟨r, mem, rfl⟩

theorem closeReads_done {r : Read} (mem : r ∈ (s.bay b).waiting) (taken : (s.slot r.slot).state = .taken) :
    ((closeReads b s).slot r.slot).state = .done ∧ ((closeReads b s).slot r.slot).status = .sessionEnded := by
  obtain ⟨done, status⟩ := endWaitingReads_done (b := b) (cause := .sessionEnded) mem taken
  have stays := (BayWork.endAtBoundary (b := b) (s := endWaitingReads b .sessionEnded s) .sessionEnded).settled r.slot
    (by rw [done]; decide)
  unfold closeReads
  rw [stays]
  exact ⟨done, status⟩

/-- The bay and what is sent of a close that leaves the active read alone. -/
theorem closeReads_leaves {r : Read} (here : (s.bay b).active = some r)
    (left : r.ended.isSome = true ∨ r.mark.isSome = true ∨ (r.accepted = r.count ∧ (s.bay b).giveBackWait = false)) :
    closeReads b s = endWaitingReads b .sessionEnded s := by
  obtain ⟨last, counts, bay⟩ := closeReads_waiting (b := b) (s := s)
  refine endAtBoundary_leaves (r := r) ?_ ?_
  · rw [bay]; exact here
  · rw [bay]; exact left

theorem closeReads_waiting_nil : ((closeReads b s).bay b).waiting = [] := by
  obtain ⟨last, counts, bay⟩ := closeReads_waiting (b := b) (s := s)
  have alone : ((endWaitingReads b .sessionEnded s).bay b).waiting = [] := by rw [bay]
  unfold closeReads endAtBoundary
  split
  · exact alone
  · next r active =>
    split
    · exact alone
    · split
      · exact (congrArg Bay.waiting (bay_onBay_same _ _ _)).trans alone
      · obtain ⟨_, _, _, _, _, face, _⟩ := windDown_bay (cause := .sessionEnded) active alone
        exact (congrArg Bay.waiting face :).trans alone

section Goes
variable {r : Read} (here : (s.bay b).active = some r) (goesOn : r.ended = none) (unmarked : r.mark = none)
  (within : r.accepted ≠ r.count ∨ (s.bay b).giveBackWait = true)
include here goesOn unmarked within

theorem closeReads_marks (running : (s.bay b).run = .running) :
    ((closeReads b s).bay b).active = some { r with mark := some .sessionEnded } ∧ ((closeReads b s).bay b).half0 = (s.bay b).half0
      ∧ ((closeReads b s).bay b).half1 = (s.bay b).half1 ∧ ((closeReads b s).bay b).run = .running ∧ (closeReads b s).out = s.out := by
  obtain ⟨last, counts, bay⟩ := closeReads_waiting (b := b) (s := s)
  have out := endWaitingReads_out (b := b) (cause := .sessionEnded) (s := s)
  unfold closeReads
  rw [endAtBoundary_marks (r := r) (by rw [bay]; exact here) goesOn unmarked (by rw [bay]; exact within) (by rw [bay]; exact running),
    bay_onBay_same, bay]
  exact ⟨rfl, rfl, rfl, running, out⟩

theorem closeReads_winds (stopped : (s.bay b).run ≠ .running) (taken : (s.slot r.slot).state = .taken)
    (notWaiting : ∀ x ∈ (s.bay b).waiting, x.slot ≠ r.slot) :
    ((closeReads b s).bay b).run = .idle ∧ ((closeReads b s).bay b).giveBackWait = false
      ∧ (closeReads b s).out = s.out ++ (if (s.bay b).run = .clockStopped ∧ (s.bay b).card.isSome = true then [.halt b] else [])
      ∧ ((closeReads b s).bay b).half0 = endHalf .sessionEnded r 0 (s.bay b).half0
      ∧ ((closeReads b s).bay b).half1 = endHalf .sessionEnded r 1 (s.bay b).half1
      ∧ (((closeReads b s).bay b).half0.state = .empty → ((closeReads b s).bay b).half1.state = .empty →
          ((closeReads b s).bay b).active = none ∧ (closeReads b s).slot r.slot =
            { s.slot r.slot with state := .done, status := .sessionEnded, reason := .none, completedAt := s.clock,
                                 body := .read (finalReadResult (countPartial r)) })
      ∧ (((closeReads b s).bay b).half0.state ≠ .empty ∨ ((closeReads b s).bay b).half1.state ≠ .empty →
          ((closeReads b s).bay b).active = some { r with ended := some .sessionEnded, mark := none }
            ∧ (closeReads b s).slot r.slot = s.slot r.slot) := by
  obtain ⟨last, counts, bay⟩ := closeReads_waiting (b := b) (s := s)
  have out := endWaitingReads_out (b := b) (cause := .sessionEnded) (s := s)
  have slot : (endWaitingReads b .sessionEnded s).slot r.slot = s.slot r.slot :=
    endWaiting_otherSlot _ s fun x mem => Ne.symm (notWaiting x mem)
  have clock := (BayWork.endWaitingReads (b := b) (s := s) .sessionEnded).clock
  have activeNow : ((endWaitingReads b .sessionEnded s).bay b).active = some r := by rw [bay]; exact here
  have winds : closeReads b s = windDown b .sessionEnded (endWaitingReads b .sessionEnded s) :=
    endAtBoundary_winds activeNow goesOn unmarked (by rw [bay]; exact within) (by rw [bay]; exact stopped)
  rw [winds]
  generalize endWaitingReads b .sessionEnded s = v at *
  have alone : (v.bay b).waiting = [] := by rw [bay]
  obtain ⟨run, _, wait, half0, half1, _, _, sent⟩ := windDown_bay (cause := .sessionEnded) activeNow alone
  have ends := windDown_active (cause := .sessionEnded) activeNow alone (by rw [slot]; exact taken)
  rw [slot, clock] at ends
  rw [bay] at half0 half1 sent
  rw [out] at sent
  refine ⟨run, wait, sent.trans (congrArg _ (ite_congr (propext (and_congr_left' (or_iff_right stopped))) (fun _ => rfl) fun _ => rfl)), half0, half1, ends⟩

end Goes
end Reads

/-! ## O21 -/

section Close
variable {i : StationId} {k : SessionId} {cause : CloseCause} {s : State}

/-- All that is neither station nor session is as the reads' ends leave it. -/
theorem closeSession_beyond : (closeSession i k cause s).beyond = (closeReads i (ordersClosed k s)).beyond := by
  rw [closeSession_eq, beyond_stationClosed, beyond_closeEntry]

section Ends
variable (active : (s.session k).state = .active) (own : ∀ o ∈ (s.session k).orders, (s.order o).session = k)
include active own

theorem closing_nonFinal (o : OrderId) : nonFinal ((closeReads i (ordersClosed k s)).order o) = true ↔
    nonFinal (s.order o) = true ∧ ¬(o ∈ (s.session k).orders ∧ ((s.order o).state = .draft ∨ (s.order o).state = .priced)) := by
  have orders : (closeReads i (ordersClosed k s)).order o = (ordersClosed k s).order o :=
    congrArg (fun v => look v o) closeReads_work.orders
  rw [orders, (ordersClosed_spec active own).2.2 o]
  by_cases cancels : o ∈ (s.session k).orders ∧ ((s.order o).state = .draft ∨ (s.order o).state = .priced)
  · rw [if_pos cancels]
    exact ⟨nofun, fun both => absurd cancels both.2⟩
  · rw [if_neg cancels]
    exact ⟨fun isNonFinal => ⟨isNonFinal, cancels⟩, And.left⟩

/-- The entry as the close finds it once the reads have ended. -/
theorem closing_session : (closeReads i (ordersClosed k s)).session k = { s.session k with deadline := none } :=
  (congrArg (fun v => look v k) closeReads_work.sessions).trans (ordersClosed_spec active own).2.1

theorem closing_station (j : StationId) : (closeReads i (ordersClosed k s)).station j = s.station j :=
  (congrArg (fun v => look v j) closeReads_work.stations).trans (congrArg (fun u : State => u.station j) (ordersClosed_spec active own).1 :)

/-- R8, step 4: an order that goes on leaves the entry DRAINING. -/
theorem closeSession_drains (left : ∃ o ∈ (s.session k).orders, nonFinal (s.order o) = true ∧ (s.order o).state ≠ .draft ∧ (s.order o).state ≠ .priced) :
    (closeSession i k cause s).session k = { s.session k with deadline := none, state := .draining }
      ∧ ((closeSession i k cause s).station i).draining = (s.station i).draining + 1 := by
  have session := closing_session (i := i) active own
  have station := closing_station (i := i) active own i
  have count : 0 < (closeReads i (ordersClosed k s)).nonFinalCount k := by
    obtain ⟨o, mem, isNonFinal, notDraft, notPriced⟩ := left
    refine nonFinalCount_pos ⟨o, by rw [session]; exact mem, (closing_nonFinal active own o).mpr ⟨isNonFinal, fun both => ?_⟩⟩
    exact both.2.elim notDraft notPriced
  obtain ⟨drains, draining⟩ := closeEntry_drains (i := i) count
  obtain ⟨_, _, kept, _⟩ := station_stationClosed (i := i) (k := k) (cause := cause) (clock := s.clock)
    (s := closeEntry k i (closeReads i (ordersClosed k s)))
  rw [closeSession_eq, session_stationClosed, kept, drains, draining, session, station]
  exact ⟨rfl, rfl⟩

/-- R8, step 4: with every order final the entry becomes FREE. -/
theorem closeSession_frees (all : ∀ o ∈ (s.session k).orders, nonFinal (s.order o) = false ∨ (s.order o).state = .draft ∨ (s.order o).state = .priced) :
    (closeSession i k cause s).session k = { s.session k with deadline := none, state := .free, orders := [] }
      ∧ ((closeSession i k cause s).station i).draining = (s.station i).draining
      ∧ ∀ j, ((closeSession i k cause s).station j).noRoomLive = false := by
  have session := closing_session (i := i) active own
  have count : (closeReads i (ordersClosed k s)).nonFinalCount k = 0 := by
    refine nonFinalCount_zero fun o mem => ?_
    rw [session] at mem
    rw [← Bool.not_eq_true, closing_nonFinal active own o]
    rintro ⟨isNonFinal, notCancelled⟩
    rcases all o mem with final | cancels
    · rw [final] at isNonFinal
      exact absurd isNonFinal (by decide)
    · exact notCancelled ⟨mem, cancels⟩
  obtain ⟨frees, stations⟩ := closeEntry_frees (i := i) count
  obtain ⟨_, _, kept, noRoom⟩ := station_stationClosed (i := i) (k := k) (cause := cause) (clock := s.clock)
    (s := closeEntry k i (closeReads i (ordersClosed k s)))
  have station := closing_station (i := i) active own i
  rw [closeSession_eq, session_stationClosed, kept, frees, session]
  refine ⟨rfl, by rw [stations, station], fun j => (noRoom j).trans (by rw [stations])⟩

/-- Whatever the orders, the entry's watch has stopped. -/
theorem closeSession_deadline : ((closeSession i k cause s).session k).deadline = none := by
  by_cases left : ∃ o ∈ (s.session k).orders, nonFinal (s.order o) = true ∧ (s.order o).state ≠ .draft ∧ (s.order o).state ≠ .priced
  · rw [(closeSession_drains active own left).1]
  · rw [(closeSession_frees active own fun o mem => ?_).1]
    by_cases isNonFinal : nonFinal (s.order o) = true
    · refine .inr ?_
      refine Classical.byContradiction fun other => ?_
      obtain ⟨notDraft, notPriced⟩ := not_or.mp other
      exact left ⟨o, mem, isNonFinal, notDraft, notPriced⟩
    · exact .inl (Bool.not_eq_true _ ▸ isNonFinal)

end Ends
end Close

/-- What the close leaves of the other blocks: `v` after the orders' cancels, `w` after the reads' ends, `c` after the close. -/
theorem closing_frames {b : BayId} {s v w c : State} (others : { v with orders := s.orders, sessions := s.sessions } = s)
    (work : BayWork b v w) (beyond : c.beyond = w.beyond) :
    (∀ x, x ≠ b → c.bay x = s.bay x) ∧ c.price = s.price ∧ c.stock = s.stock ∧ c.printers = s.printers ∧ c.terminal = s.terminal
      ∧ c.apertures = s.apertures ∧ c.clock = s.clock ∧ c.timers = s.timers := by
  refine ⟨fun x other => ?_, ?_, ?_, ?_, ?_, ?_, ?_, ?_⟩
  · rw [show c.bay x = w.bay x from (congrArg (fun u : State => u.bay x) beyond :), work.bay_ne other]
    exact (congrArg (fun u : State => u.bay x) others :)
  · rw [show c.price = w.price from (congrArg State.price beyond :), work.price]
    exact (congrArg State.price others :)
  · rw [show c.stock = w.stock from (congrArg State.stock beyond :), work.stock]
    exact (congrArg State.stock others :)
  · rw [show c.printers = w.printers from (congrArg State.printers beyond :), work.printers]
    exact (congrArg State.printers others :)
  · rw [show c.terminal = w.terminal from (congrArg State.terminal beyond :), work.terminal]
    exact (congrArg State.terminal others :)
  · rw [show c.apertures = w.apertures from (congrArg State.apertures beyond :), work.apertures]
    exact (congrArg State.apertures others :)
  · rw [show c.clock = w.clock from (congrArg State.clock beyond :), work.clock]
    exact (congrArg State.clock others :)
  · rw [show c.timers = w.timers from (congrArg State.timers beyond :), work.timers]
    exact (congrArg State.timers others :)

/-- Settles O21: the orders are cancelled first, then the bay's reads end, and last the entry and the station take the close; each step
leaves what the others change. -/
theorem closingASessionTakesItsSteps : Obligations.ClosingASessionTakesItsSteps := by
  unfold Obligations.ClosingASessionTakesItsSteps
  intro i k cause s active own waitingTaken
  have beyond := closeSession_beyond (i := i) (k := k) (cause := cause) (s := s)
  have drains := closeSession_drains (i := i) (cause := cause) active own
  have frees := closeSession_frees (i := i) (cause := cause) active own
  have deadline := closeSession_deadline (i := i) (cause := cause) active own
  obtain ⟨noSession, last, _⟩ := station_stationClosed (i := i) (k := k) (cause := cause) (clock := s.clock)
    (s := closeEntry k i (closeReads i (ordersClosed k s)))
  rw [← closeSession_eq] at noSession last
  generalize closeSession i k cause s = c at *
  obtain ⟨others, _, orders⟩ := ordersClosed_spec active own
  generalize ordersClosed k s = v at *
  have bayV : v.bay i = s.bay i := (congrArg (fun u : State => u.bay i) others :)
  have work := closeReads_work (i := i) (s := v)
  have order (o : OrderId) : c.order o = v.order o :=
    (congrArg (fun u : State => u.order o) beyond :).trans (congrArg (fun v => look v o) work.orders)
  have bay (b : BayId) : c.bay b = (closeReads i v).bay b := (congrArg (fun u : State => u.bay b) beyond :)
  have slot (n : SlotId) : c.slot n = (closeReads i v).slot n := (congrArg (fun u : State => u.slot n) beyond :)
  have out : c.out = (closeReads i v).out := (congrArg State.out beyond :)
  have slotV (n : SlotId) : v.slot n = s.slot n := (congrArg (fun u : State => u.slot n) others :)
  have outV : v.out = s.out := (congrArg State.out others :)
  refine ⟨noSession, last, deadline, ?_, ?_, ?_, ?_, ?_, ?_, ?_, ?_, ?_⟩
  · intro o mem cancels
    rw [order, orders, if_pos ⟨mem, cancels⟩]
    rfl
  · intro o stays
    rw [order, orders, if_neg fun both => stays.elim (fun notIn => notIn both.1) fun other => both.2.elim other.1 other.2]
  · rintro ⟨o, mem, goesOn⟩
    obtain ⟨session, draining⟩ := drains ⟨o, mem, by rcases goesOn with st | st | st | st <;> rw [nonFinal, st] <;> decide⟩
    rw [session, draining]
    exact ⟨rfl, rfl, rfl⟩
  · intro all
    obtain ⟨session, draining, noRoom⟩ := frees fun o mem => by
      rcases all o mem with st | st | st | st
      · exact .inr (.inl st)
      · exact .inr (.inr st)
      · exact .inl (by rw [nonFinal, st]; rfl)
      · exact .inl (by rw [nonFinal, st]; rfl)
    rw [session]
    exact ⟨rfl, rfl, draining, noRoom⟩
  · rw [bay]
    exact closeReads_waiting_nil
  · intro r mem
    rw [slot]
    exact closeReads_done (by rw [bayV]; exact mem) (by rw [slotV]; exact waitingTaken r mem)
  · intro r here goesOn unmarked within
    rw [bay, out]
    refine ⟨fun running => ?_, fun stopped final isFinal taken notWaiting => ?_⟩
    · have marks := closeReads_marks (s := v) (by rw [bayV]; exact here) goesOn unmarked (by rw [bayV]; exact within)
        (by rw [bayV]; exact running)
      rwa [bayV, outV] at marks
    · obtain ⟨run, wait, sent, half0, half1, ends, lingers⟩ := closeReads_winds (s := v) (by rw [bayV]; exact here) goesOn
        unmarked (by rw [bayV]; exact within) (by rw [bayV]; exact stopped) (by rw [slotV]; exact taken) (by rw [bayV]; exact notWaiting)
      rw [bayV, outV] at sent
      rw [bayV] at half0 half1
      rw [slotV] at ends lingers
      have isPartial : final = countPartial r := isFinal
      have empty0 := endHalf_empty_iff (cause := .sessionEnded) (r := r) (h := 0) (v := (s.bay i).half0) nofun nofun
      have empty1 := endHalf_empty_iff (cause := .sessionEnded) (r := r) (h := 1) (v := (s.bay i).half1) nofun nofun
      refine ⟨run, wait, sent, half0.trans (endHalf_drops nofun nofun), half1.trans (endHalf_drops nofun nofun), ?_, ?_⟩
      · intro notWriting0 notWriting1
        obtain ⟨idle, done⟩ := ends (by rw [half0]; exact empty0.mpr notWriting0)
          (by rw [half1]; exact empty1.mpr notWriting1)
        rw [slot, done, isPartial]
        exact ⟨idle, rfl, rfl, rfl⟩
      · intro writing
        rw [slot]
        refine lingers (writing.imp (fun writes => ?_) fun writes => ?_)
        · rw [half0]
          exact fun empty => empty0.mp empty writes
        · rw [half1]
          exact fun empty => empty1.mp empty writes
  · intro r here left
    have leaves := closeReads_leaves (s := v) (by rw [bayV]; exact here) (by rw [bayV]; exact left)
    obtain ⟨last, counts, bayNow⟩ := closeReads_waiting (b := i) (s := v)
    rw [bay, out, leaves, bayNow, endWaitingReads_out, bayV, outV]
    exact ⟨here, rfl, rfl, rfl⟩
  · exact closing_frames others work beyond

end Sys2Proof.Machine
end

section
/-! SUPPORT. READ_CARD (R111, R112): its areas, its checks and its start. -/

namespace Sys2Proof.Machine

/-! ## The areas of a read (R111) -/

theorem memNumber_lt (m : List Host.Cell) (offset n : Nat) : Mem.number m offset n < 256 ^ n := by
  induction n generalizing offset with
  | zero => exact Nat.one_pos
  | succ n ih =>
    have low : (Mem.read m offset).toNat < 256 := (Mem.read m offset).isLt
    have high := ih (offset + 1)
    rw [Mem.number, Nat.pow_succ]
    omega

theorem reqField_lt (c : Slot) (a n : Nat) : reqField c a n < 256 ^ n := memNumber_lt _ _ _

section Areas
variable {s : State} {i : StationId} {c : Slot}

theorem readAreasOf_bad (bad : reqByte c 16 ≠ i.val ∨ reqField c 24 2 = 0 ∨ 1 < reqByte c 17) : readAreasOf s i c = none := by
  unfold readAreasOf
  by_cases refused : reqByte c 16 ≠ i.val ∨ reqField c 24 2 = 0
  · exact if_pos refused
  · have mode : 1 < reqByte c 17 := by
      rcases bad with bay | count | mode
      · exact absurd (Or.inl bay) refused
      · exact absurd (Or.inr count) refused
      · exact mode
    exact (if_neg refused).trans ((if_neg (by omega)).trans (if_neg (by omega)))

theorem readAreasOf_single (bay : reqByte c 16 = i.val) (count : reqField c 24 2 ≠ 0) (mode : reqByte c 17 = 0) :
    readAreasOf s i c = singleArea s c (reqField c 24 2) := by
  unfold readAreasOf
  rw [if_neg (by rintro (other | none) <;> contradiction), if_pos mode]

theorem readAreasOf_alternate (bay : reqByte c 16 = i.val) (count : reqField c 24 2 ≠ 0) (mode : reqByte c 17 = 1) :
    readAreasOf s i c = alternateAreas s c := by
  unfold readAreasOf
  rw [if_neg (by rintro (other | none) <;> contradiction), if_neg (by omega), if_pos mode]

theorem alternateAreas_bad (bad : chunkGood (reqField c 28 4) = false ∨ overlap (reqField c 32 8) (reqField c 48 8) (reqField c 28 4) = true) :
    alternateAreas s c = none := if_pos bad

theorem alternateAreas_checked (good : chunkGood (reqField c 28 4) = true)
    (apart : overlap (reqField c 32 8) (reqField c 48 8) (reqField c 28 4) = false) :
    alternateAreas s c =
      (s.findAperture .write (reqField c 32 8) (reqField c 28 4)).bind fun x =>
        (s.findAperture .write (reqField c 48 8) (reqField c 28 4)).map fun y =>
          { mode := .alternate, addressA := reqField c 32 8, apertureA := x, addressB := reqField c 48 8, apertureB := y,
            chunk := reqField c 28 4 } := by
  unfold alternateAreas
  rw [if_neg (by rw [good, apart]; decide)]
  cases s.findAperture .write (reqField c 32 8) (reqField c 28 4) <;> cases s.findAperture .write (reqField c 48 8) (reqField c 28 4) <;> rfl

/-- An ALTERNATE read without an aperture for one of its buffers has no areas. -/
theorem alternateAreas_nowhere (none' : s.findAperture .write (reqField c 32 8) (reqField c 28 4) = none
    ∨ s.findAperture .write (reqField c 48 8) (reqField c 28 4) = none) : alternateAreas s c = none := by
  by_cases good : chunkGood (reqField c 28 4) = true
  · by_cases apart : overlap (reqField c 32 8) (reqField c 48 8) (reqField c 28 4) = false
    · rw [alternateAreas_checked good apart]
      rcases none' with first | second
      · rw [first]; rfl
      · rw [second]; exact Option.bind_fun_none _
    · exact alternateAreas_bad (.inr (by simpa using apart))
  · exact alternateAreas_bad (.inl (by simpa using good))

theorem chunkGood_iff (n : Nat) : chunkGood n = true ↔ n % 4096 = 0 ∧ 4096 ≤ n ∧ n ≤ 1048576 := by
  simp only [chunkGood, Bool.and_eq_true, decide_eq_true_iff, and_assoc]

theorem overlap_iff (a b n : Nat) : overlap a b n = true ↔ a < b + n ∧ b < a + n := by
  simp only [overlap, Bool.and_eq_true, decide_eq_true_iff]

theorem readAreasOf_congr {t : State} {d : Slot} (apertures : t.apertures = s.apertures) (request : d.request = c.request) :
    readAreasOf t i d = readAreasOf s i c := by
  have slots : readAreasOf t i d = readAreasOf t i c := by
    rcases c
    rcases d
    cases request
    rfl
  have same : { t with apertures := s.apertures } = t := apertures ▸ rfl
  rw [slots, ← same]
  rfl

end Areas

theorem onSlot_onSlot (s : State) (n : SlotId) (f g : Slot → Slot) : (s.onSlot n f).onSlot n g = s.onSlot n fun c => g (f c) :=
  congrArg (fun v => { s with slots := v }) (upd_upd s.slots n f g)

/-! ## The checks of a read (R111) -/

/-- The bay as a read starts at once. -/
def Bay.readStarts (r : Read) (y : Bay) : Bay :=
  { y with state := .reading, active := some r, half0 := Half.reset, half1 := Half.reset, run := .running, block := .running 250,
           giveBackWait := false, waitLength := 0, waitLimit := false }

section Work
variable {u : State} {i : StationId} {n : SlotId} {a : ReadAreas}

theorem readCardWork_noAreas (noAreas : readAreasOf u i (u.slot n) = none) : readCardWork i n u = refuseSlot n .range u := by
  simp only [readCardWork, noAreas]

theorem readCardWork_state {why : Reason} (areas : readAreasOf u i (u.slot n) = some a) (state : readState u i = some why) :
    readCardWork i n u = complete n .state why .zero u := by
  simp only [readCardWork, areas, state]

theorem readCardWork_checked (areas : readAreasOf u i (u.slot n) = some a) (state : readState u i = none) :
    readCardWork i n u =
      if BitVec.ofNat 16 (reqField (u.slot n) 18 2) ≠ (u.bay i).generation then refuseSlot n .staleCard u
      else if ((u.bay i).card.map (·.capacity)).getD 0 < reqField (u.slot n) 20 4 + reqField (u.slot n) 24 2 then refuseSlot n .range u
      else if Config.maxWaitingReads ≤ (u.bay i).waiting.length then refuseSlot n .busy u
      else acceptRead i (newRead n u i a (u.slot n)) u := by
  simp only [readCardWork, areas, state]

theorem readState_noSession (none : (u.station i).session = none) : readState u i = some .noSession := if_pos none

theorem readState_session (session : (u.station i).session.isSome = true) : readState u i =
    match (u.bay i).state with
    | .empty | .settling => some .noCard
    | .identifying => some .identifying
    | .faulted => some .bayFaulted
    | .ready | .reading => none :=
  if_neg fun none => by rw [none] at session; exact absurd session (by decide)

/-- R112: a read behind an active one waits. -/
theorem acceptRead_waits {r x : Read} (taken : (u.slot r.slot).state = .taken) (active : (u.bay i).active = some x) :
    acceptRead i r u = (u.onBay i fun y => { y with waiting := y.waiting ++ [r] }).onSlot r.slot fun c =>
      { c with body := .read (unstartedResult r) } := by
  have written : writeBody r.slot (.read (unstartedResult r)) (u.onBay i fun y => { y with waiting := y.waiting ++ [r] }) =
      (u.onBay i fun y => { y with waiting := y.waiting ++ [r] }).onSlot r.slot fun c => { c with body := .read (unstartedResult r) } :=
    if_pos taken
  unfold acceptRead
  rw [written]
  refine if_neg fun idle => ?_
  have now : (((u.onBay i fun y => { y with waiting := y.waiting ++ [r] }).onSlot r.slot fun c =>
      { c with body := .read (unstartedResult r) }).bay i).active = (u.bay i).active :=
    (congrArg Bay.active (bay_onBay_same u i fun y => { y with waiting := y.waiting ++ [r] }) :)
  rw [now, active] at idle
  exact absurd idle (Option.some_ne_none x)

/-- R112: a read at a bay that has none starts at once. -/
theorem acceptRead_starts {r : Read} (taken : (u.slot r.slot).state = .taken) (idle : (u.bay i).active = none)
    (alone : (u.bay i).waiting = [])
    (fresh : r = { r with accepted := 0, delivered := 0, filled := 0, givenBack := 0, waited := 0, failures := 0 }) :
    acceptRead i r u = ((u.onBay i (Bay.readStarts r)).emit (.readRun i r.first)).onSlot r.slot fun c =>
      { c with body := .read (liveResult r) } := by
  let joined : State := (u.onBay i fun y => { y with waiting := y.waiting ++ [r] }).onSlot r.slot fun c =>
    { c with body := .read (unstartedResult r) }
  have written : writeBody r.slot (.read (unstartedResult r)) (u.onBay i fun y => { y with waiting := y.waiting ++ [r] }) = joined :=
    if_pos taken
  have bay : joined.bay i = { u.bay i with waiting := (u.bay i).waiting ++ [r] } :=
    (bay_onBay_same u i fun y => { y with waiting := y.waiting ++ [r] } :)
  have still : (joined.slot r.slot).state = .taken := (congrArg Slot.state (slot_onSlot_same _ _ _)).trans taken
  have waits : (joined.bay i).waiting = r :: [] := by rw [bay, alone]; rfl
  have started : (((joined.onBay i (Bay.activated r [])).emit (.readRun i r.first)).bay i).active = some r :=
    (congrArg Bay.active (bay_onBay_same joined i (Bay.activated r []))).trans (congrArg some fresh.symm)
  unfold acceptRead
  rw [written, if_pos (by rw [bay]; exact idle), activateNext_cons waits, syncRead_taken started still]
  have bays : (u.onBay i fun y => { y with waiting := y.waiting ++ [r] }).onBay i (Bay.activated r []) =
      u.onBay i (Bay.readStarts r) := by
    rw [onBay_onBay]
    refine onBay_congr u i ?_
    simp only [Bay.activated, Bay.readStarts, ← fresh, alone]
    rfl
  refine (congrArg (fun v : State => ((v.onSlot r.slot fun c => { c with body := .read (unstartedResult r) }).emit
    (.readRun i r.first)).onSlot r.slot fun c => { c with body := .read (liveResult r) }) bays).trans ?_
  exact onSlot_onSlot ((u.onBay i (Bay.readStarts r)).emit (.readRun i r.first)) r.slot (fun c => { c with body := .read (unstartedResult r) })
    fun c => { c with body := .read (liveResult r) }

end Work

/-! ## O39 -/

/-- R11, R111: READ_CARD with its station and its bay there. -/
theorem readCard_endsAs {s u : State} {n : SlotId} {rest : List SlotId} {i : StationId} (hh : Heads s .readCard n rest)
    (station : stationField (s.slot n) = i.val) (bay : reqByte (s.slot n) 16 ≤ 3)
    (work : readCardWork i n (takeSlot n rest (restartForStation i s.quiet)) = u) : EndsAs (exec .readCard s) u := by
  refine command_endsAs hh ?_
  have there : ¬3 < reqByte ((takeSlot n rest s.quiet).slot n) 16 := by
    rw [reqByte_takeSlot]
    exact Nat.not_lt.mpr bay
  refine (if_neg there).trans ?_
  rw [withStation_of_station rest station, restartForStation_takeSlot, work]

section Taken
variable {s : State} {n : SlotId} {rest : List SlotId} {i : StationId}

/-- What the work of a READ_CARD reads is as before the taking. -/
theorem readCard_view :
    ((takeSlot n rest (restartForStation i s.quiet)).slot n).request = (s.slot n).request
      ∧ (takeSlot n rest (restartForStation i s.quiet)).bays = s.bays
      ∧ (takeSlot n rest (restartForStation i s.quiet)).station i = s.station i
      ∧ (takeSlot n rest (restartForStation i s.quiet)).apertures = s.apertures := by
  have same := restartForStation_rest i s.quiet
  refine ⟨?_, (congrArg State.bays same :), (congrArg (fun u : State => u.station i) same :), (congrArg State.apertures same :)⟩
  rw [request_takeSlot]
  exact (congrArg (fun u : State => (u.slot n).request) same :)

end Taken

/-- The result of a slot just taken. -/
theorem takeSlot_writes (n : SlotId) (rest : List SlotId) (body : Body) (u : State) :
    ((takeSlot n rest u).onSlot n fun c => { c with body := body }) = begun n rest (fun _ => body) u :=
  congrArg (fun v : State => { v with intake := rest }) (onSlot_onSlot u n (fun c => { c with state := .taken, tagEcho := hostTag c })
    fun c => { c with body := body })

theorem newRead_congr {s u : State} {n : SlotId} {i : StationId} {a : ReadAreas} {c d : Slot} (bays : u.bays = s.bays)
    (request : d.request = c.request) : newRead n u i a d = newRead n s i a c := by
  have bay : u.bay i = s.bay i := congrArg (fun v => look v i) bays
  simp only [newRead, bay, reqField, request]

theorem generation_iff {c : Slot} {g : W16} : BitVec.ofNat 16 (reqField c 18 2) ≠ g ↔ reqField c 18 2 ≠ g.toNat := by
  have small := reqField_lt c 18 2
  refine not_congr ?_
  constructor
  · rintro rfl
    rw [BitVec.toNat_ofNat]
    exact (Nat.mod_eq_of_lt small).symm
  · intro same
    rw [same, BitVec.ofNat_toNat, BitVec.setWidth_eq]

/-- Settles O39. -/
theorem readCardChecksAndStarts : Obligations.ReadCardChecksAndStarts := by
  unfold Obligations.ReadCardChecksAndStarts
  refine ⟨fun s i c => ⟨readAreasOf_bad, ?_, ?_⟩, ?_⟩
  · intro bay count mode
    rw [readAreasOf_single bay count mode]
    refine ⟨fun short => if_pos short, fun nowhere => ?_, fun a long found => ?_⟩
    · unfold singleArea
      simp only [nowhere]
      exact ite_self _
    · refine (if_neg (Nat.not_lt.mpr long)).trans ?_
      rw [found]
      rfl
  · intro bay count mode
    rw [readAreasOf_alternate bay count mode]
    refine ⟨fun bad => alternateAreas_bad (.inl ?_), fun below above => alternateAreas_bad (.inr ((overlap_iff _ _ _).mpr ⟨below, above⟩)),
      alternateAreas_nowhere, fun a b whole atLeast atMost apart foundA foundB => ?_⟩
    · rw [← Bool.not_eq_true, chunkGood_iff]
      omega
    · rw [alternateAreas_checked ((chunkGood_iff _).mpr ⟨whole, atLeast, atMost⟩)
        (by rw [← Bool.not_eq_true, overlap_iff]; omega), foundA, foundB]
      rfl
  · intro s n rest i hh station there
    obtain ⟨request, bays, stationNow, apertures⟩ := readCard_view (s := s) (n := n) (rest := rest) (i := i)
    have areasNow := readAreasOf_congr (i := i) apertures request
    have bay : (takeSlot n rest (restartForStation i s.quiet)).bay i = s.bay i := congrArg (fun v => look v i) bays
    have takenNow : ((takeSlot n rest (restartForStation i s.quiet)).slot n).state = .taken := by rw [slot_takeSlot]
    have field (a m : Nat) : reqField ((takeSlot n rest (restartForStation i s.quiet)).slot n) a m = reqField (s.slot n) a m := by
      simp only [reqField, request]
    refine ⟨fun noAreas => ?_, fun a areas => ⟨fun noSession => ?_, fun session => ?_⟩⟩
    · exact readCard_endsAs hh station there ((readCardWork_noAreas (areasNow.trans noAreas)).trans (refuseSlot_takeSlot _ _ _ _))
    · refine readCard_endsAs hh station there ?_
      rw [readCardWork_state (areasNow.trans areas) (readState_noSession (by rw [stationNow]; exact noSession)), complete_takeSlot,
        restartForStation_none (s := s.quiet) noSession]
    · have state := readState_session (u := takeSlot n rest (restartForStation i s.quiet)) (i := i) (by rw [stationNow]; exact session)
      rw [bay] at state
      have refuses {why : Reason} (isWhy : readState (takeSlot n rest (restartForStation i s.quiet)) i = some why) :
          EndsAs (exec .readCard s) (answered n rest .state why .zero (restartForStation i s.quiet)) :=
        readCard_endsAs hh station there ((readCardWork_state (areasNow.trans areas) isWhy).trans (complete_takeSlot _ _ _ _ _ _))
      refine ⟨fun noCard => refuses ?_, fun identifying => refuses ?_, fun faulted => refuses ?_, fun ready => ?_⟩
      · rcases noCard with st | st <;> rw [state, st]
      · rw [state, identifying]
      · rw [state, faulted]
      have passes : readState (takeSlot n rest (restartForStation i s.quiet)) i = none := by
        rcases ready with st | st <;> rw [state, st]
      have work := readCardWork_checked (areasNow.trans areas) passes
      have reads := newRead_congr (n := n) (i := i) (a := a) bays request
      rw [bay, field, field, field, reads] at work
      have answers {u : State} (effect : readCardWork i n (takeSlot n rest (restartForStation i s.quiet)) = u) :
          EndsAs (exec .readCard s) u := readCard_endsAs hh station there effect
      refine ⟨fun stale => answers ?_, fun card isCard fresh => ⟨fun over' => answers ?_, fun fits => ⟨fun full => answers ?_, ?_⟩⟩⟩
      · rw [work, if_pos (generation_iff.mpr stale), refuseSlot_takeSlot]
      · have same := Classical.not_not.2 fresh
        rw [work, if_neg (mt generation_iff.mp same), isCard]
        exact (if_pos over').trans (refuseSlot_takeSlot _ _ _ _)
      · have same := Classical.not_not.2 fresh
        rw [work, if_neg (mt generation_iff.mp same), isCard]
        exact (if_neg (Nat.not_lt.mpr fits)).trans ((if_pos full).trans (refuseSlot_takeSlot _ _ _ _))
      · intro read result isRead isResult
        have same := Classical.not_not.2 fresh
        rw [if_neg (mt generation_iff.mp same), isCard] at work
        have accepted (room : (s.bay i).waiting.length < 4) :
            readCardWork i n (takeSlot n rest (restartForStation i s.quiet)) = acceptRead i read (takeSlot n rest (restartForStation i s.quiet)) := by
          rw [work, isRead]
          exact (if_neg (Nat.not_lt.mpr fits)).trans (if_neg (Nat.not_le.mpr room))
        have own : read.slot = n := by rw [isRead]; rfl
        have first : read.first = reqField (s.slot n) 20 4 := by rw [isRead]; rfl
        have unstarted : unstartedResult read = result := by
          rw [isRead, isResult]
          simp only [unstartedResult, newRead, isCard]
          rfl
        have live : liveResult read = { result with target := if a.mode = .alternate then some .a else none } := by
          rw [isRead, isResult]
          simp only [liveResult, lastBytes, newRead, isCard, Nat.lt_irrefl, and_false, if_false]
          rfl
        refine ⟨fun x room active => answers ?_, fun idle alone => answers ?_⟩
        · rw [accepted room, acceptRead_waits (x := x) (by rw [own]; exact takenNow) (by rw [bay]; exact active)]
          rw [own, unstarted]
          exact takeSlot_writes n rest (.read result) ((restartForStation i s.quiet).onBay i fun y => { y with waiting := y.waiting ++ [read] })
        · rw [accepted (by rw [alone]; decide), acceptRead_starts (by rw [own]; exact takenNow) (by rw [bay]; exact idle)
            (by rw [bay]; exact alone) (by rw [isRead]; rfl)]
          rw [own, live, first]
          exact takeSlot_writes n rest (.read { result with target := if a.mode = .alternate then some .a else none })
            (((restartForStation i s.quiet).onBay i (Bay.readStarts read)).emit (.readRun i (reqField (s.slot n) 20 4)))

end Sys2Proof.Machine
end

section
/-! SUPPORT. The end of a copy (R34, R66, R74, R89 to R91, R99), its frames, limits and watches (R81, R84, R87, R89, R90, R97). -/

namespace Sys2Proof.Machine

/-! ## What the order unit's part in the end of a copy leaves alone -/

/-- A printer port without its queue. -/
def Printer.unqueued (q : Printer) : Printer := { q with queue := [] }

/-- State without the orders, the sessions, the queues, the held list and the settlements that wait. -/
def State.besides (s : State) : State :=
  { s with orders := State.reset.orders, sessions := State.reset.sessions, stations := State.reset.stations, unitChanged := 0, heldList := [],
           retryNotes := State.reset.retryNotes, printers := s.printers.map Printer.unqueued,
           terminal := { s.terminal with pendingSettlements := [] } }

theorem besides_of_beyond {s t : State} (same : t.beyond = s.beyond) : t.besides = s.besides :=
  (congrArg State.besides same : t.beyond.besides = s.beyond.besides)

@[simp] theorem besides_onOrder (s : State) (o : OrderId) (f : Order → Order) : (s.onOrder o f).besides = s.besides := rfl
@[simp] theorem besides_onNote (s : State) (o : OrderId) (f : Option Nat → Option Nat) : (s.onNote o f).besides = s.besides := rfl
@[simp] theorem besides_onItem (s : State) (o : OrderId) (i : Nat) (f : Item → Item) : (s.onItem o i f).besides = s.besides := rfl
@[simp] theorem besides_markUnit (s : State) (n : UnitId) : (s.markUnit n).besides = s.besides := rfl
@[simp] theorem besides_leaveHeld (o : OrderId) (s : State) : (leaveHeld o s).besides = s.besides := rfl

@[simp] theorem besides_addSettlement (o : OrderId) (n : Nat) (s : State) : (addSettlement o n s).besides = s.besides := rfl

@[simp] theorem besides_lampsIfHeld (r : Order) (s : State) : (lampsIfHeld r s).besides = s.besides :=
  besides_of_beyond (beyond_lampsIfHeld r s)

theorem besides_onPrinter {s t : State} (same : t.besides = s.besides) (p : PrinterId) {f : Printer → Printer}
    (blind : ∀ q, (f q).unqueued = f q.unqueued) : (t.onPrinter p f).besides = (s.onPrinter p f).besides := by
  have pushes : ∀ u : State, (u.onPrinter p f).besides = u.besides.onPrinter p f := fun u => by
    refine congrArg (fun v => { u.besides with printers := v }) ?_
    exact Vector.ext fun i hi => by
      simp only [State.onPrinter, State.besides, upd, Vector.getElem_map, Vector.getElem_set]
      split <;> simp [blind]
  rw [pushes, pushes, same]

@[simp] theorem besides_leaveQueues (o : OrderId) (s : State) : (leaveQueues o s).besides = s.besides := by
  have drops : ∀ (u : State) (p : PrinterId) (f : List OrderId → List OrderId),
      (u.onPrinter p fun q => { q with queue := f q.queue }).besides = u.besides := fun u p f =>
    congrArg (fun v => { u.besides with printers := v }) (Moves.map_steady u.printers p _ Printer.unqueued rfl)
  unfold leaveQueues
  rw [drops, drops]

@[simp] theorem besides_leavesPrinting (o : OrderId) (s : State) : (leavesPrinting o s).besides = s.besides := by
  rw [leavesPrinting, besides_onOrder, besides_onNote, besides_leaveHeld, besides_leaveQueues]

@[simp] theorem besides_settlementTrigger (o : OrderId) (s : State) : (settlementTrigger o s).besides = s.besides := by
  by_cases free : orderTotal (s.order o) = 0
  · rw [settlementTrigger_free free, besides_of_beyond (beyond_reportFinal o _), besides_lampsIfHeld, besides_onOrder, besides_leavesPrinting]
  · rw [settlementTrigger_due free, besides_lampsIfHeld, besides_addSettlement, besides_onOrder, besides_leavesPrinting]

@[simp] theorem besides_settlementCheck (o : OrderId) (s : State) : (settlementCheck o s).besides = s.besides := by
  simp only [settlementCheck]
  split
  · exact besides_settlementTrigger o s
  · rfl

@[simp] theorem besides_copyEnded (p : PrinterId) (c : Copy) (result : CopyResult) (s : State) : (copyEnded p c result s).besides = s.besides := by
  simp only [copyEnded]
  rw [besides_settlementCheck, besides_onItem]
  (repeat' split) <;> simp

section Besides
variable {s t : State} (same : t.besides = s.besides)
include same

theorem unqueued_of_besides (p : PrinterId) : (t.printer p).unqueued = (s.printer p).unqueued := by
  have printers : t.printers.map Printer.unqueued = s.printers.map Printer.unqueued := (congrArg State.printers same :)
  have here := congrArg (fun v => look v p) printers
  rwa [look_map, look_map] at here

theorem stock_of_besides : t.stock = s.stock := (congrArg State.stock same :)
theorem entry_of_besides (p : PrinterId) : t.entry p = s.entry p := (congrArg (fun u : State => u.entry p) same :)
theorem out_of_besides : t.out = s.out := (congrArg State.out same :)
theorem slots_of_besides : t.slots = s.slots := (congrArg State.slots same :)
theorem bays_of_besides : t.bays = s.bays := (congrArg State.bays same :)
theorem apertures_of_besides : t.apertures = s.apertures := (congrArg State.apertures same :)
theorem price_of_besides : t.price = s.price := (congrArg State.price same :)
theorem clock_of_besides : t.clock = s.clock := (congrArg State.clock same :)
theorem timers_of_besides : t.timers = s.timers := (congrArg State.timers same :)
theorem intake_of_besides : t.intake = s.intake := (congrArg State.intake same :)

end Besides

/-! ## The settlement check on the order itself -/

theorem settlementTrigger_order (o : OrderId) (s : State) : ∃ f : Order → Order, (∀ r, (f r).items = r.items) ∧
    (settlementTrigger o s).order o = f (s.order o) := by
  by_cases free : orderTotal (s.order o) = 0
  · rw [settlementTrigger_free free, order_of_beyond (beyond_reportFinal o _), order_of_beyond (beyond_lampsIfHeld _ _), order_onOrder_same,
      order_leavesPrinting, if_pos rfl]
    exact ⟨fun r => { r with placement := none, holdReason := none, settlement := some (orderSettlement r), state := .closed,
                             settleStatus := .nothingDue, closedAt := some (leavesPrinting o s).clock }, fun _ => rfl, rfl⟩
  · rw [settlementTrigger_due free, order_of_beyond (beyond_lampsIfHeld _ _), order_addSettlement, order_onOrder_same, order_leavesPrinting,
      if_pos rfl]
    exact ⟨fun r => { r with placement := none, holdReason := none, settlement := some (orderSettlement r), state := .settling },
      fun _ => rfl, rfl⟩

theorem settlementCheck_items (o : OrderId) (s : State) : ((settlementCheck o s).order o).items = (s.order o).items := by
  simp only [settlementCheck]
  split
  · obtain ⟨f, items, e⟩ := settlementTrigger_order o s
    rw [e, items]
  · rfl

theorem settlementCheck_prints {o : OrderId} {s : State} (prints : finishedPrinting (s.order o) = false) : settlementCheck o s = s :=
  if_neg fun ⟨_, finished⟩ => Bool.false_ne_true (prints.symm.trans finished)

/-! ## What the end of a copy does (R66, R90) -/

/-- R66, R90, steps 1 to 3: the port without the copy, the units it has used pending. -/
def copyCleared (p : PrinterId) (c : Copy) (used : Nat) (s : State) : State :=
  { ((s.onPrinter p fun q =>
      { q with copy := none, bufferA := { state := .empty, data := [] }, bufferB := { state := .empty, data := [] } }).onEntry p fun e =>
      { e with pendingConsumption := e.pendingConsumption + if c.releasedEarly = true then 0 else used }) with
    port := { s.port with lines := upd s.port.lines (requesterIndex (.printer p)) fun _ => [] } }

theorem order_copyCleared (p : PrinterId) (c : Copy) (used : Nat) (s : State) (o : OrderId) :
    (copyCleared p c used s).order o = s.order o := rfl

/-- R90: the end of a copy up to a service entry that is pending. -/
def copyReported (p : PrinterId) (c : Copy) (final : CopyResult) (used : Nat) (s : State) : State :=
  ((copyEnded p c final (copyCleared p c used s)).onPrinter p (recordCopy c final used)).markUnit (printerUnit p)

/-- R90: what the end of a copy does besides the order unit's part. -/
def copyClosed (p : PrinterId) (c : Copy) (final : CopyResult) (used : Nat) (s : State) : State :=
  (copyCleared p c used s).onPrinter p (recordCopy c final used)

theorem onEntry_self {s : State} {p : PrinterId} {f : StockEntry → StockEntry} (same : f (s.entry p) = s.entry p) : s.onEntry p f = s :=
  congrArg (fun v => { s with stock := v }) (upd_self same)

theorem onEntry_congr {s : State} {p : PrinterId} {f g : StockEntry → StockEntry} (same : f (s.entry p) = g (s.entry p)) :
    s.onEntry p f = s.onEntry p g := congrArg (fun v => { s with stock := v }) (upd_congr _ _ _ _ same)

theorem onPrinter_onPrinter (s : State) (p : PrinterId) (f g : Printer → Printer) :
    (s.onPrinter p f).onPrinter p g = s.onPrinter p fun q => g (f q) := congrArg (fun v => { s with printers := v }) (upd_upd _ _ _ _)

theorem onEntry_onEntry (s : State) (p : PrinterId) (f g : StockEntry → StockEntry) :
    (s.onEntry p f).onEntry p g = s.onEntry p fun e => g (f e) := congrArg (fun v => { s with stock := v }) (upd_upd _ _ _ _)

theorem besides_copyReported (p : PrinterId) (c : Copy) (final : CopyResult) (used : Nat) (s : State) :
    (copyReported p c final used s).besides = (copyClosed p c final used s).besides := by
  have same := besides_copyEnded p c final (copyCleared p c used s)
  rw [copyReported, besides_markUnit, copyClosed]
  generalize copyCleared p c used s = u at *
  generalize copyEnded p c final u = v at *
  exact besides_onPrinter same p fun _ => rfl

/-- R90: what the port shows of a copy that has ended. -/
def Printer.ended (c : Copy) (final : CopyResult) (used : Nat) (q : Printer) : Printer :=
  recordCopy c final used { q with copy := none, bufferA := { state := .empty, data := [] }, bufferB := { state := .empty, data := [] } }

theorem printer_copyClosed (p : PrinterId) (c : Copy) (final : CopyResult) (used : Nat) (s : State) :
    (copyClosed p c final used s).printer p = (s.printer p).ended c final used := by
  rw [copyClosed, printer_onPrinter_same]
  exact congrArg (recordCopy c final used) (printer_onPrinter_same s p _)

theorem printer_copyClosed_ne {p q : PrinterId} (ne : q ≠ p) (c : Copy) (final : CopyResult) (used : Nat) (s : State) :
    (copyClosed p c final used s).printer q = s.printer q :=
  (printer_onPrinter_ne _ ne.symm _).trans (printer_onPrinter_ne s ne.symm _)

theorem entry_copyClosed (p : PrinterId) (c : Copy) (final : CopyResult) (used : Nat) (s : State) :
    (copyClosed p c final used s).entry p =
      { s.entry p with pendingConsumption := (s.entry p).pendingConsumption + if c.releasedEarly = true then 0 else used } :=
  look_upd_same _ _ _

theorem entry_copyClosed_ne {p q : PrinterId} (ne : q ≠ p) (c : Copy) (final : CopyResult) (used : Nat) (s : State) :
    (copyClosed p c final used s).entry q = s.entry q := look_upd_ne _ ne.symm _

/-- A fact of the closed port that does not read the queue. -/
theorem unqueued_copyReported (p : PrinterId) (c : Copy) (final : CopyResult) (used : Nat) (s : State) :
    ((copyReported p c final used s).printer p).unqueued = ((s.printer p).ended c final used).unqueued := by
  rw [unqueued_of_besides (besides_copyReported p c final used s), printer_copyClosed]

theorem unqueued_copyReported_ne {p q : PrinterId} (ne : q ≠ p) (c : Copy) (final : CopyResult) (used : Nat) (s : State) :
    ((copyReported p c final used s).printer q).unqueued = (s.printer q).unqueued := by
  rw [unqueued_of_besides (besides_copyReported p c final used s), printer_copyClosed_ne ne]

theorem state_copyReported (p : PrinterId) (c : Copy) (final : CopyResult) (used : Nat) (s : State) :
    ((copyReported p c final used s).printer p).state = (s.printer p).state := by
  have port := unqueued_copyReported p c final used s
  generalize copyReported p c final used s = t at *
  exact (congrArg Printer.state port :)

section EndCopy
variable {p : PrinterId} {s : State} {c : Copy} (copy : (s.printer p).copy = some c)
include copy

theorem endCopy_eq (result : CopyResult) (consumed : Nat) : endCopy p result consumed s =
    if (s.printer p).servicePending = true then
      enterService p (copyReported p c (finalResult c result) (min consumed (sizeUnits c.size)) s)
    else copyReported p c (finalResult c result) (min consumed (sizeUnits c.size)) s := by
  have pending : ∀ final used, ((copyReported p c final used s).printer p).servicePending = (s.printer p).servicePending := fun final used =>
    (congrArg Printer.servicePending (unqueued_copyReported p c final used s) :)
  have cleared : ∀ used, (if c.releasedEarly = true then
        (s.onPrinter p fun q => { q with copy := none, bufferA := StripeBuffer.reset, bufferB := StripeBuffer.reset }).withdraw (.printer p)
      else ((s.onPrinter p fun q =>
          { q with copy := none, bufferA := StripeBuffer.reset, bufferB := StripeBuffer.reset }).withdraw (.printer p)).onEntry p fun e =>
        { e with pendingConsumption := e.pendingConsumption + used }) = copyCleared p c used s := fun used => by
    split
    next early =>
      refine (onEntry_self (f := fun e => { e with pendingConsumption := e.pendingConsumption + if c.releasedEarly = true then 0 else used })
        ?_).symm
      rw [if_pos early]
      rfl
    next later => simp only [copyCleared, if_neg later]; rfl
  simp only [endCopy, copy, cleared]
  simp only [← pending (finalResult c result) (min consumed (sizeUnits c.size))]
  rfl

theorem endCopy_stays (stays : (s.printer p).servicePending = false) (result : CopyResult) (consumed : Nat) : endCopy p result consumed s =
    copyReported p c (finalResult c result) (min consumed (sizeUnits c.size)) s := by
  rw [endCopy_eq copy, if_neg (by rw [stays]; decide)]

theorem endCopy_serves (pending : (s.printer p).servicePending = true) (result : CopyResult) (consumed : Nat) : endCopy p result consumed s =
    enterService p (copyReported p c (finalResult c result) (min consumed (sizeUnits c.size)) s) := by
  rw [endCopy_eq copy, if_pos pending]

theorem endCopyFull_eq (result : CopyResult) : endCopyFull p result s = endCopy p result (sizeUnits c.size) s := by
  have least : min 8 (sizeUnits c.size) = min (sizeUnits c.size) (sizeUnits c.size) := by cases c.size <;> decide
  rw [endCopyFull, endCopy_eq copy, endCopy_eq copy, least]

end EndCopy

theorem endCopy_idle {p : PrinterId} {s : State} (idle : (s.printer p).copy = none) (result : CopyResult) (consumed : Nat) :
    endCopy p result consumed s = s := by
  simp only [endCopy, idle]

/-! ## The count of a copy in its item (R34, R74, R91) -/

theorem onItem_eq {s : State} {o : OrderId} {i : Nat} {x : Item} (here : (s.order o).items[i]? = some x) (f : Item → Item) :
    s.onItem o i f = s.onOrder o fun r => { r with items := r.items.set i (f x) } := by
  refine onOrder_congr ?_
  rw [modify_eq_set here]

theorem onItem_onItem (s : State) (o : OrderId) (i : Nat) (f g : Item → Item) :
    (s.onItem o i f).onItem o i g = s.onItem o i fun x => g (f x) := by
  simp only [State.onItem, onOrder_onOrder, List.modify_modify_eq]
  rfl

/-- R34: an item of which one copy has left its printer. -/
def Item.counted (final : CopyResult) (i : Item) : Item :=
  if final = .ok then { i with inFlight := i.inFlight - 1, printed := i.printed + 1 }
  else { i with inFlight := i.inFlight - 1, failed := i.failed + 1 }

section Count
variable {p : PrinterId} {c : Copy} {u : State} {item : Item} (here : (u.order c.order).items[c.item]? = some item)
include here

theorem copyEnded_counted {final : CopyResult}
    (once : final = .ok ∨ retryGranted p c (u.onOrder c.order fun r => { r with items := r.items.set c.item (item.counted final) }) = false) :
    copyEnded p c final u = settlementCheck c.order
      (u.onOrder c.order fun r => { r with items := r.items.set c.item (finishItem (item.counted final)) }) := by
  by_cases ok : final = .ok
  · simp only [copyEnded, if_pos ok, onItem_onItem, Item.counted]
    rw [onItem_eq here]
  · have none := once.resolve_left ok
    simp only [Item.counted, if_neg ok] at none ⊢
    simp only [copyEnded, if_neg ok, onItem_eq here (fun i => { i with inFlight := i.inFlight - 1, failed := i.failed + 1 }), none,
      Bool.false_eq_true, if_false]
    rw [← onItem_eq here (fun i => { i with inFlight := i.inFlight - 1, failed := i.failed + 1 }), onItem_onItem, onItem_eq here]

theorem copyEnded_retried {final : CopyResult} (bad : final ≠ .ok)
    (again : retryGranted p c (u.onOrder c.order fun r => { r with items := r.items.set c.item (item.counted final) }) = true) :
    copyEnded p c final u = settlementCheck c.order
      ((u.onOrder c.order fun r => { r with items := r.items.set c.item (finishItem { item with inFlight := item.inFlight - 1 }) }).onNote
        c.order fun _ => some c.item) := by
  simp only [Item.counted, if_neg bad] at again
  simp only [copyEnded, if_neg bad, onItem_eq here (fun i => { i with inFlight := i.inFlight - 1, failed := i.failed + 1 }), again, if_true]
  rw [← onItem_eq here (fun i => { i with inFlight := i.inFlight - 1, failed := i.failed + 1 }), onItem_onItem]
  have swap : ∀ (t : State) (f : Option Nat → Option Nat) (g : Item → Item),
      (t.onNote c.order f).onItem c.order c.item g = (t.onItem c.order c.item g).onNote c.order f := fun _ _ _ => rfl
  rw [swap, onItem_onItem, onItem_eq here]
  rfl

end Count

theorem retryGranted_iff {p : PrinterId} {c : Copy} {t : State} {i : Item} (here : (t.order c.order).items[c.item]? = some i) :
    retryGranted p c t = true ↔ c.attempt = 1 ∧ c.releasedEarly = false ∧ (t.order c.order).state = .printing
      ∧ (t.order c.order).placement = some p ∧ (t.order c.order).cancelRequested = false ∧ i.state ≠ .unprintable ∧ i.dropped = false
      ∧ sizeUnits c.size ≤ t.freeRoom p := by
  simp only [retryGranted, here, Bool.and_eq_true, beq_iff_eq, Bool.not_eq_true', decide_eq_true_eq, bne_iff_ne, ne_eq, and_assoc]

/-- An item that is not printed to its end is not touched by its finish. -/
theorem finishItem_left {i : Item} (left : 0 < remaining i) : finishItem i = i := if_neg fun ⟨_, zero, _⟩ => Nat.ne_of_gt left zero

theorem finishItem_eq {i : Item} (known : i.state = .active ∨ i.state = .unprintable) :
    finishItem i = { i with state := if i.state = .active ∧ remaining i = 0 ∧ i.inFlight = 0 then .done else i.state } := by
  have prints : (i.state = .pending ∨ i.state = .active) ↔ i.state = .active := by
    refine ⟨fun e => e.resolve_left fun pending => ?_, Or.inr⟩
    rw [pending] at known
    exact known.elim nofun nofun
  unfold finishItem
  simp only [prints]
  split <;> rfl

/-- R34, R91: a retry leaves a copy of its item to be begun. -/
theorem remaining_retried {i : Item} (active : i.state = .active) (kept : i.dropped = false) (flies : 1 ≤ i.inFlight)
    (within : i.printed + i.failed + i.inFlight ≤ i.quantity) : 0 < remaining { i with inFlight := i.inFlight - 1 } := by
  have counts : remaining { i with inFlight := i.inFlight - 1 } = i.quantity - i.printed - i.failed - (i.inFlight - 1) :=
    if_neg (by simp [active, kept])
  omega

/-- R34, R74: the conditions for a retry as they stand once the copy has left the port. -/
def retries (p : PrinterId) (c : Copy) (item : Item) (final : CopyResult) (s u : State) : Prop :=
  final ≠ .ok ∧ c.attempt = 1 ∧ c.releasedEarly = false ∧ (s.order c.order).state = .printing
    ∧ (s.order c.order).placement = some p ∧ (s.order c.order).cancelRequested = false ∧ item.state = .active ∧ item.dropped = false
    ∧ sizeUnits c.size ≤ (u.onOrder c.order fun r => { r with items := r.items.set c.item (item.counted final) }).freeRoom p

section Ended
variable {p : PrinterId} {s : State} {c : Copy} {item : Item} (here : (s.order c.order).items[c.item]? = some item)
include here

theorem retryGranted_counted {final : CopyResult} {u : State} (order : u.order c.order = s.order c.order) (bad : final ≠ .ok)
    (known : item.state = .active ∨ item.state = .unprintable) :
    retryGranted p c (u.onOrder c.order fun r => { r with items := r.items.set c.item (item.counted final) }) = true
      ↔ retries p c item final s u := by
  have set := order_onOrder_same u c.order fun r => { r with items := r.items.set c.item (item.counted final) }
  rw [order] at set
  have item' := List.getElem?_set_self (a := item.counted final) (List.getElem?_eq_some_iff.1 here).1
  rw [retries]
  generalize u.onOrder c.order (fun r => { r with items := r.items.set c.item (item.counted final) }) = v at *
  have state : (item.counted final).state = item.state := by unfold Item.counted; split <;> rfl
  have dropped : (item.counted final).dropped = item.dropped := by unfold Item.counted; split <;> rfl
  have prints : item.state ≠ .unprintable ↔ item.state = .active := by rcases known with e | e <;> simp [e]
  rw [retryGranted_iff (by rw [set]; exact item'), set, state, dropped, prints]
  simp only [bad, ne_eq, not_false_eq_true, true_and]

variable (copy : (s.printer p).copy = some c) (stays : (s.printer p).servicePending = false)
include copy stays

theorem endCopy_retries (active : item.state = .active) (flies : 1 ≤ item.inFlight)
    (within : item.printed + item.failed + item.inFlight ≤ item.quantity) (result : CopyResult) (consumed : Nat)
    (again : retries p c item (finalResult c result) s (copyCleared p c (min consumed (sizeUnits c.size)) s)) :
    endCopy p result consumed s = (((settlementCheck c.order
      (((copyCleared p c (min consumed (sizeUnits c.size)) s).onOrder c.order fun r =>
        { r with items := r.items.set c.item { item with inFlight := item.inFlight - 1 } }).onNote c.order fun _ => some c.item)).onPrinter p
      (recordCopy c (finalResult c result) (min consumed (sizeUnits c.size)))).markUnit (printerUnit p)) := by
  obtain ⟨bad, -, -, -, -, -, -, kept, -⟩ := id again
  have order := order_copyCleared p c (min consumed (sizeUnits c.size)) s c.order
  rw [endCopy_stays copy stays, copyReported]
  generalize copyCleared p c (min consumed (sizeUnits c.size)) s = u at *
  rw [copyEnded_retried (by rw [order]; exact here) bad ((retryGranted_counted here order bad (Or.inl active)).2 again),
    finishItem_left (remaining_retried active kept flies within)]

theorem endCopy_counted (known : item.state = .active ∨ item.state = .unprintable) (result : CopyResult) (consumed : Nat)
    (once : ¬ retries p c item (finalResult c result) s (copyCleared p c (min consumed (sizeUnits c.size)) s)) :
    endCopy p result consumed s = (((settlementCheck c.order
      ((copyCleared p c (min consumed (sizeUnits c.size)) s).onOrder c.order fun r =>
        { r with items := r.items.set c.item (finishItem (item.counted (finalResult c result))) })).onPrinter p
      (recordCopy c (finalResult c result) (min consumed (sizeUnits c.size)))).markUnit (printerUnit p)) := by
  have order := order_copyCleared p c (min consumed (sizeUnits c.size)) s c.order
  rw [endCopy_stays copy stays, copyReported]
  generalize copyCleared p c (min consumed (sizeUnits c.size)) s = u at *
  rw [copyEnded_counted (by rw [order]; exact here)]
  by_cases ok : finalResult c result = .ok
  · exact Or.inl ok
  · refine Or.inr (Bool.eq_false_iff.2 fun granted => once ?_)
    exact (retryGranted_counted here order ok known).1 granted

end Ended

/-- What the port records of a copy that ended with a result. -/
theorem recordCopy_eq (c : Copy) (final : CopyResult) (used : Nat) : recordCopy c final used = fun q =>
    { q with last := some { id := c.id, result := final, consumed := used },
             counts := if final = .ok then { q.counts with copiesOk := bump q.counts.copiesOk }
                       else { q.counts with copiesFailed := bump q.counts.copiesFailed } } := rfl

/-! ## Printer states (R64, R79, R81, R99) -/

theorem setPrinterState_same {p : PrinterId} {s : State} {new : PrinterState} (same : (s.printer p).state = new) : setPrinterState p new s = s :=
  if_pos same

theorem setPrinterState_moves {p : PrinterId} {s : State} {new : PrinterState} (moves : (s.printer p).state ≠ new) :
    setPrinterState p new s = (s.onPrinter p fun q => { q with state := new }).onEntry p (graceAfter s (s.printer p).state new) :=
  if_neg moves

/-- R64: the fault grace of a printer that was healthy and goes down. -/
def graceDown (s : State) (p : PrinterId) (e : StockEntry) : StockEntry :=
  { e with grace := if (s.printer p).state = .ready ∨ (s.printer p).state = .printing ∨ (s.printer p).state = .paused
      then some (s.clock + BitVec.ofNat 32 s.timers.grace) else e.grace }

theorem healthy_iff (x : PrinterState) : healthy x = true ↔ x = .ready ∨ x = .printing ∨ x = .paused := by
  cases x <;> simp [healthy]

theorem graceAfter_down {s : State} {p : PrinterId} {new : PrinterState} (down : new = .faulted ∨ new = .offline) :
    graceAfter s (s.printer p).state new = graceDown s p := by
  funext e
  unfold graceDown
  simp only [← healthy_iff]
  rcases down with rfl | rfl <;> rfl

theorem graceDown_stays {s : State} {p : PrinterId} (low : healthy (s.printer p).state = false) (e : StockEntry) : graceDown s p e = e := by
  unfold graceDown
  rw [if_neg fun up => Bool.false_ne_true (low.symm.trans ((healthy_iff _).2 up))]

theorem setPrinterState_down {p : PrinterId} {s : State} {new : PrinterState} (down : new = .faulted ∨ new = .offline) :
    setPrinterState p new s = (s.onPrinter p fun q => { q with state := new }).onEntry p (graceDown s p) := by
  by_cases same : (s.printer p).state = new
  · have low : healthy (s.printer p).state = false := by rcases down with rfl | rfl <;> rw [same] <;> rfl
    have still : s.onPrinter p (fun q => { q with state := new }) = s := onPrinter_self (by subst same; rfl)
    rw [setPrinterState_same same, still]
    exact (onEntry_self (graceDown_stays low _)).symm
  · rw [setPrinterState_moves same, graceAfter_down down]

/-- R99: what SERVICE leaves of the port and of the stock entry. -/
def Printer.served (q : Printer) : Printer := { q with state := .service, servicePending := false, statusInService := false }

def StockEntry.rested (e : StockEntry) : StockEntry := { e with grace := none, pendingConsumption := 0 }

/-- R64, R99: SERVICE from another state. -/
theorem enterService_enters {p : PrinterId} {s : State} (out : (s.printer p).state ≠ .service) :
    enterService p s = (s.onPrinter p Printer.served).onEntry p StockEntry.rested := by
  unfold enterService
  rw [setPrinterState_moves (by rwa [printer_onPrinter_same]), onPrinter_onPrinter]
  rfl

theorem enterService_again {p : PrinterId} {s : State} (serves : (s.printer p).state = .service) :
    enterService p s = s.onPrinter p fun q => { q with servicePending := false, statusInService := false } :=
  setPrinterState_same (by rwa [printer_onPrinter_same])

/-! ## The frames and limits that end a copy -/

theorem goodFrame_live {p : PrinterId} {s : State} (on : (s.printer p).state ≠ .absent) (linked : (s.printer p).state ≠ .offline)
    (f : State → State) : goodFrame p f s = f (frameHeard p s) := by
  unfold goodFrame frameHeard
  cases state : (s.printer p).state with
  | absent => exact absurd state on
  | offline => exact absurd state linked
  | service => rfl
  | ready | printing | paused | faulted => rfl

theorem copy_frameHeard (p : PrinterId) (s : State) : ((frameHeard p s).printer p).copy = (s.printer p).copy := by
  unfold frameHeard
  split
  · rw [printer_onPrinter_same]
    exact (congrArg Printer.copy (printer_onPrinter_same s p _) :)
  · exact (congrArg Printer.copy (printer_onPrinter_same s p _) :)

theorem copyDone_ends {p : PrinterId} {s : State} {c : Copy} (copy : (s.printer p).copy = some c) (result consumed : Byte) :
    copyDone p c.id result consumed s = endCopy p (resultOfCode result) consumed.toNat s := by
  simp only [copyDone, copy, if_pos]

theorem copyDone_stray {p : PrinterId} {s : State} {c : Copy} {id : W16} (copy : (s.printer p).copy = some c) (other : id ≠ c.id)
    (result consumed : Byte) : copyDone p id result consumed s = countStray p s := by
  simp only [copyDone, copy, if_neg other.symm]

theorem beginUnanswered_again {p : PrinterId} {s : State} {c : Copy} {w : BeginWait} (copy : (s.printer p).copy = some c)
    (first : w.sends = 1) : beginUnanswered p c w s = (s.onPrinter p fun q =>
      { q with copy := some { c with beginWait := some { sends := 2, deadline := s.clock + 2#32 } } }).emit
        (.beginCopy p c.id c.size c.finish) := by
  unfold beginUnanswered
  rw [if_pos (by omega), onCopy_some copy, first]
  rfl

/-- R87: the timer of the request that runs, found by its stripe. -/
theorem onFirst_split {ok : StripeRequest → Bool} {f : StripeRequest → StripeRequest} {before after : List StripeRequest}
    {r : StripeRequest} (passed : ∀ x ∈ before, ok x = false) (found : ok r = true) :
    onFirst ok f (before ++ r :: after) = before ++ f r :: after := by
  induction before with
  | nil => exact if_pos found
  | cons x rest ih =>
    have skip : onFirst ok f (x :: (rest ++ r :: after)) = x :: onFirst ok f (rest ++ r :: after) :=
      if_neg (by rw [passed x List.mem_cons_self]; decide)
    rw [List.cons_append, skip, ih fun y mem => passed y (List.mem_cons_of_mem _ mem)]
    rfl

/-- R81: what a silent link leaves of the port. -/
def Printer.silent (clock : W32) (q : Printer) : Printer :=
  { q with watch := none, linkHeard := false, linkChangedAt := if q.linkHeard = true then some clock else q.linkChangedAt,
           live := { q.live with linkSilent := true }, latched := { q.latched with linkSilent := true } }

theorem linkSilent_eq (p : PrinterId) (s : State) : linkSilent p s = s.onPrinter p (Printer.silent s.clock) := rfl

/-- R64, R81: the printer is OFFLINE and its grace runs if it was up. -/
def goneSilent (p : PrinterId) (s : State) : State :=
  (s.onPrinter p fun q => { q.silent s.clock with state := .offline }).onEntry p (graceDown s p)

theorem linkLost_service {p : PrinterId} {s : State} (serves : (s.printer p).state = .service) :
    linkLost p s = s.onPrinter p (Printer.silent s.clock) := by
  unfold linkLost
  refine if_pos ?_
  rw [linkSilent_eq, printer_onPrinter_same]
  exact serves

theorem linkLost_down {p : PrinterId} {s : State} (out : (s.printer p).state ≠ .service) :
    linkLost p s = endCopyFull p .aborted (goneSilent p s) := by
  have state : ((linkSilent p s).printer p).state = (s.printer p).state := (congrArg Printer.state (printer_onPrinter_same s p _) :)
  have grace : graceDown (linkSilent p s) p = graceDown s p := by
    funext e
    unfold graceDown
    rw [state]
    rfl
  unfold linkLost
  simp only [state, if_neg out]
  rw [setPrinterState_down (Or.inr rfl), grace, linkSilent_eq, onPrinter_onPrinter]
  rfl

theorem printer_goneSilent (p : PrinterId) (s : State) :
    (goneSilent p s).printer p = { (s.printer p).silent s.clock with state := .offline } := printer_onPrinter_same s p _

section CopyLimits
variable {p : PrinterId} {s : State} (run : s.part = .run)
include run

theorem thenSettles_watch {u : State} (runs : (s.printer p).watch.isSome = true) (effect : linkLost p s.quiet = u) :
    ThenSettles (exec (.printerLinkWatchExpiry p) s) s.quiet u := by
  have ends : (if (s.quiet.printer p).watch.isSome = true then settle s.quiet (linkLost p s.quiet) else s.quiet) = settle s.quiet u := by
    rw [← effect]
    exact if_pos runs
  exact (event_next (fun t => if (t.printer p).watch.isSome = true then settle t (linkLost p t) else t) run).trans
    (congrArg _ (congrArg _ ends))

/-- R84: what the begin-answer limit does when it passes. -/
def beginLimit (p : PrinterId) (t : State) : State :=
  match (t.printer p).copy with
  | some c => match c.beginWait with
    | some w => settle t (beginUnanswered p c w t)
    | none => t
  | none => t

theorem thenSettles_beginLimit {c : Copy} {w : BeginWait} {u : State} (copy : (s.printer p).copy = some c) (waits : c.beginWait = some w)
    (effect : beginUnanswered p c w s.quiet = u) : ThenSettles (exec (.beginAnswerLimitExpiry p) s) s.quiet u := by
  have ends : beginLimit p s.quiet = settle s.quiet u := by
    simp only [beginLimit, show (s.quiet.printer p).copy = some c from copy, waits, effect]
  exact (event_next (beginLimit p) run).trans (congrArg _ (congrArg _ ends))

/-- R89: what the abort-answer limit does when it passes. -/
def abortLimit (p : PrinterId) (t : State) : State :=
  match (t.printer p).copy with
  | some c => if c.abortDeadline.isSome then settle t (endCopyFull p .aborted t) else t
  | none => t

theorem thenSettles_abortLimit {c : Copy} {u : State} (copy : (s.printer p).copy = some c) (waits : c.abortDeadline.isSome = true)
    (effect : endCopyFull p .aborted s.quiet = u) : ThenSettles (exec (.abortAnswerLimitExpiry p) s) s.quiet u := by
  have ends : abortLimit p s.quiet = settle s.quiet u := by
    simp only [abortLimit, show (s.quiet.printer p).copy = some c from copy, waits, effect, if_true]
  exact (event_next (abortLimit p) run).trans (congrArg _ (congrArg _ ends))

/-- R87: what an underrun timer does when it passes. -/
def underrunLimit (p : PrinterId) (n : Nat) (t : State) : State := if underrunRunning t p n then settle t (underrun p n t) else t

theorem thenSettles_underrun {n : Nat} {u : State} (runs : underrunRunning s p n = true) (effect : underrun p n s.quiet = u) :
    ThenSettles (exec (.underrunTimerExpiry p n) s) s.quiet u := by
  have ends : underrunLimit p n s.quiet = settle s.quiet u := by
    rw [← effect]
    exact if_pos runs
  exact (event_next (underrunLimit p n) run).trans (congrArg _ (congrArg _ ends))

end CopyLimits

theorem underrunRunning_of {p : PrinterId} {s : State} {c : Copy} {r : StripeRequest} (copy : (s.printer p).copy = some c)
    (mem : r ∈ c.requests) (runs : r.timer.isRunning = true) : underrunRunning s p r.stripe = true := by
  simp only [underrunRunning, copy, List.any_eq_true]
  exact ⟨r, mem, by simp [runs]⟩

theorem underrun_aborts {p : PrinterId} {s : State} {c : Copy} {before after : List StripeRequest} {r : StripeRequest}
    (copy : (s.printer p).copy = some c) (requests : c.requests = before ++ r :: after) (runs : r.timer.isRunning = true)
    (prints : c.abortCause = none) (others : ∀ x ∈ before ++ after, x.stripe ≠ r.stripe) : underrun p r.stripe s =
      { (s.onPrinter p fun q =>
          { q with counts := { q.counts with underruns := bump q.counts.underruns }, latched := { q.latched with underrun := true },
                   copy := some { c with requests := before ++ { r with timer := .stopped } :: after, abortCause := some .underrun,
                                         abortDeadline := some (s.clock + 2#32), beginWait := none } }) with
        out := s.out ++ [.abortCopy p c.id],
        port := { s.port with lines := upd s.port.lines (requesterIndex (.printer p)) fun _ => [] } } := by
  have stopped : onFirst (fun x => x.stripe == r.stripe && x.timer.isRunning) (fun x => { x with timer := .stopped }) c.requests =
      before ++ { r with timer := .stopped } :: after := by
    rw [requests]
    refine onFirst_split (fun x mem => ?_) (by simp [runs])
    simp [others x (List.mem_append_left _ mem)]
  unfold underrun
  simp only [onCopy_some copy, stopped, onPrinter_onPrinter]
  rw [abortCopy_running (c := { c with requests := before ++ { r with timer := .stopped } :: after })
    (congrArg Printer.copy (printer_onPrinter_same s p _)) prints, onPrinter_onPrinter]
  rfl

/-! ## A pending service entry at the end of a copy (R99) -/

theorem besides_onEntry {s t : State} (same : t.besides = s.besides) (p : PrinterId) (f : StockEntry → StockEntry) :
    (t.onEntry p f).besides = (s.onEntry p f).besides := (congrArg (fun u : State => u.onEntry p f) same :)

/-- R90, R99: the port and the stock entry at the end of a copy with a service entry pending. -/
def copyServed (p : PrinterId) (c : Copy) (final : CopyResult) (used : Nat) (s : State) : State :=
  ((copyClosed p c final used s).onPrinter p Printer.served).onEntry p StockEntry.rested

section Served
variable {p : PrinterId} {s : State} {c : Copy} (copy : (s.printer p).copy = some c) (out : (s.printer p).state ≠ .service)
  (pending : (s.printer p).servicePending = true)
include copy out pending

theorem endCopy_enters (result : CopyResult) (consumed : Nat) : endCopy p result consumed s =
    ((copyReported p c (finalResult c result) (min consumed (sizeUnits c.size)) s).onPrinter p Printer.served).onEntry p StockEntry.rested := by
  have state := state_copyReported p c (finalResult c result) (min consumed (sizeUnits c.size)) s
  rw [endCopy_serves copy pending]
  generalize copyReported p c (finalResult c result) (min consumed (sizeUnits c.size)) s = u at *
  exact enterService_enters (by rwa [state])

theorem besides_served (result : CopyResult) (consumed : Nat) : (endCopy p result consumed s).besides =
    (copyServed p c (finalResult c result) (min consumed (sizeUnits c.size)) s).besides := by
  rw [endCopy_enters copy out pending, copyServed]
  exact besides_onEntry (besides_onPrinter (f := Printer.served) (besides_copyReported p c _ _ s) p fun _ => rfl) p _

end Served

theorem printer_copyServed (p : PrinterId) (c : Copy) (final : CopyResult) (used : Nat) (s : State) :
    (copyServed p c final used s).printer p = ((s.printer p).ended c final used).served := by
  rw [← printer_copyClosed]
  exact printer_onPrinter_same (copyClosed p c final used s) p Printer.served

theorem printer_copyServed_ne {p q : PrinterId} (ne : q ≠ p) (c : Copy) (final : CopyResult) (used : Nat) (s : State) :
    (copyServed p c final used s).printer q = s.printer q :=
  (printer_onPrinter_ne (copyClosed p c final used s) ne.symm Printer.served).trans (printer_copyClosed_ne ne c final used s)

theorem entry_copyServed (p : PrinterId) (c : Copy) (final : CopyResult) (used : Nat) (s : State) :
    (copyServed p c final used s).entry p = { reported := (s.entry p).reported, pendingConsumption := 0, grace := none } := by
  rw [copyServed, entry_onEntry_same, StockEntry.rested]
  have reported : (((copyClosed p c final used s).onPrinter p Printer.served).entry p).reported = (s.entry p).reported :=
    (congrArg StockEntry.reported (entry_copyClosed p c final used s) :)
  rw [reported]

theorem entry_copyServed_ne {p q : PrinterId} (ne : q ≠ p) (c : Copy) (final : CopyResult) (used : Nat) (s : State) :
    (copyServed p c final used s).entry q = s.entry q :=
  (entry_onEntry_ne _ ne.symm _).trans (entry_copyClosed_ne ne c final used s)

/-! ## O56 -/

section Watch
variable {p : PrinterId} {s : State} {c : Copy} (copy : (s.printer p).copy = some c) (out : (s.printer p).state ≠ .service)
include copy out

theorem linkLost_ends : linkLost p s = endCopy p .aborted (sizeUnits c.size) (goneSilent p s) := by
  rw [linkLost_down out]
  exact endCopyFull_eq (by rw [printer_goneSilent]; exact copy) .aborted

theorem linkLost_stays (stays : (s.printer p).servicePending = false) :
    (linkLost p s).besides = (copyClosed p c (finalResult c .aborted) (sizeUnits c.size) (goneSilent p s)).besides := by
  have here : ((goneSilent p s).printer p).copy = some c := by rw [printer_goneSilent]; exact copy
  rw [linkLost_ends copy out, endCopy_stays here (by rw [printer_goneSilent]; exact stays), Nat.min_self]
  exact besides_copyReported p c _ _ _

theorem linkLost_serves (pending : (s.printer p).servicePending = true) :
    (linkLost p s).besides = (copyServed p c (finalResult c .aborted) (sizeUnits c.size) (goneSilent p s)).besides := by
  have here : ((goneSilent p s).printer p).copy = some c := by rw [printer_goneSilent]; exact copy
  have state : ((goneSilent p s).printer p).state ≠ .service := by rw [printer_goneSilent]; exact nofun
  rw [linkLost_ends copy out, besides_served here state (by rw [printer_goneSilent]; exact pending), Nat.min_self]

end Watch

theorem copyEnds {p : PrinterId} {s : State} {c : Copy} (run : s.part = .run) (copy : (s.printer p).copy = some c) :
    ((s.printer p).state ≠ .absent → (s.printer p).state ≠ .offline →
        (∀ result consumed, ThenSettles (exec (.copyDone p c.id result consumed) s) s.quiet
            (endCopy p (resultOfCode result) consumed.toNat (frameHeard p s.quiet)))
          ∧ ∀ id result consumed, id ≠ c.id → ThenSettles (exec (.copyDone p id result consumed) s) s.quiet
              ((frameHeard p s.quiet).onPrinter p fun q => { q with counts := { q.counts with stray := bump q.counts.stray } }))
      ∧ (∀ w, c.beginWait = some w → w.sends = 1 → ThenSettles (exec (.beginAnswerLimitExpiry p) s) s.quiet
          ((s.quiet.onPrinter p fun q =>
            { q with copy := some { c with beginWait := some { sends := 2, deadline := s.clock + 2#32 } } }).emit
            (.beginCopy p c.id c.size c.finish)))
      ∧ (∀ w, c.beginWait = some w → 2 ≤ w.sends → ThenSettles (exec (.beginAnswerLimitExpiry p) s) s.quiet
          (endCopy p .aborted 0 (abortCopy p .aborted s.quiet)))
      ∧ (c.abortDeadline.isSome = true → ThenSettles (exec (.abortAnswerLimitExpiry p) s) s.quiet
          (endCopy p .aborted (sizeUnits c.size) s.quiet)) := by
  refine ⟨fun on linked => ⟨fun result consumed => ?_, fun id result consumed other => ?_⟩, fun w waits first => ?_, fun w waits twice => ?_,
    fun waits => ?_⟩
  · refine thenSettles_settlingEvent (f := goodFrame p (copyDone p c.id result consumed)) run ?_
    rw [goodFrame_live (s := s.quiet) on linked, copyDone_ends ((copy_frameHeard p s.quiet).trans copy)]
  · refine thenSettles_settlingEvent (f := goodFrame p (copyDone p id result consumed)) run ?_
    rw [goodFrame_live (s := s.quiet) on linked, copyDone_stray ((copy_frameHeard p s.quiet).trans copy) other]
    rfl
  · exact thenSettles_beginLimit run copy waits (beginUnanswered_again (s := s.quiet) copy first)
  · exact thenSettles_beginLimit run copy waits (if_neg (by omega))
  · exact thenSettles_abortLimit run copy waits (endCopyFull_eq (s := s.quiet) copy .aborted)

/-- R34, R66, R90: what the end of a copy of an ACTIVE item shows. -/
theorem endCopy_shows {p : PrinterId} {s : State} {c : Copy} {item : Item} (copy : (s.printer p).copy = some c)
    (stays : (s.printer p).servicePending = false) (here : (s.order c.order).items[c.item]? = some item)
    (active : item.state = .active) (flies : 1 ≤ item.inFlight) (within : item.printed + item.failed + item.inFlight ≤ item.quantity)
    (result : CopyResult) (consumed : Nat) :
    ∃ i, ((endCopy p result consumed s).order c.order).items[c.item]? = some i ∧ i.inFlight = item.inFlight - 1
      ∧ (finalResult c result = .ok → i.printed = item.printed + 1 ∧ i.failed = item.failed)
      ∧ (finalResult c result ≠ .ok → i.printed = item.printed
          ∧ (i.failed = item.failed + 1
            ∨ (i.failed = item.failed ∧ c.attempt = 1 ∧ (endCopy p result consumed s).note c.order = some c.item))) := by
  have inside : c.item < (s.order c.order).items.length := (List.getElem?_eq_some_iff.1 here).1
  have order : ∀ used, (copyCleared p c used s).order c.order = s.order c.order := fun _ => rfl
  by_cases again : retries p c item (finalResult c result) s (copyCleared p c (min consumed (sizeUnits c.size)) s)
  · obtain ⟨bad, attempt, -, -, -, -, -, kept, -⟩ := id again
    have left : 0 < remaining { item with inFlight := item.inFlight - 1 } := remaining_retried active kept flies within
    rw [endCopy_retries here copy stays active flies within result consumed again]
    have items := order (min consumed (sizeUnits c.size))
    generalize copyCleared p c (min consumed (sizeUnits c.size)) s = u at *
    have set : ((u.onOrder c.order fun r => { r with items := r.items.set c.item { item with inFlight := item.inFlight - 1 } }).order
        c.order).items[c.item]? = some { item with inFlight := item.inFlight - 1 } := by
      rw [order_onOrder_same, items]
      exact List.getElem?_set_self inside
    generalize u.onOrder c.order (fun r => { r with items := r.items.set c.item { item with inFlight := item.inFlight - 1 } }) = v at *
    have prints : finishedPrinting ((v.onNote c.order fun _ => some c.item).order c.order) = false := by
      refine Bool.eq_false_iff.2 fun all => ?_
      have whole := List.all_eq_true.1 all _ (List.mem_of_getElem? set)
      simp [active] at whole
    have noted : (v.onNote c.order fun _ => some c.item).note c.order = some c.item := look_upd_same _ _ _
    have still : (v.onNote c.order fun _ => some c.item).order c.order = v.order c.order := rfl
    rw [settlementCheck_prints prints]
    rw [← still] at set
    generalize v.onNote c.order (fun _ => some c.item) = w at *
    exact ⟨{ item with inFlight := item.inFlight - 1 }, set, rfl, fun ok => absurd ok bad, fun _ => ⟨rfl, Or.inr ⟨rfl, attempt, noted⟩⟩⟩
  · rw [endCopy_counted here copy stays (Or.inl active) result consumed again]
    have items := order (min consumed (sizeUnits c.size))
    generalize copyCleared p c (min consumed (sizeUnits c.size)) s = u at *
    have set : ((u.onOrder c.order fun r =>
        { r with items := r.items.set c.item (finishItem (item.counted (finalResult c result))) }).order
        c.order).items[c.item]? = some (finishItem (item.counted (finalResult c result))) := by
      rw [order_onOrder_same, items]
      exact List.getElem?_set_self inside
    have kept := settlementCheck_items c.order
      (u.onOrder c.order fun r => { r with items := r.items.set c.item (finishItem (item.counted (finalResult c result))) })
    replace set := (congrArg (fun l : List Item => l[c.item]?) kept).trans set
    generalize settlementCheck c.order _ = w at *
    have counts : ∀ i : Item, (finishItem i).inFlight = i.inFlight ∧ (finishItem i).printed = i.printed
        ∧ (finishItem i).failed = i.failed := fun i => by
      unfold finishItem
      split <;> exact ⟨rfl, rfl, rfl⟩
    obtain ⟨flight, printed, failed⟩ := counts (item.counted (finalResult c result))
    refine ⟨finishItem (item.counted (finalResult c result)), set, ?_,
      fun ok => ⟨?_, ?_⟩, fun bad => ⟨?_, Or.inl ?_⟩⟩
    · rw [flight, Item.counted]
      split <;> rfl
    · rw [printed, Item.counted, if_pos ok]
    · rw [failed, Item.counted, if_pos ok]
    · rw [printed, Item.counted, if_neg bad]
    · rw [failed, Item.counted, if_neg bad]

/-- Settles O56. -/
theorem copiesEndOnceAndAreCounted : Obligations.CopiesEndOnceAndAreCounted := by
  refine ⟨fun p s c run copy => ?_, fun p s c item result consumed copy stays here active flies within => ?_,
    fun p s c item counted ended result consumed used u v retry copy stays here known flies within hused hu hcounted hretry again hended once =>
      ?_, fun p s run runs serves => ?_, fun p s run idle runs out => ?_⟩
  · obtain ⟨done, second, third, late⟩ := copyEnds run copy
    refine ⟨done, second, third, late, fun r before after requests runs prints others => ?_, fun runs out stays => ?_,
      fun runs out pending => ?_⟩
    · refine thenSettles_underrun run (underrunRunning_of copy ?_ runs) (underrun_aborts (s := s.quiet) copy requests runs prints others)
      rw [requests]
      exact List.mem_append_right _ List.mem_cons_self
    · refine ⟨_, thenSettles_watch run runs rfl, ?_⟩
      have same := linkLost_stays (s := s.quiet) copy out stays
      have port := unqueued_of_besides same p
      rw [printer_copyClosed, printer_goneSilent] at port
      have entry := entry_of_besides same p
      rw [entry_copyClosed, goneSilent, entry_onEntry_same] at entry
      exact ⟨(congrArg Printer.state port :), (congrArg Printer.copy port :), (congrArg Printer.watch port :),
        (congrArg (fun q => q.live.linkSilent) port :), (congrArg (fun q => q.latched.linkSilent) port :), (congrArg Printer.last port :),
        out_of_besides same, (congrArg StockEntry.grace entry :)⟩
    · refine ⟨_, thenSettles_watch run runs rfl, ?_⟩
      have same := linkLost_serves (s := s.quiet) copy out pending
      have port := unqueued_of_besides same p
      rw [printer_copyServed, printer_goneSilent] at port
      exact ⟨(congrArg Printer.state port :), (congrArg Printer.copy port :), (congrArg Printer.servicePending port :),
        (congrArg Printer.watch port :), (congrArg (fun q => q.live.linkSilent) port :), (congrArg (fun q => q.latched.linkSilent) port :),
        (congrArg Printer.last port :), out_of_besides same⟩
  · have same : (endCopy p result consumed s).besides = _ :=
      (congrArg State.besides (endCopy_stays copy stays result consumed)).trans (besides_copyReported p c _ _ s)
    have port := unqueued_of_besides same p
    rw [printer_copyClosed] at port
    have entry := entry_of_besides same p
    rw [entry_copyClosed] at entry
    have counts : ((endCopy p result consumed s).printer p).counts = _ := (congrArg Printer.counts port :)
    obtain ⟨i, at_, flight, good, bad⟩ := endCopy_shows copy stays here active flies within result consumed
    refine ⟨(congrArg Printer.copy port :), (congrArg (fun q => q.bufferA.state) port :), (congrArg (fun q => q.bufferB.state) port :),
      (congrArg Printer.last port :), (congrArg Printer.state port :), fun later => ?_, fun early => ?_, fun ok => ⟨?_, i, at_, ?_⟩,
      fun fails => ⟨?_, i, at_, ?_⟩⟩
    · rw [entry, if_neg (by rw [later]; decide)]
    · rw [entry, if_pos early, Nat.add_zero]
    · rw [counts]
      exact (congrArg PrinterCounts.copiesOk (if_pos ok) :)
    · exact ⟨(good ok).1, (good ok).2, flight⟩
    · rw [counts]
      exact (congrArg PrinterCounts.copiesFailed (if_neg fails) :)
    · exact ⟨(bad fails).1, flight, (bad fails).2⟩
  · have cleared : u = copyCleared p c used s := hu
    have tally : counted = item.counted (finalResult c result) := hcounted
    have asks : retry ↔ retries p c item (finalResult c result) s (copyCleared p c (min consumed (sizeUnits c.size)) s) := by
      rw [hretry, cleared, tally, hused]
      rfl
    have state : counted.state = item.state := by
      rw [tally, Item.counted]
      split <;> rfl
    by_cases retried : retry
    · obtain ⟨-, -, -, -, -, -, active, -, -⟩ := asks.1 retried
      rw [endCopy_retries here copy stays active flies within result consumed (asks.1 retried), again retried, cleared,
        hused, recordCopy_eq]
    · have finished : ended = finishItem (item.counted (finalResult c result)) := by
        rw [← tally, finishItem_eq (by rwa [state]), state, hended]
      rw [endCopy_counted here copy stays known result consumed fun r => retried (asks.2 r), once retried, cleared, hused, recordCopy_eq,
        finished]
  · exact thenSettles_watch run runs (linkLost_service (s := s.quiet) serves)
  · refine thenSettles_watch run runs ?_
    have gone : ((goneSilent p s.quiet).printer p).copy = none := by rw [printer_goneSilent]; exact idle
    rw [linkLost_down (s := s.quiet) out, endCopyFull, endCopy_idle gone]
    rfl

end Sys2Proof.Machine
end

section
/-! SUPPORT. The beginning of a copy (R34, R83, R91) and its stripes: requests, fetches, frames and holds (R80, R81, R85 to R88). -/

namespace Sys2Proof.Machine

/-! ## The next copy (R34, R83) -/

theorem nextItem_none {r : Order} (nothing : (r.state ≠ .paid ∧ r.state ≠ .printing) ∨ ∀ k ∈ r.items, remaining k = 0) : nextItem r = none := by
  unfold nextItem
  rcases nothing with ⟨paid, printing⟩ | done
  · exact if_neg fun e => e.elim paid printing
  · split
    · refine List.findIdx?_eq_none_iff.2 fun k mem => ?_
      rw [done k mem]
      rfl
    · rfl

theorem nextItem_some {r : Order} {before after : List Item} {i : Item} (prints : r.state = .paid ∨ r.state = .printing)
    (items : r.items = before ++ i :: after) (done : ∀ k ∈ before, remaining k = 0) (left : 0 < remaining i) :
    nextItem r = some before.length := by
  unfold nextItem
  rw [if_pos prints, items, List.findIdx?_append, List.findIdx?_eq_none_iff.2 fun k mem => by rw [done k mem]; rfl,
    List.findIdx?_cons, if_pos (decide_eq_true left)]
  simp

theorem nextCopy_none {s : State} {p : PrinterId} (nothing : ∀ o ∈ (s.printer p).queue, nextItem (s.order o) = none) :
    nextCopy s p = none := by
  refine List.findSome?_eq_none_iff.2 fun o mem => ?_
  rw [nothing o mem]
  rfl

theorem nextCopy_some {s : State} {p : PrinterId} {early late : List OrderId} {o : OrderId} {i : Nat}
    (queue : (s.printer p).queue = early ++ o :: late) (nothing : ∀ x ∈ early, nextItem (s.order x) = none)
    (next : nextItem (s.order o) = some i) : nextCopy s p = some (o, i) := by
  have none : early.findSome? (fun o => (nextItem (s.order o)).map fun i => (o, i)) = none :=
    List.findSome?_eq_none_iff.2 fun x mem => by rw [nothing x mem]; rfl
  unfold nextCopy
  rw [queue, List.findSome?_append, none, List.findSome?_cons, next]
  rfl

theorem beginCheck_stays {p : PrinterId} {s : State}
    (stays : (s.printer p).state ≠ .ready ∧ (s.printer p).state ≠ .printing ∨ (s.printer p).copy.isSome = true
      ∨ (s.printer p).servicePending = true ∨ nextCopy s p = none) : beginCheck p s = s := by
  simp only [beginCheck]
  split
  next can =>
    obtain ⟨up, idle, stay⟩ := can
    rcases stays with ⟨ready, printing⟩ | flies | pending | none
    · exact absurd up fun e => e.elim ready printing
    · rw [idle] at flies
      exact absurd flies Bool.false_ne_true
    · exact absurd (stay.symm.trans pending) Bool.false_ne_true
    · rw [none]
  next => rfl

theorem beginCheck_begins {p : PrinterId} {s : State} {o : OrderId} {i : Nat} {item : Item}
    (up : (s.printer p).state = .ready ∨ (s.printer p).state = .printing) (idle : (s.printer p).copy = none)
    (stays : (s.printer p).servicePending = false) (next : nextCopy s p = some (o, i)) (here : (s.order o).items[i]? = some item) :
    beginCheck p s = beginCopy p o i item s := by
  simp only [beginCheck]
  rw [if_pos ⟨up, idle, stays⟩]
  simp only [next, here]

/-- R83, R91: the copy that begins; a retry is the second attempt. -/
def newCopy (s : State) (p : PrinterId) (o : OrderId) (i : Nat) (item : Item) : Copy :=
  { id := (s.printer p).nextCopyId, order := o, item := i, size := item.size, finish := item.finish,
    attempt := if s.note o = some i then 2 else 1, highest := none, sent := 0, requests := [], held := false, abortCause := none,
    releasedEarly := false, beginWait := some { sends := 1, deadline := s.clock + 2#32 }, abortDeadline := none }

/-- R34: the order of a copy that begins. -/
def Order.beginsCopy (i : Nat) (r : Order) : Order :=
  { r with items := r.items.modify i fun x => { x with inFlight := x.inFlight + 1, state := if x.state = .pending then .active else x.state },
           state := if r.state = .paid then .printing else r.state }

theorem beginCopy_eq (p : PrinterId) (o : OrderId) (i : Nat) (item : Item) (s : State) : beginCopy p o i item s =
    ((((s.onPrinter p fun q =>
        { q with nextCopyId := nextId (s.printer p).nextCopyId, copy := some (newCopy s p o i item), bufferA := StripeBuffer.reset,
                 bufferB := StripeBuffer.reset, target := .a }).onNote o fun n =>
      if s.note o = some i then none else n).emit (.beginCopy p (s.printer p).nextCopyId item.size item.finish)).onOrder o
      (Order.beginsCopy i)) := by
  unfold beginCopy copyBegins newCopy Order.beginsCopy
  by_cases again : s.note o = some i
  · have second : (s.note o == some i) = true := beq_iff_eq.2 again
    simp only [second, if_true, if_pos again, State.onItem]
    rw [onOrder_onOrder]
    rfl
  · have first : (s.note o == some i) = false := beq_eq_false_iff_ne.2 again
    have noted : ∀ u : State, (u.onNote o fun n => n) = u := fun u => congrArg (fun v => { u with retryNotes := v }) (upd_self rfl)
    simp only [first, Bool.false_eq_true, if_false, if_neg again, State.onItem, noted]
    rw [onOrder_onOrder]
    rfl

/-- State without the orders, the retry notes, the printers and what is sent. -/
def State.offPress (s : State) : State :=
  { s with orders := State.reset.orders, retryNotes := State.reset.retryNotes, printers := State.reset.printers, out := [] }

theorem rest_of_offPress {s t : State} (same : t.offPress = s.offPress) :
    { t with orders := s.orders, retryNotes := s.retryNotes, printers := s.printers, out := s.out } = s :=
  (congrArg (fun u : State => { u with orders := s.orders, retryNotes := s.retryNotes, printers := s.printers, out := s.out }) same :)

theorem offPress_onPrinter (s : State) (p : PrinterId) (f : Printer → Printer) : (s.onPrinter p f).offPress = s.offPress := rfl
theorem offPress_onOrder (s : State) (o : OrderId) (f : Order → Order) : (s.onOrder o f).offPress = s.offPress := rfl
theorem offPress_onNote (s : State) (o : OrderId) (f : Option Nat → Option Nat) : (s.onNote o f).offPress = s.offPress := rfl
theorem offPress_emit (s : State) (x : Out) : (s.emit x).offPress = s.offPress := rfl

/-- R34, R83: a copy that begins leaves the rest of State alone. -/
theorem beginCopy_rest (p : PrinterId) (o : OrderId) (i : Nat) (item : Item) (s : State) :
    { beginCopy p o i item s with orders := s.orders, retryNotes := s.retryNotes, printers := s.printers, out := s.out } = s := by
  refine rest_of_offPress ?_
  rw [beginCopy_eq, offPress_onOrder, offPress_emit, offPress_onNote, offPress_onPrinter]

/-! ## The next frame (R86) -/

theorem stripe_iff (b : StripeBuffer) (n : Nat) :
    b.stripe = some n ↔ b.state = .filling n ∨ b.state = .full n ∨ b.state = .sending n ∨ b.state = .sent n := by
  unfold StripeBuffer.stripe
  cases b.state <;> simp

theorem hasBuffer_iff (q : Printer) (n : Nat) : hasBuffer q n = true ↔ q.bufferA.stripe = some n ∨ q.bufferB.stripe = some n := by
  simp [hasBuffer]

/-- R86: a request that is still to be sent. -/
def unstarted (q : Printer) (r : StripeRequest) : Prop := r.started = false ∧ hasBuffer q r.stripe = true

theorem lowestUnstarted_skips {q : Printer} {x : StripeRequest} (skip : ¬ unstarted q x) (rest : List StripeRequest) :
    lowestUnstarted q (x :: rest) = lowestUnstarted q rest := by
  refine if_pos ?_
  refine Classical.byContradiction fun none => ?_
  rw [not_or, Bool.not_eq_true, Bool.not_eq_false] at none
  exact skip none

theorem lowestUnstarted_takes {q : Printer} {x : StripeRequest} (due : unstarted q x) (rest : List StripeRequest) :
    lowestUnstarted q (x :: rest) = some (((lowestUnstarted q rest).map (min x.stripe)).getD x.stripe) := by
  obtain ⟨started, has⟩ := due
  refine (if_neg (by simp [started, has])).trans ?_
  cases lowestUnstarted q rest <;> rfl

theorem lowestUnstarted_none {q : Printer} {l : List StripeRequest} (idle : ∀ r ∈ l, ¬ unstarted q r) : lowestUnstarted q l = none := by
  induction l with
  | nil => rfl
  | cons x rest ih =>
    rw [lowestUnstarted_skips (idle x List.mem_cons_self), ih fun y mem => idle y (List.mem_cons_of_mem _ mem)]

theorem lowestUnstarted_above {q : Printer} {l : List StripeRequest} {n : Nat} (least : ∀ r ∈ l, unstarted q r → n ≤ r.stripe) {m : Nat}
    (lowest : lowestUnstarted q l = some m) : n ≤ m := by
  induction l generalizing m with
  | nil => exact absurd lowest nofun
  | cons y rest ih =>
    have tail := fun {m} => @ih (fun r mem => least r (List.mem_cons_of_mem _ mem)) m
    by_cases due : unstarted q y
    · rw [lowestUnstarted_takes due, Option.some.injEq] at lowest
      have own := least y List.mem_cons_self due
      cases more : lowestUnstarted q rest with
      | none => rw [more] at lowest; exact lowest ▸ own
      | some k => rw [more] at lowest; exact lowest ▸ Nat.le_min.2 ⟨own, tail more⟩
    · exact tail ((lowestUnstarted_skips due rest).symm.trans lowest)

/-- R86: the stripe asked for that is nearest the top of the raster. -/
theorem lowestUnstarted_least {q : Printer} {l : List StripeRequest} {n : Nat} (found : ∃ r ∈ l, unstarted q r ∧ r.stripe = n)
    (least : ∀ r ∈ l, unstarted q r → n ≤ r.stripe) : lowestUnstarted q l = some n := by
  induction l with
  | nil => simp at found
  | cons x rest ih =>
    have leastRest : ∀ r ∈ rest, unstarted q r → n ≤ r.stripe := fun r mem => least r (List.mem_cons_of_mem _ mem)
    by_cases later : ∃ r ∈ rest, unstarted q r ∧ r.stripe = n
    · by_cases due : unstarted q x
      · rw [lowestUnstarted_takes due, ih later leastRest]
        exact congrArg some (Nat.min_eq_right (least x List.mem_cons_self due))
      · rw [lowestUnstarted_skips due, ih later leastRest]
    · obtain ⟨r, mem, due, stripe⟩ := found
      rcases List.mem_cons.1 mem with rfl | inRest
      · rw [lowestUnstarted_takes due]
        cases next : lowestUnstarted q rest with
        | none => exact congrArg some stripe
        | some m => rw [Option.map_some, Option.getD_some, stripe, Nat.min_eq_left (lowestUnstarted_above leastRest next)]
      · exact absurd ⟨r, inRest, due, stripe⟩ later

theorem startRequest_split {before after : List StripeRequest} {r : StripeRequest} (fresh : r.started = false)
    (passed : ∀ x ∈ before, x.started = true ∨ x.stripe ≠ r.stripe) :
    startRequest r.stripe (before ++ r :: after) = before ++ { r with started := true, timer := .stopped } :: after := by
  refine onFirst_split (fun x mem => ?_) (by simp [fresh])
  rcases passed x mem with e | e <;> simp [e]

section Send
variable {p : PrinterId} {s : State}

theorem trySend_idle (idle : (s.printer p).copy = none) : trySend p s = s := by
  simp only [trySend, idle]

variable {c : Copy} (copy : (s.printer p).copy = some c)
include copy

theorem trySend_waits (waits : c.held = true ∨ c.abortCause.isSome = true ∨ (s.printer p).transmitting.isSome = true
    ∨ lowestUnstarted (s.printer p) c.requests = none) : trySend p s = s := by
  simp only [trySend, copy]
  split
  · rfl
  next open_ =>
    rw [not_or, not_or] at open_
    obtain ⟨held, aborting, busy⟩ := open_
    rcases waits with e | e | e | none
    · exact absurd e held
    · exact absurd e aborting
    · exact absurd e busy
    · simp only [none]

theorem trySend_unready {n : Nat} (lowest : lowestUnstarted (s.printer p) c.requests = some n) (unready : sendable (s.printer p) n = none) :
    trySend p s = s := by
  simp only [trySend, copy, lowest, unready]
  split <;> rfl

theorem trySend_starts (unheld : c.held = false) (prints : c.abortCause = none) (free : (s.printer p).transmitting = none) {n : Nat}
    {side : Target} (lowest : lowestUnstarted (s.printer p) c.requests = some n)
    (ready : sendable (s.printer p) n = some side) : trySend p s =
      { (s.onPrinter p fun q =>
          { (q.setBuffer side { q.buffer side with state := .sending n }) with
            transmitting := some { copyId := c.id, stripe := n }, copy := some { c with requests := startRequest n c.requests } }) with
        out := s.out ++ [.stripeFrame p n ((s.printer p).buffer side).data] } := by
  have opened : ¬(c.held = true ∨ c.abortCause.isSome = true ∨ (s.printer p).transmitting.isSome = true) := by simp [unheld, prints, free]
  simp only [trySend, copy, if_neg opened, lowest, ready]
  have still : (((s.onPrinter p fun q => { (q.setBuffer side { q.buffer side with state := .sending n }) with
      transmitting := some { copyId := c.id, stripe := n } }).printer p).copy) = some c := by
    rw [printer_onPrinter_same]
    cases side <;> exact copy
  rw [onCopy_some still, onPrinter_onPrinter]
  rfl

end Send

/-! ## What is sent next, on the statement's terms -/

section Ready
variable {p : PrinterId} {s : State} {c : Copy} {before after : List StripeRequest} {r : StripeRequest}
  (requests : c.requests = before ++ r :: after) (fresh : r.started = false)
  (least : ∀ x ∈ c.requests, x.started = false → (s.printer p).bufferA.stripe = some x.stripe ∨ (s.printer p).bufferB.stripe = some x.stripe →
    r.stripe ≤ x.stripe)
include requests fresh least

theorem lowest_request (has : hasBuffer (s.printer p) r.stripe = true) : lowestUnstarted (s.printer p) c.requests = some r.stripe := by
  refine lowestUnstarted_least ⟨r, ?_, ⟨fresh, has⟩, rfl⟩ fun x mem ⟨started, due⟩ => least x mem started ((hasBuffer_iff _ _).1 due)
  rw [requests]
  exact List.mem_append_right _ List.mem_cons_self

variable (copy : (s.printer p).copy = some c) (passed : ∀ x ∈ before, x.started = true ∨ x.stripe ≠ r.stripe) (unheld : c.held = false) (prints : c.abortCause = none)
  (free : (s.printer p).transmitting = none)
include copy passed unheld prints free

theorem trySend_request {side : Target} (has : hasBuffer (s.printer p) r.stripe = true)
    (ready : sendable (s.printer p) r.stripe = some side) : trySend p s =
      { (s.onPrinter p fun q =>
          { (q.setBuffer side { q.buffer side with state := .sending r.stripe }) with
            transmitting := some { copyId := c.id, stripe := r.stripe },
            copy := some { c with requests := before ++ { r with started := true, timer := .stopped } :: after } }) with
        out := s.out ++ [.stripeFrame p r.stripe ((s.printer p).buffer side).data] } := by
  rw [trySend_starts copy unheld prints free (lowest_request requests fresh least has) ready, requests, startRequest_split fresh passed]

end Ready

theorem sendable_a {q : Printer} {n : Nat} (ready : q.bufferA.state = .full n ∨ q.bufferA.state = .sent n) : sendable q n = some .a :=
  if_pos ready

theorem sendable_b {q : Printer} {n : Nat} (other : q.bufferA.stripe ≠ some n) (ready : q.bufferB.state = .full n ∨ q.bufferB.state = .sent n) :
    sendable q n = some .b := by
  have unready : ¬(q.bufferA.state = .full n ∨ q.bufferA.state = .sent n) := fun e => other ((stripe_iff _ _).2 (by grind))
  rw [sendable, if_neg unready, if_pos ready]

theorem sendable_filling {q : Printer} {n : Nat} (fills : q.bufferA.state = .filling n ∧ q.bufferB.stripe ≠ some n
    ∨ q.bufferB.state = .filling n ∧ q.bufferA.stripe ≠ some n) : sendable q n = none := by
  have unready : ∀ b : StripeBuffer, b.state = .filling n ∨ b.stripe ≠ some n → ¬(b.state = .full n ∨ b.state = .sent n) := by
    rintro b (state | other) e
    · rw [state] at e
      exact e.elim nofun nofun
    · exact other ((stripe_iff _ _).2 (by grind))
  rw [sendable, if_neg (unready _ (by grind)), if_neg (unready _ (by grind))]

/-! ## A good frame on a live link (R81) -/

/-- R81: the port once a good frame has been heard. -/
def Printer.hears (clock : W32) (q : Printer) : Printer :=
  if q.state = .service then
    { q with watch := some (clock + 1#32), linkHeard := true, linkChangedAt := if q.linkHeard = true then q.linkChangedAt else some clock,
             live := { q.live with linkSilent := false } }
  else { q with watch := some (clock + 1#32) }

theorem frameHeard_eq (p : PrinterId) (s : State) : frameHeard p s = s.onPrinter p (Printer.hears s.clock) := by
  by_cases serves : (s.printer p).state = .service
  · rw [frameHeard, if_pos serves, printerWatched, onPrinter_onPrinter]
    refine onPrinter_congr ?_
    rw [Printer.hears, if_pos serves]
    rfl
  · rw [frameHeard, if_neg serves]
    refine onPrinter_congr ?_
    rw [Printer.hears, if_neg serves]
    rfl

theorem printer_frameHeard (p : PrinterId) (s : State) : (frameHeard p s).printer p = (s.printer p).hears s.clock := by
  rw [frameHeard_eq, printer_onPrinter_same]

/-- The port as a good frame leaves it alone. -/
theorem hears_rest (clock : W32) (q : Printer) :
    { q.hears clock with watch := q.watch, linkHeard := q.linkHeard, linkChangedAt := q.linkChangedAt, live := q.live } = q := by
  unfold Printer.hears
  split <;> rfl

theorem target_hears (clock : W32) (q : Printer) : (q.hears clock).target = q.target := (congrArg Printer.target (hears_rest clock q) :)

theorem buffer_hears (clock : W32) (q : Printer) (side : Target) : (q.hears clock).buffer side = q.buffer side := by
  unfold Printer.hears
  split <;> cases side <;> rfl

theorem watch_hears (clock : W32) (q : Printer) : (q.hears clock).watch = some (clock + 1#32) := by
  unfold Printer.hears
  split <;> rfl

theorem stripeCase_hears (clock : W32) (q : Printer) (n : Nat) : stripeCase (q.hears clock) n = stripeCase q n := by
  unfold Printer.hears
  split <;> rfl

/-! ## NEXT_STRIPE (R85) -/

/-- R85: the stripe a new request asks for. -/
def Copy.wanted (c : Copy) : Nat := match c.highest with | some h => h + 1 | none => 0

section NextStripe
variable {q : Printer} {n : Nat}

theorem stripeCase_idle (idle : q.copy = none) : stripeCase q n = .outOfSequence := by simp only [stripeCase, idle]

variable {c : Copy} (copy : q.copy = some c)
include copy

theorem stripeCase_full (full : c.abortCause.isSome = true ∨ 2 ≤ c.requests.length) : stripeCase q n = .outOfSequence := by
  simp only [stripeCase, copy, if_pos full]

variable (prints : c.abortCause = none) (room : c.requests.length < 2)
include prints room

theorem stripeCase_new (next : n = c.wanted) (inside : n < sizeStripes c.size) : stripeCase q n = .newRequest := by
  have opened : ¬(c.abortCause.isSome = true ∨ 2 ≤ c.requests.length) := by
    rw [prints]
    simpa using room
  simp only [stripeCase, copy, if_neg opened]
  exact if_pos ⟨next, inside⟩

theorem stripeCase_again (repeats : n ≠ c.wanted ∨ sizeStripes c.size ≤ n) (held : q.bufferA.state = .sent n ∨ q.bufferB.state = .sent n) :
    stripeCase q n = .again := by
  have opened : ¬(c.abortCause.isSome = true ∨ 2 ≤ c.requests.length) := by
    rw [prints]
    simpa using room
  simp only [stripeCase, copy, if_neg opened, if_pos held]
  exact if_neg fun ⟨next, inside⟩ => repeats.elim (fun other => other next) fun past => absurd inside (Nat.not_lt.2 past)

end NextStripe

theorem stripeCase_strange {q : Printer} {n : Nat} {c : Copy} (copy : q.copy = some c) (repeats : n ≠ c.wanted ∨ sizeStripes c.size ≤ n)
    (gone : q.bufferA.state ≠ .sent n ∧ q.bufferB.state ≠ .sent n) : stripeCase q n = .outOfSequence := by
  have none : ¬(q.bufferA.state = .sent n ∨ q.bufferB.state = .sent n) := fun e => e.elim gone.1 gone.2
  simp only [stripeCase, copy, if_neg none]
  split
  · rfl
  · exact if_neg fun ⟨next, inside⟩ => repeats.elim (fun other => other next) fun past => absurd inside (Nat.not_lt.2 past)

/-- R86: what a new request does to the port. -/
def Printer.asked (n : Nat) (c : Copy) (q : Printer) : Printer :=
  { (q.setBuffer q.target { state := .filling n, data := [] }) with
    target := otherTarget q.target, copy := some { addRequest n c with highest := some n } }

/-- Transfers of one requester that are asked for one after another join its line in this order. -/
theorem lines_present {r : Requester} {l : List Transfer} (own : ∀ x ∈ l, x.requester = r) (s : State) :
    forEach l (fun x u => u.present x) s = s.onPort fun q => { q with lines := upd q.lines (requesterIndex r) (· ++ l) } := by
  induction l generalizing s with
  | nil =>
    have same : upd s.port.lines (requesterIndex r) (fun line => line ++ []) = s.port.lines := upd_self (List.append_nil _)
    exact congrArg (fun v => { s with port := { s.port with lines := v } }) same.symm
  | cons x rest ih =>
    have step : forEach (x :: rest) (fun x u => u.present x) s = forEach rest (fun x u => u.present x) (s.present x) := rfl
    rw [step, ih fun y mem => own y (List.mem_cons_of_mem _ mem), State.present, own x List.mem_cons_self]
    refine congrArg (fun v => { s with port := { s.port with lines := v } }) ?_
    simp only [State.onPort, upd_upd, List.append_assoc, List.singleton_append]

theorem newStripe_eq {p : PrinterId} {s : State} {c : Copy} {item : Item} (copy : (s.printer p).copy = some c)
    (here : (s.order c.order).items[c.item]? = some item) (n : Nat) : newStripe p n s =
      (s.onPrinter p (Printer.asked n c)).onPort fun q =>
        { q with lines := upd q.lines (requesterIndex (.printer p)) (· ++ fetchTransfers p c item n (s.printer p).target) } := by
  have still : ((s.onPrinter p fun q => { (q.setBuffer q.target { state := .filling n, data := [] }) with
      target := otherTarget q.target }).printer p).copy = some c := by
    rw [printer_onPrinter_same]
    unfold Printer.setBuffer
    split <;> exact copy
  simp only [newStripe, copy, here]
  rw [lines_present (r := .printer p) (fun x mem => ?_), onCopy_some still, onPrinter_onPrinter]
  · rfl
  · obtain ⟨k, _, rfl⟩ := List.mem_map.1 mem
    rfl

theorem fetchTransfers_length (p : PrinterId) (c : Copy) (item : Item) (n : Nat) (side : Target) :
    (fetchTransfers p c item n side).map (·.length) = List.replicate 10 4096 ++ [2240] := rfl

theorem fetchTransfers_get {p : PrinterId} {c : Copy} {item : Item} {n : Nat} {side : Target} {k : Nat} {t : Transfer}
    (get : (fetchTransfers p c item n side)[k]? = some t) : t.address = item.address + n * 43200 + 4096 * k ∧ t.aperture = item.aperture
      ∧ t.direction = .read ∧ t.purpose = .stripe c.id n side (k == 10) := by
  rw [fetchTransfers, List.getElem?_map, Option.map_eq_some_iff] at get
  obtain ⟨j, inside, rfl⟩ := get
  obtain ⟨_, rfl⟩ := List.getElem?_eq_some_iff.1 inside
  simp only [List.getElem_range]
  refine ⟨?_, trivial, trivial, trivial⟩
  rw [Nat.mul_comm 4096 k]
  rfl

/-! ## HOLD, RESUME and the end of a STRIPE frame (R86, R88) -/

theorem nextStripe_new {p : PrinterId} {s : State} {n : Nat} (case : stripeCase (s.printer p) n = .newRequest) :
    nextStripe p n s = newStripe p n s := by
  simp only [nextStripe, case]

theorem nextStripe_again {p : PrinterId} {s : State} {n : Nat} {c : Copy} (case : stripeCase (s.printer p) n = .again)
    (copy : (s.printer p).copy = some c) :
    nextStripe p n s = trySend p (s.onPrinter p fun q => { q with copy := some (addRequest n c) }) := by
  simp only [nextStripe, case, onCopy_some copy]

theorem nextStripe_strange {p : PrinterId} {s : State} {n : Nat} (case : stripeCase (s.printer p) n = .outOfSequence) :
    nextStripe p n s = s.onPrinter p fun q => { q with counts := { q.counts with sequence := bump q.counts.sequence } } := by
  simp only [nextStripe, case]

section Holds
variable {p : PrinterId} {s : State}

theorem holdCopy_idle (idle : (s.printer p).copy = none) : holdCopy p s = countStray p s := by simp only [holdCopy, idle]

theorem resumeCopy_idle (idle : (s.printer p).copy = none) : resumeCopy p s = countStray p s := by simp only [resumeCopy, idle]

variable {c : Copy} (copy : (s.printer p).copy = some c)
include copy

theorem holdCopy_held (held : c.held = true) : holdCopy p s = countStray p s := by simp only [holdCopy, copy, held, if_true]

theorem holdCopy_free (free : c.held = false) : holdCopy p s = s.onPrinter p fun q =>
    { q with copy := some { c with held := true, requests := c.requests.map fun r => { r with timer := r.timer.pause } } } := by
  simp only [holdCopy, copy, free, Bool.false_eq_true, if_false]
  exact onCopy_some copy _

theorem resumeCopy_free (free : c.held = false) : resumeCopy p s = countStray p s := by
  simp only [resumeCopy, copy, free, Bool.false_eq_true, if_false]

theorem resumeCopy_held (held : c.held = true) : resumeCopy p s = trySend p (s.onPrinter p fun q =>
    { q with copy := some { c with held := false, requests := c.requests.map fun r => { r with timer := r.timer.resume } } }) := by
  simp only [resumeCopy, copy, held, if_true]
  exact congrArg (trySend p) (onCopy_some copy _)

end Holds

section Sent
variable {p : PrinterId} {s : State} {x : Transmission} (sends : (s.printer p).transmitting = some x)
include sends

theorem frameSent_idle (idle : (s.printer p).copy = none) : frameSent p s = s.onPrinter p fun q => { q with transmitting := none } := by
  have still : ((s.onPrinter p fun q => { q with transmitting := none }).printer p).copy = none := by rwa [printer_onPrinter_same]
  simp only [frameSent, sends, still]

variable {c : Copy} (copy : (s.printer p).copy = some c)
include copy

theorem frameSent_other (other : c.id ≠ x.copyId) :
    frameSent p s = trySend p (s.onPrinter p fun q => { q with transmitting := none }) := by
  have still : ((s.onPrinter p fun q => { q with transmitting := none }).printer p).copy = some c := by rwa [printer_onPrinter_same]
  simp only [frameSent, sends, still, if_neg other]

theorem frameSent_own (own : c.id = x.copyId) : frameSent p s = trySend p (s.onPrinter p fun q =>
    { q with transmitting := none, bufferA := sentBuffer x.stripe q.bufferA, bufferB := sentBuffer x.stripe q.bufferB,
             copy := some { c with sent := max c.sent (x.stripe + 1),
                                   requests := c.requests.filter fun r => !(r.started && r.stripe == x.stripe) } }) := by
  have still : ((s.onPrinter p fun q => { q with transmitting := none }).printer p).copy = some c := by rwa [printer_onPrinter_same]
  have sent : (((s.onPrinter p fun q => { q with transmitting := none }).onPrinter p fun q =>
      { q with bufferA := sentBuffer x.stripe q.bufferA, bufferB := sentBuffer x.stripe q.bufferB }).printer p).copy = some c := by
    rwa [printer_onPrinter_same]
  simp only [frameSent, sends, still, if_pos own]
  rw [onCopy_some sent, onPrinter_onPrinter, onPrinter_onPrinter]

end Sent

theorem goodFrame_dead {p : PrinterId} {s : State} (dead : (s.printer p).state = .absent ∨ (s.printer p).state = .offline)
    (f : State → State) : goodFrame p f s = s.onPrinter p fun q => { q with counts := { q.counts with stray := bump q.counts.stray } } := by
  rcases dead with e | e <;> simp only [goodFrame, e]

/-! ## The end of a fetch (R86, R157) -/

section Fetch
variable {r : Requester} {before after : List Granted} {g : Granted} (earlier : ∀ x ∈ before, x.transfer.requester ≠ r)
  (later : ∀ x ∈ after, x.transfer.requester = r → x.outcome = none)

include later in
theorem tellable_waits : tellable r after = [] ∧ dropTold r after = after := by
  induction after with
  | nil => exact ⟨rfl, rfl⟩
  | cons x rest ih =>
    obtain ⟨told, left⟩ := ih fun y mem => later y (List.mem_cons_of_mem _ mem)
    by_cases own : x.transfer.requester = r
    · simp only [tellable, dropTold, if_pos own, later x List.mem_cons_self own, and_self]
    · simp only [tellable, dropTold, if_neg own, told, left, and_self]

include earlier later

/-- R157: with no earlier transfer of its requester in progress the outcome is told at once, and alone while the later ones go on. -/
theorem tellRequester_first {u : State} {o : TransferOutcome} (now : u.port.granted = before ++ g :: after)
    (own : g.transfer.requester = r) (ended : g.outcome = some o) :
    tellRequester r u = tellOne g.transfer o (u.ungranted (before ++ after)) := by
  obtain ⟨told, left⟩ := tellable_waits later
  have tells : tellable r u.port.granted = [(g.transfer, o)] := by
    rw [now, tellable_others earlier, tellable, if_pos own]
    simp only [ended, told]
  have stays : dropTold r u.port.granted = before ++ after := by
    rw [now, dropTold_others earlier, dropTold, if_pos own]
    simp only [ended, left]
  have port : (u.onPort fun q => { q with granted := dropTold r q.granted }) = u.ungranted (before ++ after) := by
    refine congrArg (fun p => { u with port := p }) ?_
    simp only [stays]
  unfold tellRequester
  rw [tells, port]
  rfl

theorem transferReported_first {s : State} (granted : s.port.granted = before ++ g :: after) (own : g.transfer.requester = r)
    {report : TransferReport} {data : List Byte} (outcome : outcomeOf g.transfer report = some (.done data)) (runs : g.outcome = none) :
    transferReported before.length report s = settle s (tellOne g.transfer (.done data) (s.ungranted (before ++ after))) := by
  have now := knownOutcome_granted granted (.done data)
  have ends : endTransfer before.length (.done data) s = tellOne g.transfer (.done data) (s.ungranted (before ++ after)) := by
    unfold endTransfer
    rw [granted, getElem?_between]
    refine (if_neg (by rw [runs]; decide)).trans ?_
    rw [own]
    exact (tellRequester_first (u := knownOutcome before.length (.done data) s) earlier later now own rfl).trans rfl
  unfold transferReported
  rw [granted, getElem?_between]
  simp only [outcome, runs, Option.isSome_none, Bool.false_eq_true, if_false]
  rw [ends]

end Fetch

theorem stripeArrived_joins {p : PrinterId} {s : State} {c : Copy} {n : Nat} {side : Target} (copy : (s.printer p).copy = some c)
    (prints : c.abortCause = none) (fills : ((s.printer p).buffer side).state = .filling n) (last : Bool) (data : List Byte) :
    stripeArrived p c.id n side last data s = trySend p (s.onPrinter p fun q =>
      q.setBuffer side { state := if last = true then .full n else .filling n, data := (q.buffer side).data ++ data }) := by
  simp only [stripeArrived, copy]
  rw [if_pos ⟨trivial, prints, fills⟩]

theorem stripeArrived_discarded {p : PrinterId} {s : State} {id : W16} {n : Nat} {side : Target}
    (late : (s.printer p).copy = none ∨ (∃ c, (s.printer p).copy = some c ∧ (c.id ≠ id ∨ c.abortCause.isSome = true
      ∨ ((s.printer p).buffer side).state ≠ .filling n))) (last : Bool) (data : List Byte) : stripeArrived p id n side last data s = s := by
  rcases late with idle | ⟨c, copy, why⟩
  · simp only [stripeArrived, idle]
  · simp only [stripeArrived, copy]
    refine if_neg fun ⟨same, prints, fills⟩ => ?_
    rcases why with e | e | e
    · exact e same
    · rw [prints] at e
      exact Bool.false_ne_true e
    · exact e fills

theorem stripeFailed_gives {p : PrinterId} {s : State} {c : Copy} {n : Nat} {side : Target} (copy : (s.printer p).copy = some c)
    (fills : ((s.printer p).buffer side).state = .filling n) :
    stripeFailed p c.id n side s = s.onPrinter p fun q => q.setBuffer side { state := .empty, data := [] } := by
  simp only [stripeFailed, copy]
  rw [if_pos ⟨trivial, fills⟩]
  rfl

theorem stripeFailed_past {p : PrinterId} {s : State} {id : W16} {n : Nat} {side : Target}
    (late : (s.printer p).copy = none ∨ (∃ c, (s.printer p).copy = some c ∧ (c.id ≠ id ∨ ((s.printer p).buffer side).state ≠ .filling n))) :
    stripeFailed p id n side s = s := by
  rcases late with idle | ⟨c, copy, why⟩
  · simp only [stripeFailed, idle]
  · simp only [stripeFailed, copy]
    exact if_neg fun ⟨same, fills⟩ => why.elim (fun e => e same) fun e => e fills

/-! ## O55 -/

theorem beginCheck_first {p : PrinterId} {s : State} {o : OrderId} {early late : List OrderId} {before after : List Item} {i : Item}
    (up : (s.printer p).state = .ready ∨ (s.printer p).state = .printing) (idle : (s.printer p).copy = none)
    (stays : (s.printer p).servicePending = false) (queue : (s.printer p).queue = early ++ o :: late)
    (nothing : ∀ x ∈ early, ((s.order x).state ≠ .paid ∧ (s.order x).state ≠ .printing) ∨ ∀ k ∈ (s.order x).items, remaining k = 0)
    (prints : (s.order o).state = .paid ∨ (s.order o).state = .printing) (items : (s.order o).items = before ++ i :: after)
    (done : ∀ k ∈ before, remaining k = 0) (left : 0 < remaining i) : beginCheck p s = beginCopy p o before.length i s :=
  beginCheck_begins up idle stays (nextCopy_some queue (fun x mem => nextItem_none (nothing x mem)) (nextItem_some prints items done left))
    (by rw [items]; exact getElem?_between before after i)

theorem beginsCopy_between {r : Order} {before after : List Item} {i : Item} (prints : r.state = .paid ∨ r.state = .printing)
    (items : r.items = before ++ i :: after) : r.beginsCopy before.length = { r with state := .printing, items := before ++
      { i with inFlight := i.inFlight + 1, state := if i.state = .pending then .active else i.state } :: after } := by
  have state : (if r.state = .paid then OrderState.printing else r.state) = .printing := by
    split
    · rfl
    next other => exact prints.resolve_left other
  unfold Order.beginsCopy
  rw [state, items, modify_between]

theorem endsAs_event {f : State → State} {s u : State} (run : s.part = .run) (effect : f s.quiet = u) : EndsAs (event f s) u :=
  effect ▸ event_endsAs f s run

section Frames
variable {p : PrinterId} {s : State} (run : s.part = .run) (on : (s.printer p).state ≠ .absent) (linked : (s.printer p).state ≠ .offline)
include run on linked

theorem thenSettles_nextStripe (n : W16) {u : State} (effect : nextStripe p n.toNat (frameHeard p s.quiet) = u) :
    ThenSettles (exec (.nextStripe p n) s) s.quiet u :=
  thenSettles_settlingEvent (f := goodFrame p (nextStripe p n.toNat)) run ((goodFrame_live (s := s.quiet) on linked _).trans effect)

theorem endsAs_hold {u : State} (effect : holdCopy p (frameHeard p s.quiet) = u) : EndsAs (exec (.hold p) s) u := by
  have ends := event_endsAs (goodFrame p (holdCopy p)) s run
  rw [goodFrame_live (s := s.quiet) on linked, effect] at ends
  exact ends

theorem endsAs_resume {u : State} (effect : resumeCopy p (frameHeard p s.quiet) = u) : EndsAs (exec (.resume p) s) u := by
  have ends := event_endsAs (goodFrame p (resumeCopy p)) s run
  rw [goodFrame_live (s := s.quiet) on linked, effect] at ends
  exact ends

end Frames

theorem stripeCase_frameHeard (p : PrinterId) (s : State) (n : Nat) :
    stripeCase ((frameHeard p s).printer p) n = stripeCase (s.printer p) n := by
  rw [printer_frameHeard, stripeCase_hears]

/-- R85, R86: what a new request shows on the port, once the frame has been heard. -/
theorem newStripe_shows {p : PrinterId} {s : State} {c : Copy} {item : Item} (copy : (s.printer p).copy = some c)
    (here : (s.order c.order).items[c.item]? = some item) (n : Nat) (u : State) (hu : u = newStripe p n (frameHeard p s)) :
    u.printer p = ((s.printer p).hears s.clock).asked n c
      ∧ look u.port.lines (requesterIndex (.printer p)) = look s.port.lines (requesterIndex (.printer p))
          ++ fetchTransfers p c item n (s.printer p).target
      ∧ u.orders = s.orders ∧ u.slots = s.slots ∧ u.bays = s.bays := by
  have order : (frameHeard p s).order c.order = s.order c.order := by rw [frameHeard_eq]; rfl
  have target := target_hears s.clock (s.printer p)
  rw [newStripe_eq ((copy_frameHeard p s).trans copy) (by rw [order]; exact here), printer_frameHeard, target, frameHeard_eq,
    onPrinter_onPrinter] at hu
  subst hu
  exact ⟨printer_onPrinter_same s p _, look_upd_same _ _ _, rfl, rfl, rfl⟩

theorem buffer_asked (q : Printer) (n : Nat) (c : Copy) : (q.asked n c).buffer q.target = { state := .filling n, data := [] }
    ∧ (q.asked n c).buffer (otherTarget q.target) = q.buffer (otherTarget q.target) := by
  unfold Printer.asked
  cases q.target <;> exact ⟨rfl, rfl⟩

theorem asked_keeps (q : Printer) (n : Nat) (c : Copy) :
    (q.asked n c).watch = q.watch ∧ (q.asked n c).live = q.live ∧ (q.asked n c).linkHeard = q.linkHeard := by
  unfold Printer.asked
  cases q.target <;> exact ⟨rfl, rfl, rfl⟩

/-- Settles O55. -/
theorem stripesAreAskedForAndSent : Obligations.StripesAreAskedForAndSent := by
  refine ⟨fun p s => ⟨fun stays => ?_, fun o early late before after i t up idle stays queue nothing prints items done left ht => ?_⟩,
    fun p s run on linked => ⟨fun c item n copy prints room here next inside => ?_, fun c n copy prints room repeats held => ?_,
      fun n strange => ?_, fun c copy free => ?_, fun strange => ?_, fun c copy held => ?_, fun strange => ?_⟩,
    fun p s run => ⟨fun c x copy sends own => ?_, fun c x copy sends other => ?_, fun x idle sends => ?_, fun raw => ?_, fun dead u hu => ?_⟩,
    fun b n => ⟨stripe_iff b n, fun sends => if_pos sends, fun other => if_neg other⟩, fun p s => ⟨fun waits => ?_, ?_⟩,
    fun p s u before after g id n side last data run granted runs earlier later own direction purpose length hu => ⟨?_, fun late => ?_⟩,
    fun p s x id n side last cause own purpose => ⟨?_, fun late => ?_⟩⟩
  · exact beginCheck_stays (stays.imp_right (Or.imp_right (Or.imp_right fun nothing =>
      nextCopy_none fun o mem => nextItem_none (nothing o mem))))
  · rw [beginCheck_first up idle stays queue nothing prints items done left] at ht
    have rest := beginCopy_rest p o before.length i s
    rw [← ht] at rest
    rw [beginCopy_eq] at ht
    have order : t.order o = (s.order o).beginsCopy before.length := by rw [ht]; exact order_onOrder_same _ _ _
    rw [beginsCopy_between prints items] at order
    refine ⟨?_, order, ?_, ?_, fun x ne => ⟨?_, ?_⟩, fun q ne => ?_, rest⟩ <;> rw [ht]
    · exact printer_onPrinter_same s p _
    · exact look_upd_same _ _ _
    · rfl
    · exact look_upd_ne _ ne.symm _
    · exact look_upd_ne _ ne.symm _
    · exact look_upd_ne _ ne.symm _
  · have case : stripeCase ((frameHeard p s.quiet).printer p) n.toNat = .newRequest :=
      (stripeCase_frameHeard p s.quiet n.toNat).trans (stripeCase_new copy prints room next inside)
    obtain ⟨port, line, orders, slots, bays⟩ := newStripe_shows (s := s.quiet) copy here n.toNat (newStripe p n.toNat (frameHeard p s.quiet)) rfl
    obtain ⟨filling, other⟩ := buffer_asked ((s.printer p).hears s.clock) n.toNat c
    obtain ⟨watch, live, heard⟩ := asked_keeps ((s.printer p).hears s.clock) n.toNat c
    have target := target_hears s.clock (s.printer p)
    rw [target] at filling other
    have settles := thenSettles_nextStripe run on linked n (nextStripe_new case)
    have heardNow := printer_frameHeard p s.quiet
    generalize newStripe p n.toNat (frameHeard p s.quiet) = u at *
    generalize (frameHeard p s.quiet).printer p = q at *
    subst heardNow
    refine ⟨u, fetchTransfers p c item n.toNat (s.printer p).target, settles, ?_, ?_, ?_, ?_, ?_, ?_, ?_, line,
      fetchTransfers_length p c item n.toNat (s.printer p).target, fun k t get => fetchTransfers_get get, orders, slots, bays⟩
    · rw [port]
      rfl
    · rw [port]
      exact congrArg StripeBuffer.state filling
    · rw [port]
      exact other.trans (buffer_hears _ _ _)
    · rw [port, ← target]
      rfl
    · rw [port]
      exact watch.trans (watch_hears s.clock (s.printer p))
    · rw [port]
      exact live
    · rw [port]
      exact heard
  · have case : stripeCase ((frameHeard p s.quiet).printer p) n.toNat = .again :=
      (stripeCase_frameHeard p s.quiet n.toNat).trans (stripeCase_again copy prints room repeats held)
    exact thenSettles_nextStripe run on linked n (nextStripe_again case ((copy_frameHeard p s.quiet).trans copy))
  · have case : stripeCase ((frameHeard p s.quiet).printer p) n.toNat = .outOfSequence := by
      rw [stripeCase_frameHeard]
      rcases strange with idle | ⟨c, copy, aborting | full | ⟨repeats, gone⟩⟩
      · exact stripeCase_idle idle
      · exact stripeCase_full copy (Or.inl aborting)
      · exact stripeCase_full copy (Or.inr full)
      · exact stripeCase_strange copy repeats gone
    exact thenSettles_nextStripe run on linked n (nextStripe_strange case)
  · exact endsAs_hold run on linked (holdCopy_free ((copy_frameHeard p s.quiet).trans copy) free)
  · refine endsAs_hold run on linked ?_
    rcases strange with idle | ⟨c, copy, held⟩
    · exact holdCopy_idle ((copy_frameHeard p s.quiet).trans idle)
    · exact holdCopy_held ((copy_frameHeard p s.quiet).trans copy) held
  · exact endsAs_resume run on linked (resumeCopy_held ((copy_frameHeard p s.quiet).trans copy) held)
  · refine endsAs_resume run on linked ?_
    rcases strange with idle | ⟨c, copy, free⟩
    · exact resumeCopy_idle ((copy_frameHeard p s.quiet).trans idle)
    · exact resumeCopy_free ((copy_frameHeard p s.quiet).trans copy) free
  · exact endsAs_event run (frameSent_own (s := s.quiet) sends copy own)
  · exact endsAs_event run (frameSent_other (s := s.quiet) sends copy other)
  · exact endsAs_event run (frameSent_idle (s := s.quiet) sends idle)
  · exact endsAs_event (f := fun t => t.onPrinter p fun q => { q with counts := { q.counts with discarded := bump q.counts.discarded } }) run
      rfl
  · have stray : ∀ f, goodFrame p f s.quiet = u := fun f => (goodFrame_dead (s := s.quiet) dead f).trans hu.symm
    exact ⟨endsAs_event (f := goodFrame p (holdCopy p)) run (stray _), endsAs_event (f := goodFrame p (resumeCopy p)) run (stray _),
      fun n => thenSettles_settlingEvent (f := goodFrame p (nextStripe p n.toNat)) run (stray _),
      fun id result consumed => thenSettles_settlingEvent (f := goodFrame p (copyDone p id result consumed)) run (stray _)⟩
  · rcases waits with idle | ⟨c, copy, held | aborting | busy | past⟩
    · exact trySend_idle idle
    · exact trySend_waits copy (Or.inl held)
    · exact trySend_waits copy (Or.inr (Or.inl aborting))
    · exact trySend_waits copy (Or.inr (Or.inr (Or.inl busy)))
    · refine trySend_waits copy (Or.inr (Or.inr (Or.inr (lowestUnstarted_none fun r mem ⟨started, has⟩ => ?_))))
      rcases past r mem with e | ⟨noA, noB⟩
      · exact Bool.false_ne_true (started.symm.trans e)
      · exact ((hasBuffer_iff _ _).1 has).elim noA noB
  · intro c before after r copy unheld prints free requests fresh passed least
    have holds : ∀ b : StripeBuffer, b.state = .full r.stripe ∨ b.state = .sent r.stripe → b.stripe = some r.stripe := fun b ready =>
      (stripe_iff _ _).2 (by grind)
    refine ⟨fun ready => ?_, fun other ready => ?_, fun fills => ?_⟩
    · exact trySend_request requests fresh least copy passed unheld prints free ((hasBuffer_iff _ _).2 (Or.inl (holds _ ready)))
        (sendable_a ready)
    · exact trySend_request requests fresh least copy passed unheld prints free ((hasBuffer_iff _ _).2 (Or.inr (holds _ ready)))
        (sendable_b other ready)
    · refine trySend_unready copy (lowest_request requests fresh least ((hasBuffer_iff _ _).2 ?_)) (sendable_filling fills)
      simp only [stripe_iff]
      grind
  · intro c copy same prints fills
    have outcome : outcomeOf g.transfer (.good data) = some (.done data) := by simp only [outcomeOf, direction, length, if_true]
    have effect := transferReported_first (s := s.quiet) earlier later granted own outcome runs
    have told : tellOne g.transfer (.done data) (s.quiet.ungranted (before ++ after)) =
        stripeArrived p c.id n side last data (s.quiet.ungranted (before ++ after)) := by simp only [tellOne, own, purpose, same]
    rw [told, stripeArrived_joins (s := s.quiet.ungranted (before ++ after)) copy prints fills] at effect
    subst hu
    exact thenSettles_transferEnd run effect
  · have outcome : outcomeOf g.transfer (.good data) = some (.done data) := by simp only [outcomeOf, direction, length, if_true]
    have effect := transferReported_first (s := s.quiet) earlier later granted own outcome runs
    have told : tellOne g.transfer (.done data) (s.quiet.ungranted (before ++ after)) =
        stripeArrived p id n side last data (s.quiet.ungranted (before ++ after)) := by simp only [tellOne, own, purpose]
    rw [told, stripeArrived_discarded (s := s.quiet.ungranted (before ++ after)) late] at effect
    subst hu
    exact thenSettles_transferEnd run effect
  · intro c copy same fills
    simp only [tellOne, own, purpose]
    exact same ▸ stripeFailed_gives copy fills
  · simp only [tellOne, own, purpose]
    exact stripeFailed_past late

end Sys2Proof.Machine
end

section
/-! SUPPORT. PRINTER_SERVICE (R64, R66, R99): its cases by action and printer, and the end of a copy with an entry pending, which the order
unit meets as it would without the entry. -/

namespace Sys2Proof.Machine

/-! ## The order unit's part in the end of a copy reads no service entry -/

/-- R35: the order after the settlement trigger, by its total. -/
def Order.triggered (clock : W32) (r : Order) : Order :=
  if orderTotal r = 0 then
    { r with placement := none, holdReason := none, settlement := some (orderSettlement r), state := .closed, settleStatus := .nothingDue,
             closedAt := some clock }
  else { r with placement := none, holdReason := none, settlement := some (orderSettlement r), state := .settling }

theorem orders_leavesPrinting (o : OrderId) (s : State) (g : Order → Order) : ((leavesPrinting o s).onOrder o g).orders =
    upd s.orders o fun r => g { r with placement := none, holdReason := none, settlement := some (orderSettlement r) } := by
  unfold leavesPrinting
  rw [onOrder_onOrder]
  rfl

theorem notes_leavesPrinting (o : OrderId) (s : State) (g : Order → Order) :
    ((leavesPrinting o s).onOrder o g).retryNotes = upd s.retryNotes o fun _ => none := rfl

theorem settlementTrigger_tables (o : OrderId) (s : State) :
    (settlementTrigger o s).orders = upd s.orders o (Order.triggered s.clock)
      ∧ (settlementTrigger o s).retryNotes = upd s.retryNotes o fun _ => none := by
  have tables : ∀ {t u : State}, t.beyond = u.beyond → t.orders = u.orders ∧ t.retryNotes = u.retryNotes := fun same =>
    ⟨(congrArg State.orders same :), (congrArg State.retryNotes same :)⟩
  obtain ⟨-, -, clock, -⟩ := leavesPrinting_keeps o s
  by_cases free : orderTotal (s.order o) = 0
  · obtain ⟨orders, notes⟩ := tables ((congrArg State.beyond (settlementTrigger_free free)).trans
      ((beyond_reportFinal o _).trans (beyond_lampsIfHeld _ _)))
    refine ⟨orders.trans ?_, notes.trans (notes_leavesPrinting o s _)⟩
    rw [orders_leavesPrinting]
    refine upd_congr _ _ _ _ ?_
    change _ = (s.order o).triggered s.clock
    rw [Order.triggered, if_pos free, clock]
    rfl
  · obtain ⟨orders, notes⟩ := tables ((congrArg State.beyond (settlementTrigger_due free)).trans (beyond_lampsIfHeld _ _))
    have added : ∀ u : State, (addSettlement o 0 u).orders = u.orders ∧ (addSettlement o 0 u).retryNotes = u.retryNotes :=
      fun _ => ⟨rfl, rfl⟩
    refine ⟨orders.trans ?_, notes.trans ((added _).2.trans (notes_leavesPrinting o s _))⟩
    rw [(added _).1, orders_leavesPrinting]
    refine upd_congr _ _ _ _ ?_
    change _ = (s.order o).triggered s.clock
    rw [Order.triggered, if_neg free]
    rfl

/-- What the order unit reads at the end of a copy is the same. -/
structure SamePress (s t : State) : Prop where
  orders : t.orders = s.orders
  notes : t.retryNotes = s.retryNotes
  clock : t.clock = s.clock
  stock : t.stock = s.stock
  state : ∀ p, (t.printer p).state = (s.printer p).state
  copy : ∀ p, (t.printer p).copy = (s.printer p).copy

/-- R34: what a copy's end reads of the copy itself. -/
structure SameWork (c d : Copy) : Prop where
  order : d.order = c.order
  item : d.item = c.item
  attempt : d.attempt = c.attempt
  early : d.releasedEarly = c.releasedEarly
  size : d.size = c.size

theorem SameWork.refl (c : Copy) : SameWork c c := ⟨rfl, rfl, rfl, rfl, rfl⟩

section SamePress
variable {s t : State} (same : SamePress s t)
include same

theorem SamePress.order (o : OrderId) : t.order o = s.order o := congrArg (fun v => look v o) same.orders

theorem SamePress.freeRoom (p : PrinterId) : t.freeRoom p = s.freeRoom p :=
  SameStock.freeRoom ⟨same.state, same.copy, same.stock, fun o => congrArg Order.placement (same.order o),
    fun o => congrArg Order.items (same.order o)⟩ p

theorem SamePress.onItem (o : OrderId) (i : Nat) (f : Item → Item) : SamePress (s.onItem o i f) (t.onItem o i f) :=
  ⟨by simp only [State.onItem, State.onOrder, same.orders], same.notes, same.clock, same.stock, same.state,
    same.copy⟩

theorem SamePress.onNote (o : OrderId) (f : Option Nat → Option Nat) : SamePress (s.onNote o f) (t.onNote o f) :=
  ⟨same.orders, congrArg (fun v => upd v o f) same.notes, same.clock, same.stock, same.state, same.copy⟩

theorem SamePress.settlementCheck (o : OrderId) : (settlementCheck o t).orders = (settlementCheck o s).orders
    ∧ (settlementCheck o t).retryNotes = (settlementCheck o s).retryNotes := by
  simp only [Machine.settlementCheck, same.order]
  split
  · obtain ⟨orders, notes⟩ := settlementTrigger_tables o s
    obtain ⟨orders', notes'⟩ := settlementTrigger_tables o t
    rw [orders, notes, orders', notes', same.orders, same.notes, same.clock]
    exact ⟨rfl, rfl⟩
  · exact ⟨same.orders, same.notes⟩

theorem SamePress.retryGranted {c d : Copy} (work : SameWork c d) (p : PrinterId) : retryGranted p d t = retryGranted p c s := by
  obtain ⟨order, item, attempt, early, size⟩ := work
  simp only [Machine.retryGranted, order, item, attempt, early, size, same.order, same.freeRoom]

/-- R34, R91: the orders and the retry notes after the end of a copy. -/
theorem SamePress.copyEnded {c d : Copy} (work : SameWork c d) (p : PrinterId) (result : CopyResult) :
    (copyEnded p d result t).orders = (copyEnded p c result s).orders
      ∧ (copyEnded p d result t).retryNotes = (copyEnded p c result s).retryNotes := by
  have failed := same.onItem c.order c.item fun i => { i with inFlight := i.inFlight - 1, failed := i.failed + 1 }
  simp only [Machine.copyEnded, work.order, work.item, failed.retryGranted work p]
  refine SamePress.settlementCheck (SamePress.onItem ?_ c.order c.item finishItem) c.order
  split
  · exact same.onItem _ _ _
  · split
    · exact (failed.onItem _ _ _).onNote _ _
    · exact failed

end SamePress

theorem printer_copyCleared (p : PrinterId) (c : Copy) (used : Nat) (s : State) (q : PrinterId) :
    (copyCleared p c used s).printer q = if p = q then
      { s.printer q with copy := none, bufferA := { state := .empty, data := [] }, bufferB := { state := .empty, data := [] } }
    else s.printer q := printer_onPrinter s p q _

theorem stock_copyCleared (p : PrinterId) (c : Copy) (used : Nat) (s : State) : (copyCleared p c used s).stock = upd s.stock p fun e =>
    { e with pendingConsumption := e.pendingConsumption + if c.releasedEarly = true then 0 else used } := rfl

/-- R66, R90: clearing the port reads no service entry. -/
theorem SamePress.cleared {s t : State} (same : SamePress s t) {c d : Copy} (work : SameWork c d) (p : PrinterId) (used : Nat) :
    SamePress (copyCleared p c used s) (copyCleared p d used t) := by
  refine ⟨same.orders, same.notes, same.clock, ?_, fun q => ?_, fun q => ?_⟩
  · rw [stock_copyCleared, stock_copyCleared, same.stock, work.early]
  · rw [printer_copyCleared, printer_copyCleared]
    split <;> exact same.state q
  · rw [printer_copyCleared, printer_copyCleared]
    split
    · rfl
    · exact same.copy q

theorem tables_copyReported (p : PrinterId) (c : Copy) (result : CopyResult) (used : Nat) (s : State) :
    (copyReported p c result used s).orders = (copyEnded p c result (copyCleared p c used s)).orders
      ∧ (copyReported p c result used s).retryNotes = (copyEnded p c result (copyCleared p c used s)).retryNotes := by
  unfold copyReported
  generalize copyEnded p c result (copyCleared p c used s) = u
  exact ⟨rfl, rfl⟩

theorem SamePress.reported {s t : State} (same : SamePress s t) {c d : Copy} (work : SameWork c d) (p : PrinterId) (result : CopyResult)
    (used : Nat) : (copyReported p d result used t).orders = (copyReported p c result used s).orders
      ∧ (copyReported p d result used t).retryNotes = (copyReported p c result used s).retryNotes := by
  obtain ⟨orders, notes⟩ := tables_copyReported p c result used s
  obtain ⟨orders', notes'⟩ := tables_copyReported p d result used t
  rw [orders, notes, orders', notes']
  exact (same.cleared work p used).copyEnded work p result

/-- A change of the port that keeps its state and its copy. -/
theorem SamePress.ofPrinter (s : State) (p : PrinterId) {f : Printer → Printer} (state : (f (s.printer p)).state = (s.printer p).state)
    (copy : (f (s.printer p)).copy = (s.printer p).copy) : SamePress s (s.onPrinter p f) := by
  refine ⟨rfl, rfl, rfl, rfl, fun q => ?_, fun q => ?_⟩ <;> rw [printer_onPrinter]
  · split
    next own => subst own; exact state
    next => rfl
  · split
    next own => subst own; exact copy
    next => rfl

/-! ## PRINTER_SERVICE by action -/

/-- R170: a taking that passes the first two checks and whose work settles. -/
theorem command_thenSettles {s : State} {k : Kind} {n : SlotId} {rest : List SlotId} (hh : Heads s k n rest) {u : State}
    (work : k.work n (takeSlot n rest s.quiet) = settle (takeSlot n rest s.quiet) u) : ThenSettles (exec k.command s) s.quiet u := by
  obtain ⟨run, -⟩ := id hh
  refine thenSettles_of_alike (b := takeSlot n rest s.quiet) ?_ (alike_takeSlot n rest s.quiet)
  rw [exec_command, event_next _ run, taking_of_heads hh, work]

theorem stateAfterService_leaves (q : Printer) : stateAfterService q ≠ .service := by
  unfold stateAfterService
  split
  · exact nofun
  · split
    next r _ => cases r <;> exact nofun
    · exact nofun

section Service
variable {s : State} {p : PrinterId} {n : SlotId} {rest : List SlotId}

/-- R99: what a PRINTER_SERVICE asks of a printer is answered on the printer as it then is. -/
theorem serviceAnswered (u : State) (f : State → State) (commutes : f (takeSlot n rest u) = takeSlot n rest (f u)) :
    complete n .ok .none (serviceBody p (f (takeSlot n rest u))) (f (takeSlot n rest u)) =
      answered n rest .ok .none (.service ((f u).printer p).state ((f u).printer p).servicePending) (f u) := by
  rw [commutes, complete_takeSlot]
  rfl

theorem enterWork_already (serves : (s.printer p).state = .service) :
    enterWork p n (takeSlot n rest s) = answered n rest .state .already .zero s :=
  (if_pos serves).trans (complete_takeSlot n rest .state .already .zero s)

theorem enterWork_waits (out : (s.printer p).state ≠ .service) (flies : (s.printer p).copy.isSome = true) :
    enterWork p n (takeSlot n rest s) = settle (takeSlot n rest s) (answered n rest .ok .none (.service (s.printer p).state true)
      (s.onPrinter p fun q => { q with servicePending := true })) := by
  have entry : (if ((takeSlot n rest s).printer p).servicePending = true then takeSlot n rest s
      else if ((takeSlot n rest s).printer p).copy.isSome = true then
        (takeSlot n rest s).onPrinter p fun q => { q with servicePending := true }
      else enterService p (takeSlot n rest s)) = (takeSlot n rest s).onPrinter p fun q => { q with servicePending := true } := by
    split
    next pending =>
      refine (onPrinter_self ?_).symm
      rw [← pending]
    next => exact if_pos flies
  have done := serviceAnswered (p := p) (n := n) (rest := rest) s (fun u => u.onPrinter p fun q => { q with servicePending := true }) rfl
  rw [printer_onPrinter_same] at done
  simp only [enterWork]
  rw [entry, done]
  exact if_neg out

theorem enterWork_enters (out : (s.printer p).state ≠ .service) (idle : (s.printer p).copy = none)
    (fresh : (s.printer p).servicePending = false) :
    enterWork p n (takeSlot n rest s) = settle (takeSlot n rest s) (answered n rest .ok .none (.service .service false)
      ((s.onPrinter p fun q => { q with state := .service, statusInService := false }).onEntry p fun e =>
        { e with grace := none, pendingConsumption := 0 })) := by
  have served : s.onPrinter p (fun q => { q with state := .service, statusInService := false }) = s.onPrinter p Printer.served :=
    onPrinter_congr (by rw [Printer.served, ← fresh])
  have entry : (if ((takeSlot n rest s).printer p).servicePending = true then takeSlot n rest s
      else if ((takeSlot n rest s).printer p).copy.isSome = true then
        (takeSlot n rest s).onPrinter p fun q => { q with servicePending := true }
      else enterService p (takeSlot n rest s)) = ((takeSlot n rest s).onPrinter p Printer.served).onEntry p StockEntry.rested := by
    have stays : ((takeSlot n rest s).printer p).servicePending = false := fresh
    have none : ((takeSlot n rest s).printer p).copy = none := idle
    rw [if_neg (by rw [stays]; decide), if_neg (by rw [none]; decide)]
    exact enterService_enters (s := takeSlot n rest s) out
  have done := serviceAnswered (p := p) (n := n) (rest := rest) s (fun u => (u.onPrinter p Printer.served).onEntry p StockEntry.rested) rfl
  have port : ((s.onPrinter p Printer.served).onEntry p StockEntry.rested).printer p = (s.printer p).served := printer_onPrinter_same s p _
  rw [port] at done
  simp only [enterWork]
  rw [entry, done, served]
  exact if_neg out

theorem leaveWork_withdraws (pending : (s.printer p).servicePending = true) :
    leaveWork p n (takeSlot n rest s) = settle (takeSlot n rest s) (answered n rest .ok .none (.service (s.printer p).state false)
      (s.onPrinter p fun q => { q with servicePending := false })) := by
  have done := serviceAnswered (p := p) (n := n) (rest := rest) s (fun u => u.onPrinter p fun q => { q with servicePending := false }) rfl
  rw [printer_onPrinter_same] at done
  simp only [leaveWork]
  rw [done]
  exact if_pos pending

variable (fresh : (s.printer p).servicePending = false)
include fresh

theorem leaveWork_outside (out : (s.printer p).state ≠ .service) :
    leaveWork p n (takeSlot n rest s) = answered n rest .state .notInService .zero s := by
  have none : ¬((takeSlot n rest s).printer p).servicePending = true := by
    rw [show ((takeSlot n rest s).printer p).servicePending = false from fresh]
    decide
  simp only [leaveWork]
  rw [if_neg none]
  exact (if_neg out).trans (complete_takeSlot n rest .state .notInService .zero s)

variable (serves : (s.printer p).state = .service)
include serves

theorem leaveWork_unhealthy (silent : (s.printer p).live.linkSilent = true ∨ (s.printer p).statusInService = false) :
    leaveWork p n (takeSlot n rest s) = answered n rest .state .notHealthy .zero s := by
  have none : ¬((takeSlot n rest s).printer p).servicePending = true := by
    rw [show ((takeSlot n rest s).printer p).servicePending = false from fresh]
    decide
  have sick : ¬linkHealthy ((takeSlot n rest s).printer p) = true := by
    change ¬linkHealthy (s.printer p) = true
    rcases silent with e | e <;> simp [linkHealthy, e]
  simp only [leaveWork]
  rw [if_neg none, if_neg sick, complete_takeSlot]
  exact if_pos serves

theorem leaveWork_leaves (heard : (s.printer p).live.linkSilent = false) (status : (s.printer p).statusInService = true) :
    leaveWork p n (takeSlot n rest s) = settle (takeSlot n rest s)
      (answered n rest .ok .none (.service (stateAfterService (s.printer p)) false)
        ((s.onPrinter p fun q => { q with state := stateAfterService (s.printer p) }).onEntry p
          (graceAfter s .service (stateAfterService (s.printer p))))) := by
  have none : ¬((takeSlot n rest s).printer p).servicePending = true := by
    rw [show ((takeSlot n rest s).printer p).servicePending = false from fresh]
    decide
  have healthy : linkHealthy ((takeSlot n rest s).printer p) = true := by
    change linkHealthy (s.printer p) = true
    simp [linkHealthy, heard, status]
  have moved : setPrinterState p (stateAfterService ((takeSlot n rest s).printer p)) (takeSlot n rest s) =
      ((takeSlot n rest s).onPrinter p fun q => { q with state := stateAfterService (s.printer p) }).onEntry p
        (graceAfter s .service (stateAfterService (s.printer p))) := by
    change setPrinterState p (stateAfterService (s.printer p)) (takeSlot n rest s) = _
    rw [setPrinterState_moves (s := takeSlot n rest s) fun same => stateAfterService_leaves (s.printer p) (same.symm.trans serves)]
    change (_ : State).onEntry p (graceAfter (takeSlot n rest s) (s.printer p).state _) = _
    rw [serves]
    rfl
  have done := serviceAnswered (p := p) (n := n) (rest := rest) s
    (fun u => (u.onPrinter p fun q => { q with state := stateAfterService (s.printer p) }).onEntry p
      (graceAfter s .service (stateAfterService (s.printer p)))) rfl
  have port : ((s.onPrinter p fun q => { q with state := stateAfterService (s.printer p) }).onEntry p
      (graceAfter s .service (stateAfterService (s.printer p)))).printer p =
        { s.printer p with state := stateAfterService (s.printer p) } := printer_onPrinter_same s p _
  rw [port, fresh] at done
  simp only [leaveWork]
  rw [if_neg none, if_pos healthy, moved, done]
  exact if_pos serves

end Service

/-! ## O53 -/

theorem printerServiceWork_of {s : State} {n : SlotId} {p : PrinterId} (number : reqByte (s.slot n) 16 = p.val) :
    printerServiceWork n s = if reqByte (s.slot n) 17 = 0 then enterWork p n s
      else if reqByte (s.slot n) 17 = 1 then leaveWork p n s else refuseSlot n .range s := by
  have inside : reqByte (s.slot n) 16 < 2 := number ▸ p.isLt
  have same : (⟨reqByte (s.slot n) 16, inside⟩ : PrinterId) = p := Fin.ext number
  simp only [printerServiceWork, dif_pos inside, same]

theorem graceAfter_reported (s : State) (old new : PrinterState) (e : StockEntry) : new ≠ .absent → new ≠ .service →
    (graceAfter s old new e).reported = e.reported := by
  cases new <;> intros <;> rfl

/-- R90, R99: the orders at the end of a copy with a service entry pending are those without the entry. -/
theorem endCopy_tables {p : PrinterId} {s : State} {c : Copy} (copy : (s.printer p).copy = some c) (out : (s.printer p).state ≠ .service)
    (pending : (s.printer p).servicePending = true) (result : CopyResult) (consumed : Nat) :
    (endCopy p result consumed s).orders =
        (endCopy p result consumed (s.onPrinter p fun q => { q with servicePending := false })).orders
      ∧ (endCopy p result consumed s).retryNotes =
        (endCopy p result consumed (s.onPrinter p fun q => { q with servicePending := false })).retryNotes := by
  obtain ⟨orders, notes⟩ := SamePress.reported (SamePress.ofPrinter s p (f := fun q => { q with servicePending := false }) rfl rfl)
    (SameWork.refl c) p (finalResult c result) (min consumed (sizeUnits c.size))
  have copy' : ((s.onPrinter p fun q => { q with servicePending := false }).printer p).copy = some c := by
    rw [printer_onPrinter_same]
    exact copy
  rw [endCopy_stays copy' (by rw [printer_onPrinter_same]), endCopy_enters copy out pending, orders, notes]
  generalize copyReported p c (finalResult c result) (min consumed (sizeUnits c.size)) s = u
  exact ⟨rfl, rfl⟩

/-- Settles O53. -/
theorem printerServiceEntersAndLeaves : Obligations.PrinterServiceEntersAndLeaves := by
  refine ⟨fun s n rest p hh number => ?_, fun p s t c result consumed copy pending out ht => ?_⟩
  · have bytes : ∀ i, reqByte ((takeSlot n rest s.quiet).slot n) i = reqByte (s.slot n) i := fun i => reqByte_takeSlot n rest s.quiet i
    have work := printerServiceWork_of (s := takeSlot n rest s.quiet) (n := n) (p := p) (by rw [bytes, number])
    rw [bytes] at work
    have enters : reqByte (s.slot n) 17 = 0 → Kind.printerService.work n (takeSlot n rest s.quiet) =
        enterWork p n (takeSlot n rest s.quiet) := fun action => work.trans (if_pos action)
    have leaves : reqByte (s.slot n) 17 = 1 → Kind.printerService.work n (takeSlot n rest s.quiet) =
        leaveWork p n (takeSlot n rest s.quiet) := fun action => work.trans (by rw [action]; rfl)
    refine ⟨fun past => command_endsAs hh (work.trans ?_),
      fun action => ⟨fun serves => command_endsAs hh ((enters action).trans (enterWork_already serves)),
        fun out flies => command_thenSettles hh ((enters action).trans (enterWork_waits (s := s.quiet) out flies)),
        fun out idle fresh => command_thenSettles hh ((enters action).trans (enterWork_enters (s := s.quiet) out idle fresh))⟩,
      fun action => ⟨fun pending => command_thenSettles hh ((leaves action).trans (leaveWork_withdraws (s := s.quiet) pending)),
        fun fresh out => command_endsAs hh ((leaves action).trans (leaveWork_outside (s := s.quiet) fresh out)),
        fun fresh serves silent => command_endsAs hh ((leaves action).trans (leaveWork_unhealthy (s := s.quiet) fresh serves silent)),
        fun report fresh serves heard status last => ?_⟩⟩
    · rw [if_neg (by omega), if_neg (by omega), refuseSlot_takeSlot]
    · have new : stateAfterService (s.printer p) = if (s.printer p).overheatLock = true then .faulted else reportState report := by
        simp only [stateAfterService, last]
      have settles := command_thenSettles hh ((leaves action).trans (leaveWork_leaves (s := s.quiet) fresh serves heard status))
      have away := stateAfterService_leaves (s.printer p)
      have up : stateAfterService (s.printer p) ≠ .absent := by
        rw [new]
        split
        · exact nofun
        · cases report <;> exact nofun
      refine ⟨_, _, settles, new, printer_onPrinter_same s p _, fun q ne => printer_onPrinter_ne s ne.symm _, ?_, rfl, rfl, rfl⟩
      exact (congrArg StockEntry.reported (entry_onEntry_same _ p _)).trans (graceAfter_reported _ _ _ _ up away)
  · have same := besides_served copy out pending result consumed
    have tables := endCopy_tables copy out pending result consumed
    rw [← ht] at same tables
    obtain ⟨orders, notes⟩ := tables
    have port := unqueued_of_besides same p
    rw [printer_copyServed] at port
    have other : ∀ q, q ≠ p → (t.printer q).unqueued = (s.printer q).unqueued := fun q ne =>
      (unqueued_of_besides same q).trans (congrArg Printer.unqueued (printer_copyServed_ne ne c _ _ s))
    have entry : t.entry p = _ := (entry_of_besides same p).trans (entry_copyServed p c _ _ s)
    have others : ∀ q, q ≠ p → t.entry q = s.entry q := fun q ne => (entry_of_besides same q).trans (entry_copyServed_ne ne c _ _ s)
    clear same ht
    exact ⟨(congrArg Printer.state port :), (congrArg Printer.servicePending port :), (congrArg Printer.statusInService port :),
      (congrArg Printer.copy port :), (congrArg Printer.last port :), entry, orders, notes,
      fun q ne => ⟨others q ne, (congrArg Printer.state (other q ne) :)⟩⟩

end Sys2Proof.Machine
end

section
/-! SUPPORT. STATUS frames (R75, R79, R81, R92 to R97): what the frame leaves of the port and of the stock entry, and the copy it ends. -/

namespace Sys2Proof.Machine

/-! ## What only a port and its stock entry change -/

/-- What a step of one printer port leaves alone. -/
structure PortStep (p : PrinterId) (s t : State) : Prop where
  printers : ∀ q, q ≠ p → (t.printer q).unqueued = (s.printer q).unqueued
  entries : ∀ q, q ≠ p → t.entry q = s.entry q
  slots : t.slots = s.slots
  bays : t.bays = s.bays
  apertures : t.apertures = s.apertures
  price : t.price = s.price
  clock : t.clock = s.clock
  timers : t.timers = s.timers

namespace PortStep
variable {p : PrinterId} {s t u : State}

theorem refl (p : PrinterId) (s : State) : PortStep p s s := ⟨fun _ _ => rfl, fun _ _ => rfl, rfl, rfl, rfl, rfl, rfl, rfl⟩

theorem trans (h : PortStep p s t) (k : PortStep p t u) : PortStep p s u :=
  ⟨fun q ne => (k.printers q ne).trans (h.printers q ne), fun q ne => (k.entries q ne).trans (h.entries q ne), k.slots.trans h.slots,
    k.bays.trans h.bays, k.apertures.trans h.apertures, k.price.trans h.price, k.clock.trans h.clock, k.timers.trans h.timers⟩

theorem of_besides (same : t.besides = s.besides) : PortStep p s t :=
  ⟨fun q _ => unqueued_of_besides same q, fun q _ => entry_of_besides same q, slots_of_besides same, bays_of_besides same,
    apertures_of_besides same, price_of_besides same, clock_of_besides same, timers_of_besides same⟩

theorem onPrinter (s : State) (p : PrinterId) (f : Printer → Printer) : PortStep p s (s.onPrinter p f) :=
  ⟨fun _ ne => congrArg Printer.unqueued (printer_onPrinter_ne s ne.symm f), fun _ _ => rfl, rfl, rfl, rfl, rfl, rfl, rfl⟩

theorem onEntry (s : State) (p : PrinterId) (f : StockEntry → StockEntry) : PortStep p s (s.onEntry p f) :=
  ⟨fun _ _ => rfl, fun _ ne => entry_onEntry_ne s ne.symm f, rfl, rfl, rfl, rfl, rfl, rfl⟩

theorem emit (s : State) (x : Out) : PortStep p s (s.emit x) := ⟨fun _ _ => rfl, fun _ _ => rfl, rfl, rfl, rfl, rfl, rfl, rfl⟩

theorem withdraw (s : State) (r : Requester) : PortStep p s (s.withdraw r) :=
  ⟨fun _ _ => rfl, fun _ _ => rfl, rfl, rfl, rfl, rfl, rfl, rfl⟩

theorem setPrinterState (p : PrinterId) (new : PrinterState) (s : State) : PortStep p s (setPrinterState p new s) := by
  by_cases same : (s.printer p).state = new
  · rw [setPrinterState_same same]
    exact refl p s
  · rw [setPrinterState_moves same]
    exact (onPrinter s p _).trans (onEntry _ p _)

theorem abortCopy (p : PrinterId) (cause : CopyResult) (s : State) : PortStep p s (abortCopy p cause s) := by
  unfold Machine.abortCopy
  split
  · exact refl p s
  · split
    · exact refl p s
    · exact ((emit s _).trans (onPrinter _ p _)).trans (withdraw _ _)

theorem copyClosed (p : PrinterId) (c : Copy) (final : CopyResult) (used : Nat) (s : State) : PortStep p s (copyClosed p c final used s) :=
  ((onPrinter s p _).trans ((onEntry _ p _).trans (withdraw _ (.printer p)))).trans (onPrinter _ p _)

theorem copyReported (p : PrinterId) (c : Copy) (final : CopyResult) (used : Nat) (s : State) :
    PortStep p s (copyReported p c final used s) :=
  (copyClosed p c final used s).trans (of_besides (besides_copyReported p c final used s))

theorem enterService (p : PrinterId) (s : State) : PortStep p s (enterService p s) :=
  (onPrinter s p _).trans (setPrinterState p .service _)

theorem endCopy (p : PrinterId) (result : CopyResult) (consumed : Nat) (s : State) : PortStep p s (endCopy p result consumed s) := by
  cases copy : (s.printer p).copy with
  | none =>
    rw [endCopy_idle copy]
    exact refl p s
  | some c =>
    rw [endCopy_eq copy]
    split
    · exact (copyReported p c _ _ s).trans (enterService p _)
    · exact copyReported p c _ _ s

end PortStep

/-! ## What only the copy in flight changes -/

/-- A port without the queue and what a copy moves of it. -/
def Printer.idle (q : Printer) : Printer :=
  { q with queue := [], copy := none, bufferA := StripeBuffer.reset, bufferB := StripeBuffer.reset, last := none,
           counts := { copiesOk := 0, copiesFailed := 0, underruns := 0, discarded := 0, stray := 0, sequence := 0 } }

/-- A stock entry without the consumption that is pending. -/
def StockEntry.calm (e : StockEntry) : StockEntry := { e with pendingConsumption := 0 }

/-- A step of the copy in flight on a printer. -/
structure CopyStep (p : PrinterId) (s t : State) : Prop extends PortStep p s t where
  port : (t.printer p).idle = (s.printer p).idle
  entry : (t.entry p).calm = (s.entry p).calm

namespace CopyStep
variable {p : PrinterId} {s t u : State}

theorem refl (p : PrinterId) (s : State) : CopyStep p s s := ⟨PortStep.refl p s, rfl, rfl⟩

theorem trans (h : CopyStep p s t) (k : CopyStep p t u) : CopyStep p s u :=
  ⟨h.toPortStep.trans k.toPortStep, k.port.trans h.port, k.entry.trans h.entry⟩

theorem endCopy (stays : (s.printer p).servicePending = false) (result : CopyResult) (consumed : Nat) :
    CopyStep p s (endCopy p result consumed s) := by
  cases copy : (s.printer p).copy with
  | none =>
    rw [endCopy_idle copy]
    exact refl p s
  | some c =>
    rw [endCopy_stays copy stays]
    have port := unqueued_copyReported p c (finalResult c result) (min consumed (sizeUnits c.size)) s
    have entry := (entry_of_besides (besides_copyReported p c _ _ s) p).trans
      (entry_copyClosed p c (finalResult c result) (min consumed (sizeUnits c.size)) s)
    have step := PortStep.copyReported p c (finalResult c result) (min consumed (sizeUnits c.size)) s
    generalize copyReported p c (finalResult c result) (min consumed (sizeUnits c.size)) s = t at *
    exact ⟨step, (congrArg Printer.idle port :), (congrArg StockEntry.calm entry :)⟩

theorem abortCopy (p : PrinterId) (cause : CopyResult) (s : State) : CopyStep p s (abortCopy p cause s) := by
  have step := PortStep.abortCopy p cause s
  cases copy : (s.printer p).copy with
  | none =>
    rw [abortCopy_idle copy]
    exact refl p s
  | some c =>
    cases aborts : c.abortCause with
    | none =>
      refine ⟨step, ?_, ?_⟩
      · rw [abortCopy_running copy aborts]
        exact (congrArg Printer.idle (printer_onPrinter_same s p _) :)
      · rw [abortCopy_running copy aborts]
        rfl
    | some was =>
      rw [abortCopy_aborting copy aborts]
      exact refl p s

end CopyStep

/-! ## The parts of a STATUS frame (R93) -/

/-- R81: the port once a STATUS frame has been heard. -/
def Printer.linked (clock : W32) (q : Printer) : Printer :=
  { q with watch := some (clock + 1#32), linkHeard := true, linkChangedAt := if q.linkHeard = true then q.linkChangedAt else some clock,
           live := { q.live with linkSilent := false } }

theorem linkHeard_eq (p : PrinterId) (s : State) : linkHeard p (heard p s) = s.onPrinter p (Printer.linked s.clock) := by
  unfold linkHeard heard
  rw [onPrinter_onPrinter]
  rfl

/-- R79, R93: the state a frame puts a printer in. -/
def statusNew (f : StatusFrame) (q : Printer) : PrinterState :=
  if q.state = .service then .service else if lockAfter q.overheatLock f = true then .faulted else reportState f.report

/-- R79, R93, step 2: the port and its stock entry once the frame's conditions and state are taken. -/
def statusPort (serves : Bool) (p : PrinterId) (f : StatusFrame) (s : State) : State :=
  setPrinterState p (statusNew f (s.printer p)) (s.onPrinter p (applyConditions serves f))

theorem statusState_eq (serves : Bool) (p : PrinterId) (f : StatusFrame) (s : State) :
    statusState serves p f s = faultCopy p f (statusPort serves p f s) := by
  simp only [statusState, statusPort]
  rw [printer_onPrinter_same]
  rfl

theorem printer_statusPort (serves : Bool) (p : PrinterId) (f : StatusFrame) (s : State) :
    (statusPort serves p f s).printer p = { applyConditions serves f (s.printer p) with state := statusNew f (s.printer p) } := by
  have here : (s.onPrinter p (applyConditions serves f)).printer p = applyConditions serves f (s.printer p) := printer_onPrinter_same s p _
  unfold statusPort
  by_cases same : (s.printer p).state = statusNew f (s.printer p)
  · rw [setPrinterState_same (by rw [here]; exact same), here, ← same]
    rfl
  · rw [setPrinterState_moves (by rw [here]; exact same)]
    refine (printer_onPrinter_same _ p _).trans ?_
    rw [here]

theorem entry_statusPort (serves : Bool) (p : PrinterId) (f : StatusFrame) (s : State) :
    (statusPort serves p f s).entry p = if (s.printer p).state = statusNew f (s.printer p) then s.entry p
      else graceAfter s (s.printer p).state (statusNew f (s.printer p)) (s.entry p) := by
  have here : (s.onPrinter p (applyConditions serves f)).printer p = applyConditions serves f (s.printer p) := printer_onPrinter_same s p _
  unfold statusPort
  split
  next same => rw [setPrinterState_same (by rw [here]; exact same)]; rfl
  next moves =>
    rw [setPrinterState_moves (by rw [here]; exact moves), entry_onEntry_same, here]
    generalize statusNew f (s.printer p) = new
    cases new <;> rfl

theorem PortStep.statusPort (serves : Bool) (p : PrinterId) (f : StatusFrame) (s : State) : PortStep p s (statusPort serves p f s) :=
  (PortStep.onPrinter s p _).trans (PortStep.setPrinterState p _ _)

/-- A step of a port that sends nothing and leaves the orders alone. -/
theorem statusPort_quiet (serves : Bool) (p : PrinterId) (f : StatusFrame) (s : State) :
    (statusPort serves p f s).out = s.out ∧ (statusPort serves p f s).orders = s.orders := by
  unfold statusPort setPrinterState
  dsimp only
  split <;> exact ⟨rfl, rfl⟩

/-- R75, R96: the pack and the stock of a frame. -/
def statusFinal (p : PrinterId) (f : StatusFrame) (s : State) : State := (s.onPrinter p (applyPack f.pack)).onEntry p (applyStock f.stock)

theorem printer_statusFinal (p : PrinterId) (f : StatusFrame) (s : State) :
    (statusFinal p f s).printer p = applyPack f.pack (s.printer p) := printer_onPrinter_same s p _

theorem entry_statusFinal (p : PrinterId) (f : StatusFrame) (s : State) : (statusFinal p f s).entry p = applyStock f.stock (s.entry p) :=
  entry_onEntry_same _ p _

theorem PortStep.statusFinal (p : PrinterId) (f : StatusFrame) (s : State) : PortStep p s (statusFinal p f s) :=
  (PortStep.onPrinter s p _).trans (PortStep.onEntry _ p _)

theorem statusArrived_eq (p : PrinterId) (f : StatusFrame) (s : State) : statusArrived p f s =
    statusFinal p f (faultCopy p f (statusPort ((s.printer p).state == .service) p f
      (statusCompletion p f (s.onPrinter p (Printer.linked s.clock))))) := by
  unfold statusArrived
  dsimp only
  rw [statusState_eq, linkHeard_eq]
  rfl

/-! ## The completion and the fault (R92, R97) -/

section Completion
variable {p : PrinterId} {f : StatusFrame} {s : State}

theorem statusCompletion_idle (idle : (s.printer p).copy = none) : statusCompletion p f s = s := by simp only [statusCompletion, idle]

variable {c : Copy} (copy : (s.printer p).copy = some c)
include copy

theorem statusCompletion_named (named : f.lastCopy = c.id) :
    statusCompletion p f s = endCopy p (resultOfCode f.lastResult) f.consumed.toNat s := by
  simp only [statusCompletion, copy, if_pos named]

theorem statusCompletion_dropped (other : f.lastCopy ≠ c.id) (ready : f.report = .ready) (asked : c.highest.isSome = true) :
    statusCompletion p f s = endCopy p .aborted (sizeUnits c.size) s := by
  simp only [statusCompletion, copy, if_neg other, if_pos (And.intro ready asked)]
  exact endCopyFull_eq copy .aborted

theorem statusCompletion_goesOn (other : f.lastCopy ≠ c.id) (goesOn : f.report ≠ .ready ∨ c.highest = none) : statusCompletion p f s = s := by
  have stays : ¬(f.report = .ready ∧ c.highest.isSome = true) := fun ⟨ready, asked⟩ => by
    rcases goesOn with busy | fresh
    · exact busy ready
    · rw [fresh] at asked
      exact Bool.false_ne_true asked
  simp only [statusCompletion, copy, if_neg other, if_neg stays]

end Completion

section Fault
variable {p : PrinterId} {f : StatusFrame} {s : State}

theorem faultCopy_up (up : (s.printer p).state ≠ .faulted) : faultCopy p f s = s := if_neg up

theorem faultCopy_idle (idle : (s.printer p).copy = none) : faultCopy p f s = s := by
  unfold faultCopy
  split
  · rw [abortCopy_idle idle, endCopyFull, endCopy_idle idle]
  · rfl

theorem copyStep_faultCopy (stays : (s.printer p).servicePending = false) : CopyStep p s (faultCopy p f s) := by
  unfold faultCopy
  split
  · have aborts := CopyStep.abortCopy p .aborted s
    exact aborts.trans (CopyStep.endCopy ((congrArg Printer.servicePending aborts.port :).trans stays) _ _)
  · exact CopyStep.refl p s

theorem copyStep_statusCompletion (stays : (s.printer p).servicePending = false) : CopyStep p s (statusCompletion p f s) := by
  unfold statusCompletion
  split
  · exact CopyStep.refl p s
  · split
    · exact CopyStep.endCopy stays _ _
    · split
      · exact CopyStep.endCopy stays _ _
      · exact CopyStep.refl p s

/-- R89, R97: the copy a fault ends. -/
def Copy.aborting (clock : W32) (c : Copy) : Copy :=
  if c.abortCause.isSome = true then c
  else { c with abortCause := some .aborted, abortDeadline := some (clock + 2#32), beginWait := none }

theorem copy_abortCopy {c : Copy} (copy : (s.printer p).copy = some c) : ((abortCopy p .aborted s).printer p).copy = some (c.aborting s.clock)
    ∧ (abortCopy p .aborted s).out = s.out ++ if c.abortCause = none then [.abortCopy p c.id] else [] := by
  cases aborts : c.abortCause with
  | none =>
    rw [abortCopy_running copy aborts, Copy.aborting, aborts]
    exact ⟨(congrArg Printer.copy (printer_onPrinter_same s p _) :), rfl⟩
  | some was =>
    rw [abortCopy_aborting copy aborts, Copy.aborting, aborts, copy]
    exact ⟨rfl, (List.append_nil _).symm⟩

theorem aborting_keeps (clock : W32) (c : Copy) : (c.aborting clock).id = c.id ∧ (c.aborting clock).size = c.size
    ∧ finalResult (c.aborting clock) .aborted = finalResult c .aborted := by
  unfold Copy.aborting
  split
  · exact ⟨rfl, rfl, rfl⟩
  next open_ =>
    cases aborts : c.abortCause with
    | none => exact ⟨rfl, rfl, by simp [finalResult, aborts]⟩
    | some was => exact absurd (by rw [aborts]; rfl) open_

theorem faultCopy_ends {c : Copy} (down : (s.printer p).state = .faulted) (copy : (s.printer p).copy = some c) :
    faultCopy p f s = endCopy p (faultResult (s.printer p).overheatLock f.conditions) (sizeUnits c.size) (abortCopy p .aborted s) := by
  unfold faultCopy
  rw [if_pos down, endCopyFull_eq (copy_abortCopy copy).1, (aborting_keeps s.clock c).2.1]

/-- R97: the result of a copy ended by a fault. -/
theorem faultResult_eq (locked : Bool) (g : Conditions) (c : Copy) (r : CopyResult)
    (hr : r = finalResult c (faultResult locked g)) : (locked = true → r = .overheat) ∧ (locked = false → g.jam = true → r = .jam)
      ∧ (locked = false → g.jam = false → g.mediaOut = true → r = .mediaOut)
      ∧ (locked = false → g.jam = false → g.mediaOut = false → r = finalResult c .aborted) := by
  subst hr
  refine ⟨fun l => ?_, fun l j => ?_, fun l j m => ?_, fun l j m => ?_⟩ <;> simp only [faultResult, *] <;> rfl

end Fault

/-! ## What a frame shows (R75, R79, R93 to R96) -/

theorem applyPack_rest (v : W32) (q : Printer) :
    { applyPack v q with pack := q.pack, packFirst := q.packFirst, packChanges := q.packChanges, latched := q.latched } = q := by
  unfold applyPack
  (repeat' split) <;> rfl

/-- R96: what the pack of a frame changes. -/
theorem applyPack_shows (v : W32) (q : Printer) : (applyPack v q).pack = some v ∧ (applyPack v q).packFirst = false
    ∧ (applyPack v q).packChanges = (if q.packFirst = true ∨ q.pack = some v then q.packChanges else bump q.packChanges)
    ∧ (applyPack v q).latched.packChanged = (q.latched.packChanged || !(q.packFirst || q.pack == some v))
    ∧ (applyPack v q).latched.reported = q.latched.reported ∧ (applyPack v q).latched.overheatStop = q.latched.overheatStop := by
  unfold applyPack
  split
  next first => simp [first]
  next later =>
    split
    next same => simp [later, same]
    next other => simp [later, other]

theorem idle_applyPack (v : W32) {q r : Printer} (same : q.idle = r.idle) : (applyPack v q).idle = (applyPack v r).idle := by
  have pushes : ∀ x : Printer, (applyPack v x).idle = (applyPack v x.idle).idle := fun x => by
    unfold applyPack
    by_cases first : x.packFirst = true
    · rw [if_pos first, if_pos (show x.idle.packFirst = true from first)]
      rfl
    · rw [if_neg first, if_neg (show ¬x.idle.packFirst = true from first)]
      by_cases same : x.pack = some v
      · rw [if_pos same, if_pos (show x.idle.pack = some v from same)]
        rfl
      · rw [if_neg same, if_neg (show ¬x.idle.pack = some v from same)]
        rfl
  rw [pushes q, pushes r, same]

theorem idle_applyConditions (serves : Bool) (f : StatusFrame) (new : PrinterState) {q r : Printer} (same : q.idle = r.idle) :
    ({ applyConditions serves f q with state := new } : Printer).idle = ({ applyConditions serves f r with state := new } : Printer).idle :=
  (congrArg (fun x => ({ applyConditions serves f x with state := new } : Printer).idle) same :)

theorem statusNew_idle (f : StatusFrame) {q r : Printer} (same : q.idle = r.idle) : statusNew f q = statusNew f r :=
  (congrArg (statusNew f) same :)

theorem applyStock_calm (v : W16) {e g : StockEntry} (same : e.calm = g.calm) : applyStock v e = applyStock v g :=
  (congrArg (applyStock v) same :)

theorem calm_graceAfter {s t : State} (clock : t.clock = s.clock) (timers : t.timers = s.timers) (old new : PrinterState) {e g : StockEntry}
    (same : g.calm = e.calm) : (graceAfter t old new g).calm = (graceAfter s old new e).calm := by
  have grace : g.grace = e.grace := (congrArg StockEntry.grace same :)
  have reported : g.reported = e.reported := (congrArg StockEntry.reported same :)
  cases new <;> simp only [graceAfter, StockEntry.calm, State.after, clock, timers, grace, reported]

/-- R75, R79, R93: what a STATUS frame shows of the port and its stock entry, whatever becomes of the copy. -/
structure StatusShown (p : PrinterId) (f : StatusFrame) (s u : State) : Prop where
  step : PortStep p s u
  port : ∃ serves, (u.printer p).idle =
    (applyPack f.pack { applyConditions serves f ((s.printer p).linked s.clock) with state := statusNew f (s.printer p) }).idle
  entry : u.entry p = applyStock f.stock (if (s.printer p).state = statusNew f (s.printer p) then s.entry p
    else graceAfter s (s.printer p).state (statusNew f (s.printer p)) (s.entry p))

/-- R93: with no service entry pending. -/
theorem statusArrived_shown {p : PrinterId} (f : StatusFrame) {s : State} (stays : (s.printer p).servicePending = false) :
    StatusShown p f s (statusArrived p f s) := by
  have linked : (s.onPrinter p (Printer.linked s.clock)).printer p = (s.printer p).linked s.clock := printer_onPrinter_same s p _
  have first := copyStep_statusCompletion (f := f) (s := s.onPrinter p (Printer.linked s.clock)) (p := p) (by rw [linked]; exact stays)
  rw [statusArrived_eq]
  generalize ((s.printer p).state == PrinterState.service) = serves
  generalize statusCompletion p f (s.onPrinter p (Printer.linked s.clock)) = t at *
  have heard : PortStep p s t := (PortStep.onPrinter s p _).trans first.toPortStep
  have idle : (t.printer p).idle = ((s.printer p).linked s.clock).idle := first.port.trans (congrArg Printer.idle linked)
  have new : statusNew f (t.printer p) = statusNew f (s.printer p) := (statusNew_idle f idle).trans rfl
  have state : (t.printer p).state = (s.printer p).state := (congrArg Printer.state idle :)
  have port := printer_statusPort serves p f t
  have entry := entry_statusPort serves p f t
  rw [new, state] at entry
  rw [new] at port
  have second := PortStep.statusPort serves p f t
  have third := copyStep_faultCopy (f := f) (s := statusPort serves p f t) (p := p) (by
    rw [port]
    exact (congrArg Printer.servicePending idle :).trans stays)
  generalize statusPort serves p f t = v at *
  generalize faultCopy p f v = w at *
  refine ⟨(heard.trans (second.trans third.toPortStep)).trans (PortStep.statusFinal p f w), ⟨serves, ?_⟩, ?_⟩
  · rw [printer_statusFinal]
    refine idle_applyPack f.pack (third.port.trans ?_)
    rw [port]
    exact idle_applyConditions serves f _ idle
  · rw [entry_statusFinal]
    refine applyStock_calm f.stock (third.entry.trans ?_)
    rw [entry]
    have calm : (t.entry p).calm = (s.entry p).calm := first.entry
    split
    · exact calm
    · exact calm_graceAfter heard.clock heard.timers _ _ calm

/-! ## The copy by the frame (R92, R97) -/

theorem out_copyClosed (p : PrinterId) (c : Copy) (final : CopyResult) (used : Nat) (s : State) :
    (copyClosed p c final used s).out = s.out := by
  simp only [copyClosed, copyCleared, State.onPrinter, State.onEntry]

/-- What the end of a copy shows of itself. -/
theorem endCopy_last {p : PrinterId} {s : State} {c : Copy} (copy : (s.printer p).copy = some c) (result : CopyResult) (consumed : Nat) :
    ((endCopy p result consumed s).printer p).copy = none
      ∧ ((endCopy p result consumed s).printer p).last =
          some { id := c.id, result := finalResult c result, consumed := min consumed (sizeUnits c.size) }
      ∧ (endCopy p result consumed s).out = s.out := by
  have port := unqueued_copyReported p c (finalResult c result) (min consumed (sizeUnits c.size)) s
  have out : (copyReported p c (finalResult c result) (min consumed (sizeUnits c.size)) s).out = s.out :=
    (out_of_besides (besides_copyReported p c _ _ s)).trans (out_copyClosed p c _ _ s)
  rw [endCopy_eq copy]
  generalize copyReported p c (finalResult c result) (min consumed (sizeUnits c.size)) s = t at *
  have kept : ((enterService p t).printer p).copy = (t.printer p).copy ∧ ((enterService p t).printer p).last = (t.printer p).last
      ∧ (enterService p t).out = t.out := by
    by_cases serves : (t.printer p).state = .service
    · rw [enterService_again serves, printer_onPrinter_same]
      exact ⟨rfl, rfl, rfl⟩
    · have entered : ((t.onPrinter p Printer.served).onEntry p StockEntry.rested).printer p = (t.printer p).served :=
        printer_onPrinter_same t p _
      rw [enterService_enters serves, entered]
      exact ⟨rfl, rfl, rfl⟩
  have shown : (t.printer p).copy = none ∧ (t.printer p).last =
      some { id := c.id, result := finalResult c result, consumed := min consumed (sizeUnits c.size) } ∧ t.out = s.out :=
    ⟨(congrArg Printer.copy port :), (congrArg Printer.last port :), out⟩
  split
  · rw [kept.1, kept.2.1, kept.2.2]
    exact shown
  · exact shown

section ByCopy
variable {p : PrinterId} {f : StatusFrame} {s : State}

/-- R81: State once the frame has been heard. -/
def heardStatus (p : PrinterId) (s : State) : State := s.onPrinter p (Printer.linked s.clock)

theorem printer_heardStatus (p : PrinterId) (s : State) : (heardStatus p s).printer p = (s.printer p).linked s.clock :=
  printer_onPrinter_same s p _

theorem status_idle (idle : (s.printer p).copy = none) :
    statusArrived p f s = statusFinal p f (statusPort ((s.printer p).state == .service) p f (heardStatus p s)) := by
  have none : ((heardStatus p s).printer p).copy = none := by rw [printer_heardStatus]; exact idle
  rw [statusArrived_eq, ← heardStatus, statusCompletion_idle none, faultCopy_idle]
  rw [printer_statusPort]
  exact none

variable {c : Copy} (copy : (s.printer p).copy = some c)
include copy

theorem copy_heardStatus : ((heardStatus p s).printer p).copy = some c := by
  rw [printer_heardStatus]
  exact copy

theorem status_ended {result : CopyResult} {consumed : Nat}
    (ends : statusCompletion p f (heardStatus p s) = endCopy p result consumed (heardStatus p s)) :
    statusArrived p f s = statusFinal p f (statusPort ((s.printer p).state == .service) p f (endCopy p result consumed (heardStatus p s))) := by
  obtain ⟨gone, -, -⟩ := endCopy_last (copy_heardStatus copy) result consumed
  rw [statusArrived_eq, ← heardStatus, ends, faultCopy_idle]
  rw [printer_statusPort]
  exact gone

variable (other : f.lastCopy ≠ c.id) (goesOn : f.report ≠ .ready ∨ c.highest = none)
include other goesOn

theorem status_goesOn (up : statusNew f (s.printer p) ≠ .faulted) :
    statusArrived p f s = statusFinal p f (statusPort ((s.printer p).state == .service) p f (heardStatus p s)) := by
  rw [statusArrived_eq, ← heardStatus, statusCompletion_goesOn (copy_heardStatus copy) other goesOn, faultCopy_up]
  rw [printer_statusPort, printer_heardStatus]
  exact up

theorem status_fault (down : statusNew f (s.printer p) = .faulted) :
    statusArrived p f s = statusFinal p f (endCopy p (faultResult (lockAfter (s.printer p).overheatLock f) f.conditions) (sizeUnits c.size)
      (abortCopy p .aborted (statusPort ((s.printer p).state == .service) p f (heardStatus p s)))) := by
  have port : (statusPort ((s.printer p).state == .service) p f (heardStatus p s)).printer p =
      { applyConditions ((s.printer p).state == .service) f ((s.printer p).linked s.clock) with state := .faulted } := by
    rw [printer_statusPort, printer_heardStatus, ← down]
    rfl
  rw [statusArrived_eq, ← heardStatus, statusCompletion_goesOn (copy_heardStatus copy) other goesOn, faultCopy_ends (c := c)]
  · rw [port]
    rfl
  · rw [port]
  · rw [port]
    exact copy

end ByCopy

/-- What a copy shows of itself at the port, and what has been sent. -/
structure SameCopy (p : PrinterId) (s t : State) : Prop where
  copy : (t.printer p).copy = (s.printer p).copy
  last : (t.printer p).last = (s.printer p).last
  out : t.out = s.out
  orders : t.orders = s.orders

theorem SameCopy.trans {p : PrinterId} {s t u : State} (h : SameCopy p s t) (k : SameCopy p t u) : SameCopy p s u :=
  ⟨k.copy.trans h.copy, k.last.trans h.last, k.out.trans h.out, k.orders.trans h.orders⟩

theorem sameCopy_heardStatus (p : PrinterId) (s : State) : SameCopy p s (heardStatus p s) := by
  refine ⟨?_, ?_, rfl, rfl⟩ <;> rw [printer_heardStatus] <;> rfl

theorem sameCopy_statusPort (serves : Bool) (p : PrinterId) (f : StatusFrame) (s : State) : SameCopy p s (statusPort serves p f s) := by
  obtain ⟨out, orders⟩ := statusPort_quiet serves p f s
  refine ⟨?_, ?_, out, orders⟩ <;> rw [printer_statusPort] <;> rfl

theorem sameCopy_statusFinal (p : PrinterId) (f : StatusFrame) (s : State) : SameCopy p s (statusFinal p f s) := by
  have rest := applyPack_rest f.pack (s.printer p)
  refine ⟨?_, ?_, rfl, rfl⟩ <;> rw [printer_statusFinal]
  · exact (congrArg Printer.copy rest :)
  · exact (congrArg Printer.last rest :)

section Shows
variable {p : PrinterId} {f : StatusFrame} {s : State}

theorem status_idle_shows (idle : (s.printer p).copy = none) : SameCopy p s (statusArrived p f s) := by
  rw [status_idle idle]
  exact (sameCopy_heardStatus p s).trans ((sameCopy_statusPort _ p f _).trans (sameCopy_statusFinal p f _))

variable {c : Copy} (copy : (s.printer p).copy = some c)
include copy

theorem status_ended_shows {result : CopyResult} {consumed : Nat}
    (ends : statusCompletion p f (heardStatus p s) = endCopy p result consumed (heardStatus p s)) :
    ((statusArrived p f s).printer p).copy = none ∧ ((statusArrived p f s).printer p).last =
        some { id := c.id, result := finalResult c result, consumed := min consumed (sizeUnits c.size) }
      ∧ (statusArrived p f s).out = s.out := by
  obtain ⟨gone, last, out⟩ := endCopy_last (copy_heardStatus copy) result consumed
  rw [status_ended copy ends]
  have same := (sameCopy_statusPort ((s.printer p).state == .service) p f (endCopy p result consumed (heardStatus p s))).trans
    (sameCopy_statusFinal p f _)
  exact ⟨same.copy.trans gone, same.last.trans last, same.out.trans out⟩

theorem status_named_shows (named : f.lastCopy = c.id) :
    ((statusArrived p f s).printer p).copy = none ∧ ((statusArrived p f s).printer p).last =
        some { id := c.id, result := finalResult c (resultOfCode f.lastResult), consumed := min f.consumed.toNat (sizeUnits c.size) }
      ∧ (statusArrived p f s).out = s.out :=
  status_ended_shows copy (statusCompletion_named (copy_heardStatus copy) named)

theorem status_dropped_shows (other : f.lastCopy ≠ c.id) (ready : f.report = .ready) (asked : c.highest.isSome = true) :
    ((statusArrived p f s).printer p).copy = none ∧ ((statusArrived p f s).printer p).last =
        some { id := c.id, result := finalResult c .aborted, consumed := sizeUnits c.size }
      ∧ (statusArrived p f s).out = s.out := by
  have shows_ := status_ended_shows copy (statusCompletion_dropped (copy_heardStatus copy) other ready asked)
  rwa [Nat.min_self] at shows_

variable (other : f.lastCopy ≠ c.id) (goesOn : f.report ≠ .ready ∨ c.highest = none)
include other goesOn

theorem status_goesOn_shows (up : statusNew f (s.printer p) ≠ .faulted) : SameCopy p s (statusArrived p f s) := by
  rw [status_goesOn copy other goesOn up]
  exact (sameCopy_heardStatus p s).trans ((sameCopy_statusPort _ p f _).trans (sameCopy_statusFinal p f _))

theorem status_fault_shows (down : statusNew f (s.printer p) = .faulted) :
    ((statusArrived p f s).printer p).copy = none ∧ (∃ r, ((statusArrived p f s).printer p).last =
        some { id := c.id, result := r, consumed := sizeUnits c.size }
      ∧ r = finalResult (c.aborting s.clock) (faultResult (lockAfter (s.printer p).overheatLock f) f.conditions))
      ∧ (statusArrived p f s).out = s.out ++ if c.abortCause = none then [.abortCopy p c.id] else [] := by
  have before := (sameCopy_heardStatus p s).trans (sameCopy_statusPort ((s.printer p).state == .service) p f (heardStatus p s))
  have clock : (statusPort ((s.printer p).state == .service) p f (heardStatus p s)).clock = s.clock :=
    (PortStep.statusPort _ p f (heardStatus p s)).clock
  rw [status_fault copy other goesOn down]
  generalize statusPort ((s.printer p).state == .service) p f (heardStatus p s) = t at *
  obtain ⟨aborting, sent⟩ := copy_abortCopy (before.copy.trans copy)
  rw [clock] at aborting
  obtain ⟨gone, last, out⟩ := endCopy_last aborting (faultResult (lockAfter (s.printer p).overheatLock f) f.conditions) (sizeUnits c.size)
  obtain ⟨id, size, -⟩ := aborting_keeps s.clock c
  rw [id, size, Nat.min_self] at last
  have same := sameCopy_statusFinal p f
    (endCopy p (faultResult (lockAfter (s.printer p).overheatLock f) f.conditions) (sizeUnits c.size) (abortCopy p .aborted t))
  exact ⟨same.copy.trans gone, ⟨_, same.last.trans last, rfl⟩, (same.out.trans out).trans (sent.trans (by rw [before.out]))⟩

end Shows

/-- R94, R95: a condition that appears is latched, and at an overheat stop every live one. -/
theorem latch_appears {old new latched : Bool} (stop : Bool) (live : new = true) (fresh : old = false) :
    (latched || (new && (stop || !old))) = true := by
  rw [live, fresh]
  simp

theorem latch_stops {old new latched stop : Bool} (live : new = true) (stops : stop = true) :
    (latched || (new && (stop || !old))) = true := by
  rw [live, stops]
  simp

/-! ## O54 -/

/-- The conditions, states and counts of a port that a STATUS frame has been applied to, read off what it shows. -/
theorem StatusShown.fields {p : PrinterId} {f : StatusFrame} {s u : State} (shown : StatusShown p f s u) :
    (u.printer p).state = statusNew f (s.printer p) ∧ (u.printer p).overheatLock = lockAfter (s.printer p).overheatLock f
      ∧ (u.printer p).head = some f.head ∧ (u.printer p).live = { reported := f.conditions, linkSilent := false }
      ∧ (u.printer p).watch = some (s.clock + 1#32) ∧ (u.printer p).linkHeard = true ∧ (u.printer p).pack = some f.pack
      ∧ (u.printer p).packChanges = (if (s.printer p).packFirst = true ∨ (s.printer p).pack = some f.pack then (s.printer p).packChanges
                                     else bump (s.printer p).packChanges)
      ∧ (u.printer p).latched.packChanged = ((s.printer p).latched.packChanged
          || !((s.printer p).packFirst || (s.printer p).pack == some f.pack)) ∧ (u.printer p).packFirst = false
      ∧ (u.printer p).latched.reported =
          latchConditions f.conditions.overheat (s.printer p).live.reported f.conditions (s.printer p).latched.reported
      ∧ (u.printer p).latched.overheatStop = ((s.printer p).latched.overheatStop || f.conditions.overheat) := by
  obtain ⟨-, ⟨serves, port⟩, -⟩ := shown
  have rest := applyPack_rest f.pack { applyConditions serves f ((s.printer p).linked s.clock) with state := statusNew f (s.printer p) }
  obtain ⟨pack, first, changes, changed, reported, stop⟩ :=
    applyPack_shows f.pack { applyConditions serves f ((s.printer p).linked s.clock) with state := statusNew f (s.printer p) }
  generalize applyPack f.pack { applyConditions serves f ((s.printer p).linked s.clock) with state := statusNew f (s.printer p) } = y at *
  generalize u.printer p = q at *
  exact ⟨(congrArg Printer.state port :).trans (congrArg Printer.state rest :),
    (congrArg Printer.overheatLock port :).trans (congrArg Printer.overheatLock rest :),
    (congrArg Printer.head port :).trans (congrArg Printer.head rest :), (congrArg Printer.live port :).trans (congrArg Printer.live rest :),
    (congrArg Printer.watch port :).trans (congrArg Printer.watch rest :),
    (congrArg Printer.linkHeard port :).trans (congrArg Printer.linkHeard rest :), (congrArg Printer.pack port :).trans pack,
    (congrArg Printer.packChanges port :).trans changes, (congrArg (fun q => q.latched.packChanged) port :).trans changed,
    (congrArg Printer.packFirst port :).trans first, (congrArg (fun q => q.latched.reported) port :).trans reported,
    (congrArg (fun q => q.latched.overheatStop) port :).trans stop⟩

theorem StatusShown.grace {p : PrinterId} {f : StatusFrame} {s u : State} (shown : StatusShown p f s u) :
    (u.entry p).reported = min f.stock.toNat 4000 ∧ (u.entry p).pendingConsumption = 0
      ∧ (u.entry p).grace = (if (s.printer p).state = statusNew f (s.printer p) then s.entry p
          else graceAfter s (s.printer p).state (statusNew f (s.printer p)) (s.entry p)).grace := by
  obtain ⟨-, -, entry⟩ := shown
  rw [entry]
  exact ⟨rfl, rfl, rfl⟩

theorem thenSettles_status {p : PrinterId} (f : StatusFrame) {s : State} (run : s.part = .run) :
    ThenSettles (exec (.status p f) s) s.quiet (statusArrived p f s.quiet) := thenSettles_settlingEvent (f := statusArrived p f) run rfl

theorem reportState_serves (r : Report) : reportState r ≠ .service := by cases r <;> exact nofun

/-- R93: the frame at a printer without a service entry pending. -/
theorem statusApplied (p : PrinterId) (f : StatusFrame) (s : State) (stays : (s.printer p).servicePending = false) (u : State)
    (hu : u = statusArrived p f s) :
    (∀ new, new = statusNew f (s.printer p) →
      (new = .ready ∨ new = .printing ∨ new = .paused → (s.printer p).state ≠ new → (u.entry p).grace = none)
        ∧ (new = .faulted → (s.printer p).state = .ready ∨ (s.printer p).state = .printing ∨ (s.printer p).state = .paused →
            (u.entry p).grace = some (s.clock + BitVec.ofNat 32 s.timers.grace))
        ∧ ((s.printer p).state = new → (u.entry p).grace = (s.entry p).grace)) := by
  obtain ⟨-, -, grace⟩ := (statusArrived_shown f stays).grace
  rw [← hu] at grace
  rintro new rfl
  generalize statusNew f (s.printer p) = new at *
  refine ⟨fun up moves => ?_, fun down up => ?_, fun same => ?_⟩
  · rw [grace, if_neg moves]
    rcases up with rfl | rfl | rfl <;> rfl
  · subst down
    have moves : (s.printer p).state ≠ .faulted := by
      intro e
      rw [e] at up
      exact up.elim nofun (Or.rec nofun nofun)
    rw [grace, if_neg moves, graceAfter_down (Or.inl rfl), graceDown]
    exact if_pos up
  · rw [grace, if_pos same]

/-- R94, R95: which conditions a frame latches. -/
theorem latchConditions_shows (old new latched r : Conditions) (hr : r = latchConditions new.overheat old new latched) :
    (new.jam = true → old.jam = false → r.jam = true) ∧ (new.mediaOut = true → old.mediaOut = false → r.mediaOut = true)
      ∧ (new.doorOpen = true → old.doorOpen = false → r.doorOpen = true)
      ∧ (new.headCooling = true → old.headCooling = false → r.headCooling = true)
      ∧ (new.overheat = true → r.overheat = true ∧ (new.jam = true → r.jam = true)) := by
  subst hr
  exact ⟨latch_appears _, latch_appears _, latch_appears _, latch_appears _, fun stop => ⟨latch_stops stop stop, fun jam => latch_stops jam stop⟩⟩

/-- R99: what a frame that ends a copy with a service entry pending shows, besides the copy. -/
structure StatusServed (p : PrinterId) (f : StatusFrame) (s u : State) : Prop where
  state : (u.printer p).state = .service
  entered : (u.printer p).servicePending = false
  lock : (u.printer p).overheatLock = lockAfter (s.printer p).overheatLock f
  head : (u.printer p).head = some f.head
  live : (u.printer p).live = { reported := f.conditions, linkSilent := false }
  pack : (u.printer p).pack = some f.pack
  entry : u.entry p = { reported := min f.stock.toNat 4000, pendingConsumption := 0, grace := none }
  changed : (u.printer p).latched.packChanged = ((s.printer p).latched.packChanged
      || !((s.printer p).packFirst || (s.printer p).pack == some f.pack))

/-- The end of the frame at a port in SERVICE. -/
theorem statusServed_of_port {p : PrinterId} {f : StatusFrame} {s t u : State} {q : Printer} (port : (t.printer p).unqueued = q.unqueued)
    (shown : q.state = .service ∧ q.servicePending = false ∧ q.overheatLock = lockAfter (s.printer p).overheatLock f
      ∧ q.head = some f.head ∧ q.live = { reported := f.conditions, linkSilent := false }
      ∧ q.latched.packChanged = (s.printer p).latched.packChanged ∧ q.packFirst = (s.printer p).packFirst ∧ q.pack = (s.printer p).pack)
    (grace : (t.entry p).grace = none) (hu : u = statusFinal p f t) : StatusServed p f s u := by
  subst hu
  have rest := applyPack_rest f.pack (t.printer p)
  obtain ⟨pack, -, -, changed, -, -⟩ := applyPack_shows f.pack (t.printer p)
  have entry := entry_statusFinal p f t
  obtain ⟨state, entered, lock, head, live, latched, first, old⟩ := shown
  have now := printer_statusFinal p f t
  generalize statusFinal p f t = u at *
  have fields : (t.printer p).state = q.state ∧ (t.printer p).servicePending = q.servicePending
      ∧ (t.printer p).overheatLock = q.overheatLock ∧ (t.printer p).head = q.head ∧ (t.printer p).live = q.live
      ∧ (t.printer p).latched = q.latched ∧ (t.printer p).packFirst = q.packFirst ∧ (t.printer p).pack = q.pack :=
    ⟨(congrArg Printer.state port :), (congrArg Printer.servicePending port :), (congrArg Printer.overheatLock port :),
      (congrArg Printer.head port :), (congrArg Printer.live port :), (congrArg Printer.latched port :), (congrArg Printer.packFirst port :),
      (congrArg Printer.pack port :)⟩
  obtain ⟨state', entered', lock', head', live', latched', first', old'⟩ := fields
  rw [← now] at rest pack changed
  refine ⟨(congrArg Printer.state rest :).trans (state'.trans state), (congrArg Printer.servicePending rest :).trans (entered'.trans entered),
    (congrArg Printer.overheatLock rest :).trans (lock'.trans lock), (congrArg Printer.head rest :).trans (head'.trans head),
    (congrArg Printer.live rest :).trans (live'.trans live), pack, ?_, ?_⟩
  · rw [entry, applyStock, grace]
    rfl
  · rw [changed, latched', latched, first', first, old', old]

section Pending
variable {p : PrinterId} {f : StatusFrame} {s : State} {c : Copy} (copy : (s.printer p).copy = some c)
  (pending : (s.printer p).servicePending = true)
include copy pending

theorem status_ended_serves (out : (s.printer p).state ≠ .service) {result : CopyResult} {consumed : Nat}
    (ends : statusCompletion p f (heardStatus p s) = endCopy p result consumed (heardStatus p s)) :
    StatusServed p f s (statusArrived p f s) := by
  have heard := printer_heardStatus p s
  have same := besides_served (copy_heardStatus copy) (by rw [heard]; exact out) (by rw [heard]; exact pending) result consumed
  have port := unqueued_of_besides same p
  have entry := entry_of_besides same p
  rw [printer_copyServed, heard] at port
  rw [entry_copyServed] at entry
  rw [status_ended copy ends]
  generalize endCopy p result consumed (heardStatus p s) = t at *
  have state : (t.printer p).state = .service := (congrArg Printer.state port :)
  have serves : statusNew f (t.printer p) = .service := if_pos state
  refine statusServed_of_port (q := { applyConditions ((s.printer p).state == .service) f
    ((((s.printer p).linked s.clock).ended c (finalResult c result) (min consumed (sizeUnits c.size))).served) with state := .service })
    ?_ ⟨rfl, rfl, rfl, rfl, rfl, rfl, rfl, rfl⟩ ?_ rfl
  · rw [printer_statusPort, serves]
    exact (congrArg (fun q => ({ applyConditions ((s.printer p).state == .service) f q with state := .service } : Printer).unqueued) port :)
  · rw [entry_statusPort, if_pos (state.trans serves.symm), entry]

theorem status_fault_serves (other : f.lastCopy ≠ c.id) (goesOn : f.report ≠ .ready ∨ c.highest = none)
    (down : statusNew f (s.printer p) = .faulted) : StatusServed p f s (statusArrived p f s) := by
  rw [status_fault copy other goesOn down]
  have before := (sameCopy_heardStatus p s).trans (sameCopy_statusPort ((s.printer p).state == .service) p f (heardStatus p s))
  have port := printer_statusPort ((s.printer p).state == .service) p f (heardStatus p s)
  rw [printer_heardStatus] at port
  have new : statusNew f ((s.printer p).linked s.clock) = .faulted := down
  rw [new] at port
  generalize statusPort ((s.printer p).state == .service) p f (heardStatus p s) = t at *
  have aborting := (copy_abortCopy (before.copy.trans copy)).1
  have step := CopyStep.abortCopy p .aborted t
  generalize abortCopy p .aborted t = v at *
  have idle : (v.printer p).idle =
      ({ applyConditions ((s.printer p).state == .service) f ((s.printer p).linked s.clock) with state := .faulted } : Printer).idle :=
    step.port.trans (congrArg Printer.idle port)
  have same := besides_served aborting (by rw [show (v.printer p).state = .faulted from (congrArg Printer.state idle :)]; exact nofun)
    ((congrArg Printer.servicePending idle :).trans pending) (faultResult (lockAfter (s.printer p).overheatLock f) f.conditions)
    (sizeUnits c.size)
  have ended := unqueued_of_besides same p
  rw [printer_copyServed] at ended
  refine statusServed_of_port ended ⟨rfl, rfl, ?_, ?_, ?_, ?_, ?_, ?_⟩ ?_ rfl
  · exact (congrArg Printer.overheatLock idle :)
  · exact (congrArg Printer.head idle :)
  · exact (congrArg Printer.live idle :)
  · exact (congrArg (fun q => q.latched.packChanged) idle :)
  · exact (congrArg Printer.packFirst idle :)
  · exact (congrArg Printer.pack idle :)
  · rw [entry_of_besides same, entry_copyServed]

end Pending

/-- R92: a copy that a READY does not drop. -/
theorem goesOn_of {f : StatusFrame} {c : Copy} (stays : ¬(f.report = .ready ∧ c.highest.isSome = true)) :
    f.report ≠ .ready ∨ c.highest = none := by
  rwa [Classical.not_and_iff_not_or_not, Bool.not_eq_true, Option.isSome_eq_false_iff, Option.isNone_iff_eq_none] at stays

/-- Settles O54. -/
theorem statusFramesAreApplied : Obligations.StatusFramesAreApplied := by
  refine ⟨fun p f s lock new run hlock hnew stays => ?_, fun p f s c lock run pending out copy hlock => ⟨fun ends => ?_, ?_⟩⟩
  · have hlock' : lock = lockAfter (s.printer p).overheatLock f := hlock
    have hnew' : new = statusNew f (s.printer p) := by
      rw [hnew, hlock']
      rfl
    have shown := statusArrived_shown f (s := s.quiet) stays
    obtain ⟨state, locked, head, live, watch, heard, pack, changes, changed, first, latched, stop⟩ := shown.fields
    obtain ⟨reported, consumption, -⟩ := shown.grace
    obtain ⟨up, down, same⟩ := statusApplied p f s.quiet stays _ rfl new hnew'
    obtain ⟨jam, media, door, cooling, overheat⟩ := latchConditions_shows _ _ _ _ latched
    obtain ⟨printers, entries, slots, bays, apertures, price, -, -⟩ := shown.step
    have idle := status_idle_shows (p := p) (f := f) (s := s.quiet)
    have named := fun c copy => status_named_shows (p := p) (f := f) (s := s.quiet) (c := c) copy
    have dropped := fun c copy => status_dropped_shows (p := p) (f := f) (s := s.quiet) (c := c) copy
    have goesOn := fun c copy => status_goesOn_shows (p := p) (f := f) (s := s.quiet) (c := c) copy
    have fault := fun c copy => status_fault_shows (p := p) (f := f) (s := s.quiet) (c := c) copy
    have settles := thenSettles_status (p := p) f run
    generalize statusArrived p f s.quiet = u at *
    refine ⟨u, settles, state.trans hnew'.symm, locked.trans hlock'.symm, head, live, watch, heard, pack, changes, changed, first, jam, media, door,
      cooling, fun hot => ⟨?_, overheat hot⟩, reported, consumption, up, down, same, fun none => ?_, named, dropped,
      fun c copy other on up => ?_, fun c copy other on faulted => ?_, fun q ne => ⟨?_, ?_, entries q ne⟩, slots, bays, apertures, price⟩
    · rw [stop, hot, Bool.or_true]
    · obtain ⟨kept, last, sent, orders⟩ := idle none
      exact ⟨kept.trans none, last, orders, sent⟩
    · obtain ⟨kept, -, sent, -⟩ := goesOn c copy other on (hnew' ▸ up)
      exact ⟨kept.trans copy, sent⟩
    · obtain ⟨gone, ⟨r, last, result⟩, sent⟩ := fault c copy other on (hnew' ▸ faulted)
      obtain ⟨hot, jammed, empty, plain⟩ := faultResult_eq _ _ _ r result
      rw [(aborting_keeps s.quiet.clock c).2.2] at plain
      exact ⟨gone, r, last, fun l => hot (hlock' ▸ l), fun l => jammed (hlock' ▸ l), fun l => empty (hlock' ▸ l),
        fun l => plain (hlock' ▸ l), sent⟩
    · exact (congrArg Printer.state (printers q ne) :)
    · exact (congrArg Printer.copy (printers q ne) :)
  · have hlock' : lock = lockAfter (s.printer p).overheatLock f := hlock
    have settles := thenSettles_status (p := p) f run
    have named := status_named_shows (f := f) (s := s.quiet) copy
    have dropped := status_dropped_shows (f := f) (s := s.quiet) copy
    have fault := status_fault_shows (f := f) (s := s.quiet) copy
    have down : f.lastCopy ≠ c.id → (f.report ≠ .ready ∨ c.highest = none) → statusNew f (s.printer p) = .faulted := fun other on => by
      unfold statusNew
      rw [if_neg out, ← hlock']
      rcases ends with e | ⟨ready, asked⟩ | e | e
      · exact absurd e other
      · rcases on with busy | fresh
        · exact absurd ready busy
        · rw [fresh] at asked
          exact absurd asked Bool.false_ne_true
      · exact if_pos e
      · rw [e]
        split <;> rfl
    have served : StatusServed p f s.quiet (statusArrived p f s.quiet) := by
      by_cases name : f.lastCopy = c.id
      · exact status_ended_serves copy pending out (statusCompletion_named (copy_heardStatus (s := s.quiet) copy) name)
      · by_cases ready : f.report = .ready ∧ c.highest.isSome = true
        · exact status_ended_serves copy pending out
            (statusCompletion_dropped (copy_heardStatus (s := s.quiet) copy) name ready.1 ready.2)
        · have on := goesOn_of ready
          exact status_fault_serves (s := s.quiet) copy pending name on (down name on)
    generalize statusArrived p f s.quiet = u at *
    obtain ⟨state, entered, locked, head, live, pack, entry, changed⟩ := served
    have gone : (u.printer p).copy = none := by
      by_cases name : f.lastCopy = c.id
      · exact (named name).1
      · by_cases ready : f.report = .ready ∧ c.highest.isSome = true
        · exact (dropped name ready.1 ready.2).1
        · have on := goesOn_of ready
          exact (fault name on (down name on)).1
    refine ⟨u, settles, state, entered, gone, locked.trans hlock'.symm, head, live, pack, entry, changed, fun name => (named name).2,
      fun name ready asked => (dropped name ready asked).2, fun name on => ?_⟩
    obtain ⟨-, ⟨r, last, result⟩, sent⟩ := fault name on (down name on)
    obtain ⟨hot, jammed, empty, plain⟩ := faultResult_eq _ _ _ r result
    rw [(aborting_keeps s.quiet.clock c).2.2] at plain
    exact ⟨r, last, fun l => hot (hlock' ▸ l), fun l => jammed (hlock' ▸ l), fun l => empty (hlock' ▸ l), fun l => plain (hlock' ▸ l), sent⟩
  · intro other on unlocked fine
    have hlock' : lock = lockAfter (s.printer p).overheatLock f := hlock
    have new : statusNew f (s.printer p) = reportState f.report := by
      unfold statusNew
      rw [if_neg out, ← hlock', unlocked]
      rfl
    have up : statusNew f (s.printer p) ≠ .faulted := by
      rw [new]
      cases report : f.report with
      | faulted => exact absurd report fine
      | ready | printing | paused => exact nofun
    obtain ⟨kept, -, -, -⟩ := status_goesOn_shows (s := s.quiet) copy other on up
    have settles := thenSettles_status (p := p) f run
    have rest : ((statusArrived p f s.quiet).printer p).state = statusNew f (s.printer p)
        ∧ ((statusArrived p f s.quiet).printer p).servicePending = true := by
      rw [status_goesOn (s := s.quiet) copy other on up, printer_statusFinal, printer_statusPort, printer_heardStatus]
      have rest := applyPack_rest f.pack { applyConditions ((s.printer p).state == .service) f ((s.printer p).linked s.clock) with
        state := statusNew f (s.printer p) }
      exact ⟨(congrArg Printer.state rest :), (congrArg Printer.servicePending rest :).trans pending⟩
    generalize statusArrived p f s.quiet = u at *
    exact ⟨u, settles, rest.1.trans new, rest.2, kept.trans copy⟩

end Sys2Proof.Machine
end

section
/-! SUPPORT. RESET_UNIT (R100, R123, R147, R179): the bay, the printer port and the terminal port. -/

namespace Sys2Proof.Machine

/-! ## A bay (R123) -/

/-- R123: State once the reads of the bay have been told to end. -/
def readsReset (b : BayId) (s : State) : State := endAtOnce b .unitDown (endWaitingReads b .unitDown s)

/-- R104, R123: the bay as its card port restarts. -/
def Bay.restarts (y : Bay) : Bay :=
  { y with state := if y.contact = true then .settling else .empty, card := none, run := .idle,
           settle := if y.contact = true then .running 250 else .stopped, identify := .stopped, identifySends := 0, block := .stopped,
           giveBackWait := false, waitLength := 0, waitLimit := false }

theorem evalLamps_rest (i : StationId) (s : State) : { evalLamps i s with stations := s.stations, unitChanged := s.unitChanged } = s := rfl

/-- What the lamps and the unit bits leave of a state. -/
def State.unlit (s : State) : State := { s with stations := State.reset.stations, unitChanged := 0 }

theorem unlit_evalLamps (i : StationId) (s : State) : (evalLamps i s).unlit = s.unlit := rfl
theorem unlit_markUnit (n : UnitId) (s : State) : (s.markUnit n).unlit = s.unlit := rfl
theorem unlit_onBay (b : BayId) (f : Bay → Bay) (s : State) : (s.onBay b f).unlit = s.unlit.onBay b f := rfl

theorem resetBay_eq (b : BayId) (s : State) : (resetBay b s).unlit = ((readsReset b s).onBay b Bay.restarts).unlit := by
  unfold resetBay readsReset
  generalize endAtOnce b .unitDown (endWaitingReads b .unitDown s) = v
  have marks : ∀ t : State, (if (s.bay b).state = .empty then t else t.markUnit (bayUnit b)).unlit = t.unlit := fun t => by
    split
    · rfl
    · exact unlit_markUnit _ t
  have bay : ∀ t : State, (if (s.bay b).state = .empty then t else t.markUnit (bayUnit b)).bay b = t.bay b := fun t =>
    (congrArg (fun u : State => u.bay b) (marks t) :)
  dsimp only
  rw [unlit_evalLamps, bay, bay_onBay_same]
  dsimp only
  split
  next closed =>
    rw [startSettling, unlit_onBay, marks, unlit_onBay, unlit_onBay, onBay_onBay]
    refine onBay_congr _ b ?_
    have here : v.unlit.bay b = v.bay b := rfl
    simp only [here, Bay.restarts, closed, if_true]
    rfl
  next opened =>
    rw [marks, unlit_onBay, unlit_onBay]
    refine onBay_congr _ b ?_
    have here : v.unlit.bay b = v.bay b := rfl
    simp only [here, Bay.restarts, opened, if_false, Bool.false_eq_true]

section ReadsReset
variable {b : BayId} {s : State}

/-- State once the waiting reads have ended. -/
theorem waitingReset_rest : (endWaitingReads b .unitDown s).out = s.out :=
  (congrArg State.out (endWaiting_rest (b := b) (cause := .unitDown) (s.bay b).waiting s) :)

/-- What the end of a bay's reads leaves and does, whatever the active one is. -/
structure ReadsEnded (b : BayId) (s v : State) : Prop where
  work : BayWork b s v
  waiting : (v.bay b).waiting = []
  contact : (v.bay b).contact = (s.bay b).contact
  generation : (v.bay b).generation = (s.bay b).generation
  latched : (v.bay b).latched = (s.bay b).latched
  done : ∀ r ∈ (s.bay b).waiting, (s.slot r.slot).state = .taken → (v.slot r.slot).state = .done ∧ (v.slot r.slot).status = .unitDown
  others : ∀ m, (∀ r ∈ (s.bay b).waiting, r.slot ≠ m) → (∀ r, (s.bay b).active = some r → r.slot ≠ m) → v.slot m = s.slot m

theorem waiting_readsEnded : ReadsEnded b s (endWaitingReads b .unitDown s) := by
  obtain ⟨last, counts, bay⟩ := endWaitingReads_bay (b := b) (cause := .unitDown) s
  exact { work := .endWaitingReads _, waiting := by rw [bay], contact := by rw [bay], generation := by rw [bay], latched := by rw [bay],
          done := fun r mem taken => endWaiting_done (b := b) (cause := .unitDown) _ s taken ⟨r, mem, rfl⟩,
          others := fun m others _ => endWaiting_otherSlot _ s fun r mem => (others r mem).symm }

theorem active_endWaitingReads (cause : EndCause) : ((endWaitingReads b cause s).bay b).active = (s.bay b).active
    ∧ ((endWaitingReads b cause s).bay b).half0 = (s.bay b).half0 ∧ ((endWaitingReads b cause s).bay b).half1 = (s.bay b).half1
    ∧ ((endWaitingReads b cause s).bay b).run = (s.bay b).run ∧ ((endWaitingReads b cause s).bay b).card = (s.bay b).card := by
  obtain ⟨last, counts, bay⟩ := endWaitingReads_bay (b := b) (cause := cause) s
  rw [bay]
  exact ⟨rfl, rfl, rfl, rfl, rfl⟩

theorem readsReset_none (none : (s.bay b).active = none) : readsReset b s = endWaitingReads b .unitDown s := by
  have still : ((endWaitingReads b .unitDown s).bay b).active = Option.none := (active_endWaitingReads .unitDown).1.trans none
  simp only [readsReset, endAtOnce, still]

theorem readsReset_ended {r : Read} (active : (s.bay b).active = some r) (ends : r.ended.isSome = true) :
    readsReset b s = endWaitingReads b .unitDown s :=
  endAtOnce_ended ((active_endWaitingReads .unitDown).1.trans active) ends

theorem readsReset_winds {r : Read} (active : (s.bay b).active = some r) (goesOn : r.ended = none) :
    readsReset b s = windDown b (r.mark.getD .unitDown) (endWaitingReads b .unitDown s) :=
  endAtOnce_winds ((active_endWaitingReads .unitDown).1.trans active) goesOn

theorem readsReset_readsEnded : ReadsEnded b s (readsReset b s) := by
  have first := waiting_readsEnded (b := b) (s := s)
  cases active : (s.bay b).active with
  | none =>
    rw [readsReset_none active]
    exact first
  | some r =>
    cases ended : r.ended with
    | some cause =>
      rw [readsReset_ended active (by rw [ended]; rfl)]
      exact first
    | none =>
      have now := (active_endWaitingReads (b := b) (s := s) .unitDown).1.trans active
      rw [readsReset_winds active ended]
      obtain ⟨_, _, _, _, _, face, _, _⟩ := windDown_bay (cause := r.mark.getD .unitDown) now first.waiting
      have work : BayWork b (endWaitingReads b .unitDown s) (windDown b (r.mark.getD .unitDown) (endWaitingReads b .unitDown s)) :=
        .windDown _
      have otherSlot := fun {m} => windDown_otherSlot (cause := r.mark.getD .unitDown) now first.waiting (m := m)
      generalize windDown b (r.mark.getD .unitDown) (endWaitingReads b .unitDown s) = w at *
      exact { work := first.work.trans work, waiting := (congrArg Bay.waiting face :).trans first.waiting,
              contact := (congrArg Bay.contact face :).trans first.contact,
              generation := (congrArg Bay.generation face :).trans first.generation,
              latched := (congrArg Bay.latched face :).trans first.latched,
              done := fun x mem taken => by
                obtain ⟨done, status⟩ := first.done x mem taken
                rw [work.settled x.slot (by rw [done]; decide)]
                exact ⟨done, status⟩
              others := fun m waiting here => (otherSlot (here r active).symm).trans
                (first.others m waiting here) }

/-- R119, R123: the active read of a bay that is reset. -/
theorem readsReset_active {r : Read} {cause : EndCause} (active : (s.bay b).active = some r) (goesOn : r.ended = none)
    (isCause : cause = r.mark.getD .unitDown) (noFault : cause ≠ .readFault) (cardThere : cause ≠ .cardGone)
    (taken : (s.slot r.slot).state = .taken) (apart : ∀ x ∈ (s.bay b).waiting, x.slot ≠ r.slot) :
    (readsReset b s).out = s.out
        ++ (if ((s.bay b).run = .running ∨ (s.bay b).run = .clockStopped) ∧ (s.bay b).card.isSome = true then [.halt b] else [])
      ∧ ((readsReset b s).bay b).half0 = (if (s.bay b).half0.state = .writing then (s.bay b).half0 else Half.reset)
      ∧ ((readsReset b s).bay b).half1 = (if (s.bay b).half1.state = .writing then (s.bay b).half1 else Half.reset)
      ∧ ((s.bay b).half0.state ≠ .writing → (s.bay b).half1.state ≠ .writing →
          ((readsReset b s).bay b).active = none ∧ (readsReset b s).slot r.slot =
            { s.slot r.slot with state := .done, status := endStatus cause, reason := .none, completedAt := s.clock,
                                 body := .read (finalReadResult (countPartial r)) })
      ∧ ((s.bay b).half0.state = .writing ∨ (s.bay b).half1.state = .writing →
          ((readsReset b s).bay b).active = some { r with ended := some cause, mark := none }
            ∧ (readsReset b s).slot r.slot = s.slot r.slot) := by
  obtain ⟨now, half0, half1, run, card⟩ := active_endWaitingReads (b := b) (s := s) .unitDown
  have first := waiting_readsEnded (b := b) (s := s)
  have slot : (endWaitingReads b .unitDown s).slot r.slot = s.slot r.slot :=
    endWaiting_otherSlot _ s fun x mem => (apart x mem).symm
  have sent := waitingReset_rest (b := b) (s := s)
  have clock := first.work.clock
  have alone := first.waiting
  rw [readsReset_winds active goesOn, ← isCause]
  generalize endWaitingReads b .unitDown s = v at *
  obtain ⟨_, _, _, now0, now1, _, _, out⟩ := windDown_bay (cause := cause) (now.trans active) alone
  obtain ⟨ends, lingers⟩ := windDown_active (cause := cause) (now.trans active) alone (by rw [slot]; exact taken)
  rw [slot, clock] at ends
  rw [slot] at lingers
  rw [half0] at now0
  rw [half1] at now1
  have empties : ∀ (h : Fin 2) (x : Half), (endHalf cause r h x).state = .empty ↔ x.state ≠ .writing := fun h x =>
    endHalf_empty_iff noFault cardThere
  refine ⟨?_, now0.trans (endHalf_drops noFault cardThere), now1.trans (endHalf_drops noFault cardThere), fun w0 w1 => ?_, fun writes => ?_⟩
  · rw [out, sent, run, card]
  · exact ends (by rw [now0]; exact (empties 0 _).2 w0) (by rw [now1]; exact (empties 1 _).2 w1)
  · refine lingers ?_
    rw [now0, now1, Ne, Ne, empties, empties]
    grind

end ReadsReset

section Unlit
variable {s t : State} (same : t.unlit = s.unlit)
include same

theorem slots_of_unlit : t.slots = s.slots := (congrArg State.slots same :)
theorem bays_of_unlit : t.bays = s.bays := (congrArg State.bays same :)
theorem out_of_unlit : t.out = s.out := (congrArg State.out same :)
theorem orders_of_unlit : t.orders = s.orders := (congrArg State.orders same :)
theorem sessions_of_unlit : t.sessions = s.sessions := (congrArg State.sessions same :)
theorem terminal_of_unlit : t.terminal = s.terminal := (congrArg State.terminal same :)
theorem intake_of_unlit : t.intake = s.intake := (congrArg State.intake same :)
theorem clock_of_unlit : t.clock = s.clock := (congrArg State.clock same :)

end Unlit

/-- R123, R179: what a bay's reset leaves and does, with the slot that asked for it. -/
structure BayReset (b : BayId) (n : SlotId) (body : Body) (s u : State) : Prop where
  slot : u.slot n = { s.slot n with state := .done, status := .ok, reason := .none, completedAt := s.clock, body := body }
  others : ∀ m, m ≠ n → u.slot m = (readsReset b s).slot m
  bay : u.bay b = ((readsReset b s).bay b).restarts
  bays : ∀ c, c ≠ b → u.bay c = s.bay c
  out : u.out = (readsReset b s).out
  intake : u.intake = s.intake
  orders : u.orders = s.orders
  sessions : u.sessions = s.sessions
  terminal : u.terminal = s.terminal

theorem resetBay_tables (b : BayId) (s : State) : (resetBay b s).slots = (readsReset b s).slots
    ∧ (resetBay b s).bays = upd (readsReset b s).bays b Bay.restarts ∧ (resetBay b s).out = (readsReset b s).out
    ∧ (resetBay b s).intake = (readsReset b s).intake ∧ (resetBay b s).orders = (readsReset b s).orders
    ∧ (resetBay b s).sessions = (readsReset b s).sessions ∧ (resetBay b s).terminal = (readsReset b s).terminal
    ∧ (resetBay b s).clock = (readsReset b s).clock := by
  have same := resetBay_eq b s
  generalize readsReset b s = v at *
  exact ⟨(slots_of_unlit same).trans rfl, (bays_of_unlit same).trans rfl, (out_of_unlit same).trans rfl, (intake_of_unlit same).trans rfl,
    (orders_of_unlit same).trans rfl, (sessions_of_unlit same).trans rfl, (terminal_of_unlit same).trans rfl,
    (clock_of_unlit same).trans rfl⟩

theorem resetBay_answered {b : BayId} {n : SlotId} {s : State} (taken : (s.slot n).state = .taken) (apart : noRead s n) (body : Body) :
    BayReset b n body s (complete n .ok .none body (resetBay b s)) := by
  obtain ⟨slots, bays, out, intake, orders, sessions, terminal, clock⟩ := resetBay_tables b s
  have ended := readsReset_readsEnded (b := b) (s := s)
  obtain ⟨waiting, active⟩ := apart b
  have mine := ended.others n waiting active
  have work := ended.work
  generalize resetBay b s = w at *
  have here : w.slot n = s.slot n := (congrArg (fun t => look t n) slots).trans mine
  have bay : ∀ c, w.bay c = if b = c then ((readsReset b s).bay c).restarts else (readsReset b s).bay c := fun c =>
    (congrArg (fun t => look t c) bays).trans (look_upd (readsReset b s).bays b c Bay.restarts)
  rw [complete_of_taken n .ok .none body w (by rw [here]; exact taken)]
  refine ⟨(slot_onSlot_same w n _).trans ?_, fun m ne => (slot_onSlot_ne w ne.symm _).trans (congrArg (fun t => look t m) slots),
    (bay b).trans (if_pos rfl), fun c ne => (bay c).trans ((if_neg ne.symm).trans (work.bay_ne ne)), out, intake.trans work.intake,
    orders.trans work.orders, sessions.trans work.sessions, terminal.trans work.terminal⟩
  rw [here, clock, work.clock]

/-! ## A printer (R100) -/

/-- R83, R100: State as the reset of a printer meets its copy. -/
def unpended (p : PrinterId) (s : State) : State := s.onPrinter p fun q => { q with servicePending := false }

/-- R100: State once the copy in flight has ended. -/
def copyStopped (p : PrinterId) (s : State) : State := endCopyFull p .aborted (abortCopy p .aborted (unpended p s))

theorem resetPrinter_eq (p : PrinterId) (s : State) :
    resetPrinter p s = setPrinterState p .absent ((copyStopped p s).onPrinter p (restartPort s.clock)) := rfl

section ResetPrinter
variable {p : PrinterId} {s : State}

theorem printer_unpended : (unpended p s).printer p = { s.printer p with servicePending := false } := printer_onPrinter_same s p _

theorem copyStep_copyStopped : CopyStep p (unpended p s) (copyStopped p s) := by
  have aborts := CopyStep.abortCopy p .aborted (unpended p s)
  refine aborts.trans (CopyStep.endCopy ?_ .aborted 8)
  have pending := (congrArg Printer.servicePending aborts.port :)
  rw [printer_unpended] at pending
  exact pending

/-- R100: what the reset of a printer shows of the port, whatever becomes of the copy. -/
theorem resetPrinter_port : ((resetPrinter p s).printer p).idle =
    ({ restartPort s.clock { s.printer p with servicePending := false } with state := .absent } : Printer).idle
      ∧ ((resetPrinter p s).printer p).copy = ((copyStopped p s).printer p).copy
      ∧ ((resetPrinter p s).printer p).last = ((copyStopped p s).printer p).last
      ∧ ((resetPrinter p s).printer p).counts = ((copyStopped p s).printer p).counts := by
  have step := copyStep_copyStopped (p := p) (s := s)
  have port := step.port
  rw [printer_unpended] at port
  rw [resetPrinter_eq]
  generalize copyStopped p s = t at *
  have here : (t.onPrinter p (restartPort s.clock)).printer p = restartPort s.clock (t.printer p) := printer_onPrinter_same t p _
  have now : (setPrinterState p .absent (t.onPrinter p (restartPort s.clock))).printer p =
      { restartPort s.clock (t.printer p) with state := .absent } := by
    by_cases same : (t.printer p).state = .absent
    · rw [setPrinterState_same (by rw [here]; exact same), here]
      exact congrArg (fun x => { restartPort s.clock (t.printer p) with state := x }) same
    · rw [setPrinterState_moves (by rw [here]; exact same)]
      refine (printer_onPrinter_same (t.onPrinter p (restartPort s.clock)) p _).trans ?_
      rw [here]
  rw [now]
  exact ⟨(congrArg (fun q => ({ restartPort s.clock q with state := .absent } : Printer).idle) port :), rfl, rfl, rfl⟩

theorem resetPrinter_step : PortStep p s (resetPrinter p s) := by
  rw [resetPrinter_eq]
  exact (PortStep.onPrinter s p _).trans (copyStep_copyStopped.toPortStep.trans
    ((PortStep.onPrinter _ p _).trans (PortStep.setPrinterState p .absent _)))

/-- The state of the port as the reset ends its copy. -/
theorem state_copyStopped : ((copyStopped p s).printer p).state = (s.printer p).state := by
  have port := (copyStep_copyStopped (p := p) (s := s)).port
  rw [printer_unpended] at port
  exact (congrArg Printer.state port :)

theorem resetPrinter_entry_stays (absent : (s.printer p).state = .absent) : (resetPrinter p s).entry p = (copyStopped p s).entry p := by
  have state := state_copyStopped (p := p) (s := s)
  rw [resetPrinter_eq, setPrinterState_same]
  · rfl
  · rw [printer_onPrinter_same]
    exact state.trans absent

theorem resetPrinter_entry_moves (on : (s.printer p).state ≠ .absent) : (resetPrinter p s).entry p =
    { reported := (s.entry p).reported, pendingConsumption := 0,
      grace := if (s.printer p).state = .ready ∨ (s.printer p).state = .printing ∨ (s.printer p).state = .paused
        then some (s.clock + BitVec.ofNat 32 s.timers.grace) else (s.entry p).grace } := by
  have state := state_copyStopped (p := p) (s := s)
  have step := copyStep_copyStopped (p := p) (s := s)
  rw [resetPrinter_eq]
  have calm : ((copyStopped p s).entry p).calm = (s.entry p).calm := step.entry
  have clock : (copyStopped p s).clock = s.clock := step.clock
  have timers : (copyStopped p s).timers = s.timers := step.timers
  generalize copyStopped p s = t at *
  have here : ((t.onPrinter p (restartPort s.clock)).printer p).state = (s.printer p).state := by
    rw [printer_onPrinter_same]
    exact state
  rw [setPrinterState_moves (by rw [here]; exact on), entry_onEntry_same, here]
  have grace : (t.entry p).grace = (s.entry p).grace := (congrArg StockEntry.grace calm :)
  have reported : (t.entry p).reported = (s.entry p).reported := (congrArg StockEntry.reported calm :)
  simp only [← healthy_iff, ← clock, ← timers, ← grace, ← reported]
  rfl

theorem copyStopped_idle (idle : (s.printer p).copy = none) : copyStopped p s = unpended p s := by
  have none : ((unpended p s).printer p).copy = Option.none := by rw [printer_unpended]; exact idle
  rw [copyStopped, abortCopy_idle none, endCopyFull, endCopy_idle none]

end ResetPrinter

/-- R66, R90: what the order unit reads once a port is cleared, where only the copy of that port may differ. -/
theorem samePress_cleared {p : PrinterId} {s t : State} {c d : Copy} (work : SameWork c d) (used : Nat) (orders : t.orders = s.orders)
    (notes : t.retryNotes = s.retryNotes) (clock : t.clock = s.clock) (stock : t.stock = s.stock)
    (state : ∀ q, (t.printer q).state = (s.printer q).state) (copy : ∀ q, q ≠ p → (t.printer q).copy = (s.printer q).copy) :
    SamePress (copyCleared p c used s) (copyCleared p d used t) := by
  refine ⟨orders, notes, clock, ?_, fun q => ?_, fun q => ?_⟩
  · rw [stock_copyCleared, stock_copyCleared, stock, work.early]
  · rw [printer_copyCleared, printer_copyCleared]
    split <;> exact state q
  · rw [printer_copyCleared, printer_copyCleared]
    split
    · rfl
    next ne => exact copy q (Ne.symm ne)

theorem aborting_work (c : Copy) (clock : W32) : SameWork c (c.aborting clock) := by
  unfold Copy.aborting
  split <;> exact ⟨rfl, rfl, rfl, rfl, rfl⟩

section Stops
variable {p : PrinterId} {s : State} {c : Copy} (copy : (s.printer p).copy = some c)
include copy

theorem printer_abortCopy : (abortCopy p .aborted s).printer p = { s.printer p with copy := some (c.aborting s.clock) } := by
  cases aborts : c.abortCause with
  | none =>
    rw [abortCopy_running copy aborts, Copy.aborting, aborts]
    exact printer_onPrinter_same s p (fun q =>
      { q with copy := some { c with abortCause := some .aborted, abortDeadline := some (s.clock + 2#32), beginWait := none } })
  | some was =>
    have kept : c.aborting s.clock = c := if_pos (by rw [aborts]; rfl)
    rw [abortCopy_aborting copy aborts, kept, ← copy]

theorem printer_abortCopy_ne {q : PrinterId} (ne : q ≠ p) : (abortCopy p .aborted s).printer q = s.printer q := by
  cases aborts : c.abortCause with
  | none =>
    rw [abortCopy_running copy aborts]
    exact printer_onPrinter_ne s ne.symm (fun q =>
      { q with copy := some { c with abortCause := some .aborted, abortDeadline := some (s.clock + 2#32), beginWait := none } })
  | some was => rw [abortCopy_aborting copy aborts]

theorem tables_abortCopy : (abortCopy p .aborted s).orders = s.orders ∧ (abortCopy p .aborted s).retryNotes = s.retryNotes
    ∧ (abortCopy p .aborted s).clock = s.clock ∧ (abortCopy p .aborted s).stock = s.stock := by
  cases aborts : c.abortCause with
  | none =>
    rw [abortCopy_running copy aborts]
    exact ⟨rfl, rfl, rfl, rfl⟩
  | some was =>
    rw [abortCopy_aborting copy aborts]
    exact ⟨rfl, rfl, rfl, rfl⟩

/-- R90, R100: the end of a copy that is aborted first is the end of the copy as it was. -/
theorem endCopy_aborted (stays : (s.printer p).servicePending = false) :
    (endCopyFull p .aborted (abortCopy p .aborted s)).orders = (endCopy p .aborted (sizeUnits c.size) s).orders
      ∧ (endCopyFull p .aborted (abortCopy p .aborted s)).retryNotes = (endCopy p .aborted (sizeUnits c.size) s).retryNotes
      ∧ ((endCopyFull p .aborted (abortCopy p .aborted s)).printer p).counts =
          ((endCopy p .aborted (sizeUnits c.size) s).printer p).counts
      ∧ ((endCopyFull p .aborted (abortCopy p .aborted s)).printer p).copy = none
      ∧ ((endCopyFull p .aborted (abortCopy p .aborted s)).printer p).last =
          some { id := c.id, result := finalResult c .aborted, consumed := sizeUnits c.size }
      ∧ (endCopyFull p .aborted (abortCopy p .aborted s)).out = s.out ++ if c.abortCause = none then [.abortCopy p c.id] else [] := by
  have port := printer_abortCopy copy
  obtain ⟨orders, notes, clock, stock⟩ := tables_abortCopy copy
  obtain ⟨-, sent⟩ := copy_abortCopy copy
  have others := fun q => printer_abortCopy_ne copy (q := q)
  obtain ⟨id, size, final⟩ := aborting_keeps s.clock c
  have work := aborting_work c s.clock
  generalize abortCopy p .aborted s = t at *
  have now : (t.printer p).copy = some (c.aborting s.clock) := by rw [port]
  have stays' : (t.printer p).servicePending = false := by rw [port]; exact stays
  obtain ⟨gone, last, out⟩ := endCopy_last now .aborted (sizeUnits c.size)
  rw [id, size, final, Nat.min_self] at last
  have press := samePress_cleared (p := p) work (sizeUnits c.size) orders notes clock stock (fun q => by
    by_cases own : q = p
    · subst own
      rw [port]
    · rw [others q own]) fun q ne => by rw [others q ne]
  obtain ⟨ended, noted⟩ := press.copyEnded work p (finalResult c .aborted)
  obtain ⟨orders', notes'⟩ := tables_copyReported p (c.aborting s.clock) (finalResult c .aborted) (sizeUnits c.size) t
  obtain ⟨orders'', notes''⟩ := tables_copyReported p c (finalResult c .aborted) (sizeUnits c.size) s
  have counts' := unqueued_copyReported p (c.aborting s.clock) (finalResult c .aborted) (sizeUnits c.size) t
  have counts'' := unqueued_copyReported p c (finalResult c .aborted) (sizeUnits c.size) s
  rw [port] at counts'
  rw [endCopyFull_eq now, size]
  refine ⟨?_, ?_, ?_, gone, last, out.trans sent⟩
  · rw [endCopy_stays now stays', endCopy_stays copy stays, final, size, Nat.min_self, orders', orders'', ended]
  · rw [endCopy_stays now stays', endCopy_stays copy stays, final, size, Nat.min_self, notes', notes'', noted]
  · rw [endCopy_stays now stays', endCopy_stays copy stays, final, size, Nat.min_self]
    generalize copyReported p (c.aborting s.clock) (finalResult c .aborted) (sizeUnits c.size) t = v at *
    generalize copyReported p c (finalResult c .aborted) (sizeUnits c.size) s = w at *
    exact (congrArg Printer.counts counts' :).trans (congrArg Printer.counts counts'' :).symm

end Stops

/-- R100: the tables and the link after the reset of a printer. -/
theorem resetPrinter_tables (p : PrinterId) (s : State) : (resetPrinter p s).orders = (copyStopped p s).orders
    ∧ (resetPrinter p s).retryNotes = (copyStopped p s).retryNotes ∧ (resetPrinter p s).out = (copyStopped p s).out
    ∧ (resetPrinter p s).intake = (copyStopped p s).intake := by
  rw [resetPrinter_eq]
  generalize copyStopped p s = t
  unfold setPrinterState
  dsimp only
  split <;> exact ⟨rfl, rfl, rfl, rfl⟩

theorem intake_copyStopped (p : PrinterId) (s : State) : (copyStopped p s).intake = s.intake := by
  cases copy : (s.printer p).copy with
  | none => rw [copyStopped_idle copy]; rfl
  | some c =>
    have here : ((unpended p s).printer p).copy = some c := by rw [printer_unpended]; exact copy
    have still : (abortCopy p .aborted (unpended p s)).intake = s.intake := by
      cases aborts : c.abortCause with
      | none => rw [abortCopy_running here aborts]; rfl
      | some was => rw [abortCopy_aborting here aborts]; rfl
    have now := printer_abortCopy here
    rw [copyStopped]
    generalize abortCopy p .aborted (unpended p s) = t at *
    have stays : (t.printer p).servicePending = false := by rw [now, printer_unpended]
    rw [endCopyFull, endCopy_stays (by rw [now]) stays, intake_of_besides (besides_copyReported p _ _ _ t)]
    exact Eq.trans (by simp only [copyClosed, copyCleared, State.onPrinter, State.onEntry]) still

/-! ## The terminal (R139, R140, R147) -/

/-- What the end of a holding leaves of another slot, of the blocks and of the till's sums. -/
structure HoldEnds (n : SlotId) (s t : State) : Prop where
  slot : t.slot n = s.slot n
  intake : t.intake = s.intake
  bays : t.bays = s.bays
  stock : t.stock = s.stock
  waits : t.terminal.waitList = s.terminal.waitList
  next : t.terminal.nextReference = s.terminal.nextReference
  captures : t.terminal.till.captures = s.terminal.till.captures
  approvals : t.terminal.till.approvals = s.terminal.till.approvals

namespace HoldEnds
variable {n : SlotId} {s t u : State}

theorem refl (n : SlotId) (s : State) : HoldEnds n s s := ⟨rfl, rfl, rfl, rfl, rfl, rfl, rfl, rfl⟩

theorem trans (h : HoldEnds n s t) (k : HoldEnds n t u) : HoldEnds n s u :=
  ⟨k.slot.trans h.slot, k.intake.trans h.intake, k.bays.trans h.bays, k.stock.trans h.stock, k.waits.trans h.waits, k.next.trans h.next,
    k.captures.trans h.captures, k.approvals.trans h.approvals⟩

theorem endPay {m : SlotId} (other : n ≠ m) (o : OrderId) (outcome : PayOutcome) (approved : Option Nat) (code : Option (List Byte))
    (reason : Option Byte) (s : State) : HoldEnds n s (endPay m o outcome approved code reason s) := by
  obtain ⟨-, -, -, terminal, -, stock, bays⟩ := endPay_tables m o outcome approved code reason s
  have slot := endPay_otherSlot (n := m) (s := s) o outcome approved code reason other
  have intake : (Machine.endPay m o outcome approved code reason s).intake = s.intake := by
    rw [endPay_eq]
    have aside : (payEffect o outcome code s).intake = s.intake := (congrArg State.intake (aside_payEffect o outcome code s) :)
    generalize payEffect o outcome code s = u at *
    have beyond : (reportPayEnd o outcome u).intake = u.intake := (congrArg State.intake (beyond_reportPayEnd o outcome u) :)
    generalize reportPayEnd o outcome u = v at *
    have rest := complete_rest m (outcomeStatus outcome) .none (payResult u m approved code reason) v
    exact (congrArg State.intake rest :).trans (beyond.trans aside)
  generalize Machine.endPay m o outcome approved code reason s = t at *
  exact ⟨slot, intake, bays, stock, by rw [terminal], by rw [terminal], by rw [terminal], by rw [terminal]⟩

theorem joinVoid (n : SlotId) (ref : W16) (amount attempts : Nat) (s : State) : HoldEnds n s (joinVoid ref amount attempts s) := by
  have drop : ∀ u : State, HoldEnds n u (dropOldestVoid u) := fun u => by
    unfold dropOldestVoid
    split
    · exact ⟨rfl, rfl, rfl, rfl, rfl, rfl, rfl, rfl⟩
    · exact refl n u
  have add : ∀ u : State, HoldEnds n u (u.onTerminal fun x =>
      { x with voidList := x.voidList ++ [{ reference := ref, amount := amount, attempts := attempts }] }) := fun u =>
    ⟨rfl, rfl, rfl, rfl, rfl, rfl, rfl, rfl⟩
  simp only [Machine.joinVoid]
  split
  · exact refl n s
  · split
    · exact (drop s).trans (add _)
    · exact add s

theorem latch (n : SlotId) (s : State) : HoldEnds n s (s.onTerminal fun u => { u with latched := { u.latched with authLost := true } }) :=
  ⟨rfl, rfl, rfl, rfl, rfl, rfl, rfl, rfl⟩

theorem clearHolder (n : SlotId) (s : State) : HoldEnds n s (clearHolder s) := ⟨rfl, rfl, rfl, rfl, rfl, rfl, rfl, rfl⟩

theorem addSettlement (n : SlotId) (o : OrderId) (attempts : Nat) (s : State) : HoldEnds n s (addSettlement o attempts s) :=
  ⟨rfl, rfl, rfl, rfl, rfl, rfl, rfl, rfl⟩

theorem loseHolding (away : ∀ h, s.terminal.holder = some h → h.slot ≠ some n) :
    HoldEnds n s (loseHolding s) ∧ (loseHolding s).terminal.holder = none := by
  unfold Machine.loseHolding
  split
  · exact ⟨refl n s, by assumption⟩
  next h holds =>
    have void := (joinVoid n h.reference h.amount 0 s).trans (clearHolder n _)
    split
    next m o _ slot _ =>
      have other : n ≠ m := fun same => away h holds (by rw [slot, same])
      exact ⟨((((endPay other o .terminalLost none none none s).trans (joinVoid n h.reference h.amount 0 _)).trans (latch n _)).trans
        (clearHolder n _)), rfl⟩
    · exact ⟨void, rfl⟩
    · exact ⟨void, rfl⟩
    · exact ⟨(clearHolder n s).trans (addSettlement n _ _ _), rfl⟩
    · exact ⟨clearHolder n s, rfl⟩
    · exact ⟨clearHolder n s, rfl⟩

end HoldEnds

/-- R133: the waiting PAYs end one after another. -/
theorem endPays_keeps {n : SlotId} {l : List PayEntry} (away : ∀ e ∈ l, e.slot ≠ n) (s : State) :
    HoldEnds n s (forEach l (fun e t => endPay e.slot e.order .aborted none none none t) s)
      ∧ (forEach l (fun e t => endPay e.slot e.order .aborted none none none t) s).terminal = s.terminal := by
  induction l generalizing s with
  | nil => exact ⟨HoldEnds.refl n s, rfl⟩
  | cons e rest ih =>
    have first := HoldEnds.endPay (away e List.mem_cons_self).symm e.order .aborted none none none s
    obtain ⟨-, -, -, terminal, -, -, -⟩ := endPay_tables e.slot e.order .aborted none none none s
    obtain ⟨later, still⟩ := ih (fun x mem => away x (List.mem_cons_of_mem _ mem)) (endPay e.slot e.order .aborted none none none s)
    exact ⟨first.trans later, still.trans terminal⟩

/-- R129, R140: the terminal as its link is lost. -/
def Terminal.unlinked (new : TerminalState) (clock : W32) (t : Terminal) : Terminal :=
  { t with state := new, watch := none, linkHeard := false, linkChangedAt := if t.linkHeard then some clock else t.linkChangedAt }

theorem linkLoss_ends (new : TerminalState) (s : State) : linkLoss new s =
    forEach (loseHolding s).terminal.waitList (fun e t => endPay e.slot e.order .aborted none none none t)
      ((loseHolding s).onTerminal fun t => { t.unlinked new s.clock with waitList := [] }) := rfl

/-- R140: the terminal after the loss of its link. -/
theorem linkLoss_terminal {n : SlotId} {s : State} (apart : noPay s n) (new : TerminalState) :
    (linkLoss new s).slot n = s.slot n ∧ (linkLoss new s).intake = s.intake ∧ (linkLoss new s).bays = s.bays ∧ (linkLoss new s).stock = s.stock
      ∧ ∃ t : Terminal, (linkLoss new s).terminal = { t.unlinked new s.clock with waitList := [] } ∧ t.holder = none
        ∧ t.nextReference = s.terminal.nextReference ∧ t.till.captures = s.terminal.till.captures
        ∧ t.till.approvals = s.terminal.till.approvals := by
  obtain ⟨waiting, holding⟩ := apart
  obtain ⟨ends, free⟩ := HoldEnds.loseHolding (n := n) holding
  rw [linkLoss_ends]
  generalize loseHolding s = v at *
  obtain ⟨kept, terminal⟩ := endPays_keeps (n := n) (l := v.terminal.waitList) (by rw [ends.waits]; exact waiting)
    (v.onTerminal fun t => { t.unlinked new s.clock with waitList := [] })
  exact ⟨kept.slot.trans ends.slot, kept.intake.trans ends.intake, kept.bays.trans ends.bays, kept.stock.trans ends.stock,
    v.terminal, terminal, free, ends.next, ends.captures, ends.approvals⟩

end Sys2Proof.Machine
end

section
/-! SUPPORT. RESET_UNIT as a request: what the host sees of each unit class (R179). -/

namespace Sys2Proof.Machine

section Requests
variable {s : State} {n : SlotId} {rest : List SlotId}

theorem resetUnitWork_class (class_ : reqByte (s.slot n) 16 ≠ 1) (class_' : reqByte (s.slot n) 16 ≠ 2) (class_'' : reqByte (s.slot n) 16 ≠ 3) :
    resetUnitWork n (takeSlot n rest s) = answered n rest .range .none .zero s := by
  simp only [resetUnitWork, reqByte_takeSlot]
  rw [if_neg class_, if_neg class_', if_neg class_'', refuseSlot_takeSlot]

theorem resetUnitWork_bay {b : BayId} (isBay : reqByte (s.slot n) 16 = 1) (number : reqByte (s.slot n) 17 = b.val) :
    resetUnitWork n (takeSlot n rest s) = settle (takeSlot n rest s)
      (complete n .ok .none (.resetBay (s.bay b).generation (liveReads (s.bay b))) (resetBay b (takeSlot n rest s))) := by
  simp only [resetUnitWork, reqByte_takeSlot]
  rw [if_pos isBay, dif_pos (by rw [number]; exact b.isLt)]
  simp only [number]
  rfl

theorem resetUnitWork_printer {p : PrinterId} (isPrinter : reqByte (s.slot n) 16 = 2) (number : reqByte (s.slot n) 17 = p.val) :
    resetUnitWork n (takeSlot n rest s) = settle (takeSlot n rest s)
      (complete n .ok .none (.resetPrinter ((resetPrinter p (takeSlot n rest s)).printer p).state (((s.printer p).copy.map (·.id)).getD 0))
        (resetPrinter p (takeSlot n rest s))) := by
  simp only [resetUnitWork, reqByte_takeSlot]
  rw [if_neg (by rw [isPrinter]; decide), if_pos isPrinter, dif_pos (by rw [number]; exact p.isLt)]
  simp only [number]
  rfl

theorem resetUnitWork_terminal (isTerminal : reqByte (s.slot n) 16 = 3) :
    resetUnitWork n (takeSlot n rest s) = settle (takeSlot n rest s)
      (complete n .ok .none (.resetTerminal s.terminal.state (lostReference s)) (resetTerminal (takeSlot n rest s))) := by
  simp only [resetUnitWork, reqByte_takeSlot]
  rw [if_neg (by rw [isTerminal]; decide), if_neg (by rw [isTerminal]; decide), if_pos isTerminal]
  rfl

theorem taken_takeSlot (n : SlotId) (rest : List SlotId) (s : State) : ((takeSlot n rest s).slot n).state = .taken := by
  rw [slot_takeSlot]

theorem otherSlot_takeSlot {m : SlotId} (ne : m ≠ n) (rest : List SlotId) (s : State) : (takeSlot n rest s).slot m = s.slot m :=
  slot_onSlot_ne s ne.symm _

/-- R119, R123: what the host sees of a bay's reset. -/
theorem resetUnit_bay {b : BayId} (hh : Heads s .resetUnit n rest) (isBay : reqByte (s.slot n) 16 = 1)
    (number : reqByte (s.slot n) 17 = b.val) (apart : noRead s n) : ∃ u, ThenSettles (exec .resetUnit s) s.quiet u
      ∧ BayReset b n (.resetBay (s.bay b).generation (liveReads (s.bay b))) (takeSlot n rest s.quiet) u :=
  ⟨_, command_thenSettles hh (resetUnitWork_bay (s := s.quiet) isBay number),
    resetBay_answered (taken_takeSlot n rest s.quiet) apart _⟩

/-- R90: two states that the order unit reads alike end a copy alike. -/
theorem SamePress.endCopy {p : PrinterId} {t : State} {c : Copy} (same : SamePress s t) (port : t.printer p = s.printer p)
    (copy : (s.printer p).copy = some c) (stays : (s.printer p).servicePending = false) (result : CopyResult) (consumed : Nat) :
    (endCopy p result consumed t).orders = (endCopy p result consumed s).orders
      ∧ (endCopy p result consumed t).retryNotes = (endCopy p result consumed s).retryNotes
      ∧ ((endCopy p result consumed t).printer p).counts = ((endCopy p result consumed s).printer p).counts := by
  rw [endCopy_stays copy stays, endCopy_stays (s := t) (by rw [port]; exact copy) (by rw [port]; exact stays)]
  obtain ⟨orders, notes⟩ := same.reported (SameWork.refl c) p (finalResult c result) (min consumed (sizeUnits c.size))
  have counts := unqueued_copyReported p c (finalResult c result) (min consumed (sizeUnits c.size)) s
  have counts' := unqueued_copyReported p c (finalResult c result) (min consumed (sizeUnits c.size)) t
  rw [port] at counts'
  generalize copyReported p c (finalResult c result) (min consumed (sizeUnits c.size)) t = v at *
  generalize copyReported p c (finalResult c result) (min consumed (sizeUnits c.size)) s = w at *
  exact ⟨orders, notes, (congrArg Printer.counts (counts'.trans counts.symm) :)⟩

/-- R90, R100, R179: what a printer's reset leaves and does, with the slot that asked for it. -/
structure PrinterReset (p : PrinterId) (n : SlotId) (body : Body) (s u : State) : Prop where
  slot : u.slot n = { s.slot n with state := .done, status := .ok, reason := .none, completedAt := s.clock, body := body }
  port : (u.printer p).idle = ({ restartPort s.clock { s.printer p with servicePending := false } with state := .absent } : Printer).idle
  same : ∀ q, u.printer q = (resetPrinter p s).printer q
  entry : ∀ q, u.entry q = (resetPrinter p s).entry q
  intake : u.intake = s.intake
  orders : u.orders = (copyStopped p s).orders
  notes : u.retryNotes = (copyStopped p s).retryNotes
  out : u.out = (copyStopped p s).out
  bays : u.bays = s.bays
  apertures : u.apertures = s.apertures

theorem resetPrinter_answered {p : PrinterId} (taken : (s.slot n).state = .taken) (body : Body) :
    PrinterReset p n body s (complete n .ok .none body (resetPrinter p s)) := by
  have step := resetPrinter_step (p := p) (s := s)
  obtain ⟨port, -⟩ := resetPrinter_port (p := p) (s := s)
  obtain ⟨orders, notes, out, intake⟩ := resetPrinter_tables p s
  have intake' := intake_copyStopped p s
  have here : (resetPrinter p s).slot n = s.slot n := congrArg (fun t => look t n) step.slots
  generalize reset : resetPrinter p s = t at *
  rw [complete_of_taken n .ok .none body _ (by rw [here]; exact taken)]
  refine ⟨(slot_onSlot_same t n _).trans (by rw [here, step.clock]), port, fun q => by rw [reset]; rfl, fun q => by rw [reset]; rfl,
    intake.trans intake', orders, notes, out, step.bays, step.apertures⟩

theorem state_resetPrinter (p : PrinterId) (s : State) : ((resetPrinter p s).printer p).state = .absent := by
  obtain ⟨port, -⟩ := resetPrinter_port (p := p) (s := s)
  generalize resetPrinter p s = t at *
  exact (congrArg Printer.state port :)

/-- R100: what the host sees of a printer's reset. -/
theorem resetUnit_printer {p : PrinterId} (hh : Heads s .resetUnit n rest) (isPrinter : reqByte (s.slot n) 16 = 2)
    (number : reqByte (s.slot n) 17 = p.val) : ∃ u, ThenSettles (exec .resetUnit s) s.quiet u
      ∧ PrinterReset p n (.resetPrinter .absent (((s.printer p).copy.map (·.id)).getD 0)) (takeSlot n rest s.quiet) u := by
  refine ⟨_, command_thenSettles hh (resetUnitWork_printer (s := s.quiet) isPrinter number), ?_⟩
  rw [state_resetPrinter]
  exact resetPrinter_answered (taken_takeSlot n rest s.quiet) _

/-- R90, R100: the copy of a printer that is reset, against the copy's end on the state before the taking. -/
theorem copyStopped_takeSlot {p : PrinterId} {c : Copy} (copy : (s.printer p).copy = some c) :
    (copyStopped p (takeSlot n rest s.quiet)).orders = (endCopy p .aborted (sizeUnits c.size) (unpended p s)).orders
      ∧ (copyStopped p (takeSlot n rest s.quiet)).retryNotes = (endCopy p .aborted (sizeUnits c.size) (unpended p s)).retryNotes
      ∧ ((copyStopped p (takeSlot n rest s.quiet)).printer p).counts =
          ((endCopy p .aborted (sizeUnits c.size) (unpended p s)).printer p).counts
      ∧ ((copyStopped p (takeSlot n rest s.quiet)).printer p).copy = none
      ∧ ((copyStopped p (takeSlot n rest s.quiet)).printer p).last =
          some { id := c.id, result := finalResult c .aborted, consumed := sizeUnits c.size }
      ∧ (copyStopped p (takeSlot n rest s.quiet)).out = if c.abortCause = none then [.abortCopy p c.id] else [] := by
  have same : SamePress (unpended p s) (unpended p (takeSlot n rest s.quiet)) := ⟨rfl, rfl, rfl, rfl, fun _ => rfl, fun _ => rfl⟩
  have here : ((unpended p s).printer p).copy = some c := by rw [printer_unpended]; exact copy
  have stays : ((unpended p s).printer p).servicePending = false := by rw [printer_unpended]
  have port : (unpended p (takeSlot n rest s.quiet)).printer p = (unpended p s).printer p := rfl
  have silent : (unpended p (takeSlot n rest s.quiet)).out = [] := rfl
  obtain ⟨orders', notes', counts'⟩ := same.endCopy port here stays .aborted (sizeUnits c.size)
  obtain ⟨orders, notes, counts, gone, last, out⟩ := endCopy_aborted (s := unpended p (takeSlot n rest s.quiet)) (by rw [port]; exact here)
    (by rw [port]; exact stays)
  rw [silent, List.nil_append] at out
  exact ⟨orders.trans orders', notes.trans notes', counts.trans counts', gone, last, out⟩

/-- R147: the last step of a terminal's reset. -/
def State.unsilenced (s : State) : State := s.onTerminal fun t => { t with linkSilentLive := false }

/-- R140, R147: what a terminal's reset leaves, with the slot that asked for it. -/
structure TerminalReset (n : SlotId) (body : Body) (s u : State) : Prop where
  slot : u.slot n = { s.slot n with state := .done, status := .ok, reason := .none, completedAt := u.clock, body := body }
  intake : u.intake = s.intake
  bays : u.bays = s.bays
  stock : u.stock = s.stock
  terminal : ∃ t : Terminal, u.terminal = { t.unlinked .absent s.clock with waitList := [], linkSilentLive := false } ∧ t.holder = none
    ∧ t.nextReference = s.terminal.nextReference ∧ t.till.captures = s.terminal.till.captures
    ∧ t.till.approvals = s.terminal.till.approvals

theorem resetTerminal_answered (taken : (s.slot n).state = .taken) (apart : noPay s n) (body : Body) :
    TerminalReset n body s (complete n .ok .none body (resetTerminal s)) := by
  obtain ⟨slot, intake, bays, stock, t, terminal, free, next, captures, approvals⟩ := linkLoss_terminal apart .absent
  have reset : resetTerminal s = (linkLoss .absent s).unsilenced := rfl
  rw [reset]
  generalize linkLoss .absent s = v at *
  have here : v.unsilenced.slot n = s.slot n := slot
  rw [complete_of_taken n .ok .none body _ (by rw [here]; exact taken)]
  refine ⟨(slot_onSlot_same v.unsilenced n _).trans (by rw [here]; rfl), intake, bays, stock, t, ?_, free, next, captures, approvals⟩
  exact congrArg (fun x : Terminal => { x with linkSilentLive := false }) terminal

/-- R147: what the host sees of a terminal's reset. -/
theorem resetUnit_terminal (hh : Heads s .resetUnit n rest) (isTerminal : reqByte (s.slot n) 16 = 3) (apart : noPay s n) :
    ∃ u, ThenSettles (exec .resetUnit s) s.quiet u
      ∧ TerminalReset n (.resetTerminal s.terminal.state (lostReference s)) (takeSlot n rest s.quiet) u :=
  ⟨_, command_thenSettles hh (resetUnitWork_terminal (s := s.quiet) isTerminal),
    resetTerminal_answered (taken_takeSlot n rest s.quiet) apart _⟩

/-- R140: what the holding loses, with the reference that the result names (R147). -/
def LostNamed (s : State) (ended : W16) (t lost : State) : Prop :=
  (s.terminal.holder = none ∧ ended = 0 ∧ lost = t)
    ∨ (∃ h, s.terminal.holder = some h ∧
        ((∃ m o, h.kind = .authorization ∧ h.slot = some m ∧ h.order = some o ∧ ended = h.reference
            ∧ lost = (joinVoid h.reference h.amount 0 (endPay m o .terminalLost none none none t)).onTerminal fun t =>
                { t with latched := { t.latched with authLost := true } })
          ∨ ((h.kind = .authorization ∧ h.slot = none ∨ h.kind = .followUpVoid) ∧ ended = 0 ∧ lost = joinVoid h.reference h.amount 0 t)
          ∨ (∃ o, h.kind = .settlement ∧ h.order = some o ∧ ended = 0 ∧ lost = t.onTerminal fun t =>
                { t with pendingSettlements := insertSettlement { order := o, attempts := h.attempts } t.pendingSettlements })
          ∨ (h.kind = .listVoid ∧ ended = 0 ∧ lost = t)))

theorem lostNamed_lost {t lost : State} {ended : W16} (same : t.terminal.holder = s.terminal.holder) (named : LostNamed s ended t lost) :
    Lost t lost ∧ lostReference s = ended := by
  unfold LostNamed at named
  unfold Lost lostReference
  rw [same]
  obtain ⟨free, rfl, rfl⟩ | ⟨h, holds, cases⟩ := named
  · rw [free]
    exact ⟨.inl ⟨rfl, rfl⟩, rfl⟩
  · rw [holds]
    dsimp only
    obtain ⟨m, o, kind, slot, order, rfl, rfl⟩ | ⟨how, rfl, rfl⟩ | ⟨o, kind, order, rfl, rfl⟩ | ⟨kind, rfl, rfl⟩ := cases
    · rw [kind, slot]
      exact ⟨.inr ⟨h, rfl, .inl ⟨m, o, kind, slot, order, rfl⟩⟩, rfl⟩
    · refine ⟨.inr ⟨h, rfl, .inr (.inl ⟨how, rfl⟩)⟩, if_neg ?_⟩
      rintro ⟨kind, slot⟩
      obtain ⟨-, none⟩ | void := how
      · rw [none] at slot
        exact absurd slot (by decide)
      · rw [void] at kind
        exact absurd kind (by decide)
    · exact ⟨.inr ⟨h, rfl, .inr (.inr (.inl ⟨o, kind, order, rfl⟩))⟩, if_neg (by rw [kind]; exact fun h => absurd h.1 (by decide))⟩
    · exact ⟨.inr ⟨h, rfl, .inr (.inr (.inr ⟨kind, rfl⟩))⟩, if_neg (by rw [kind]; exact fun h => absurd h.1 (by decide))⟩

theorem resetUnit_terminalLost (hh : Heads s .resetUnit n rest) (isTerminal : reqByte (s.slot n) 16 = 3) {lost : State} {ended : W16}
    (named : LostNamed s ended (takeSlot n rest s.quiet) lost) : ThenSettles (exec .resetUnit s) s.quiet
      (complete n .ok .none (.resetTerminal s.terminal.state ended)
        ((s.terminal.waitList.foldl (fun u e => endPay e.slot e.order .aborted none none none u)
          (lost.onTerminal fun t =>
            { t with state := .absent, watch := none, holder := none, linkHeard := false, waitList := [],
                     linkChangedAt := if t.linkHeard then some s.clock else t.linkChangedAt })).onTerminal fun t =>
          { t with linkSilentLive := false })) := by
  obtain ⟨loses, reference⟩ := lostNamed_lost (s := s) (t := takeSlot n rest s.quiet) rfl named
  have settles := command_thenSettles hh (resetUnitWork_terminal (s := s.quiet) isTerminal)
  have same : lostReference s.quiet = lostReference s := rfl
  rw [same, reference, resetTerminal, linkLoss_eq loses] at settles
  exact settles

/-- R123: the bay's reset, clause by clause. -/
theorem bayReset_active {b : BayId} {body : Body} {u : State} (reset : BayReset b n body (takeSlot n rest s.quiet) u) (apart : noRead s n)
    {r : Read} {cause : EndCause} (active : (s.bay b).active = some r) (goesOn : r.ended = none)
    (isCause : cause = r.mark.getD .unitDown) (noFault : cause ≠ .readFault) (cardThere : cause ≠ .cardGone)
    (taken : (s.slot r.slot).state = .taken) (alone : ∀ x ∈ (s.bay b).waiting, x.slot ≠ r.slot) :
    u.out = (if ((s.bay b).run = .running ∨ (s.bay b).run = .clockStopped) ∧ (s.bay b).card.isSome = true then [.halt b] else [])
      ∧ (u.bay b).half0 = (if (s.bay b).half0.state = .writing then (s.bay b).half0 else Half.reset)
      ∧ (u.bay b).half1 = (if (s.bay b).half1.state = .writing then (s.bay b).half1 else Half.reset)
      ∧ ((s.bay b).half0.state ≠ .writing → (s.bay b).half1.state ≠ .writing →
          (u.bay b).active = none ∧ (u.slot r.slot).state = .done ∧ (u.slot r.slot).status = endStatus cause
            ∧ (u.slot r.slot).body = .read (finalReadResult (countPartial r)))
      ∧ ((s.bay b).half0.state = .writing ∨ (s.bay b).half1.state = .writing →
          (u.bay b).active = some { r with ended := some cause, mark := none } ∧ u.slot r.slot = s.slot r.slot) := by
  have other : r.slot ≠ n := (apart b).2 r active
  have here := otherSlot_takeSlot other rest s.quiet
  obtain ⟨out, half0, half1, ends, lingers⟩ := readsReset_active (s := takeSlot n rest s.quiet) active goesOn isCause noFault cardThere
    (by rw [here]; exact taken) alone
  have slot := reset.others r.slot other
  have bay := reset.bay
  have sent := reset.out
  generalize readsReset b (takeSlot n rest s.quiet) = v at *
  refine ⟨sent.trans out, ?_, ?_, fun w0 w1 => ?_, fun writes => ?_⟩
  · rw [bay]; exact half0
  · rw [bay]; exact half1
  · obtain ⟨gone, done⟩ := ends w0 w1
    rw [bay, slot, done]
    exact ⟨gone, rfl, rfl, rfl⟩
  · obtain ⟨on, still⟩ := lingers writes
    rw [bay, slot, still, here]
    exact ⟨on, rfl⟩

end Requests

/-- Settles O52. -/
theorem resetUnitRestartsAUnit : Obligations.ResetUnitRestartsAUnit := by
  unfold Obligations.ResetUnitRestartsAUnit
  intro s n rest hh
  refine ⟨fun c1 c2 c3 => command_endsAs hh (resetUnitWork_class (s := s.quiet) c1 c2 c3), fun b isBay number apart => ?_,
    fun p isPrinter number => ?_, fun isTerminal apart => ?_, fun isTerminal taken lost ended isTaken named => ?_⟩
  case refine_1 =>
    obtain ⟨u, settles, reset⟩ := resetUnit_bay hh isBay number apart
    have ended := readsReset_readsEnded (b := b) (s := takeSlot n rest s.quiet)
    have active := fun r cause => bayReset_active reset apart (r := r) (cause := cause)
    have bay := reset.bay
    have out := reset.out
    obtain ⟨slot, others, -, bays, -, intake, orders, sessions, terminal⟩ := reset
    have quiet := readsReset_none (b := b) (s := takeSlot n rest s.quiet)
    have winds := fun r => readsReset_ended (b := b) (s := takeSlot n rest s.quiet) (r := r)
    have first := active_endWaitingReads (b := b) (s := takeSlot n rest s.quiet) .unitDown
    have silent := waitingReset_rest (b := b) (s := takeSlot n rest s.quiet)
    generalize readsReset b (takeSlot n rest s.quiet) = v at *
    generalize endWaitingReads b .unitDown (takeSlot n rest s.quiet) = w at *
    obtain ⟨work, waiting, contact, generation, latched, done, -⟩ := ended
    refine ⟨u, settles, by rw [slot], by rw [slot], intake, by rw [bay]; rfl, by rw [bay]; rfl, by rw [bay]; exact waiting,
      by rw [bay]; exact generation, by rw [bay]; exact latched, by rw [bay]; rfl, by rw [bay]; rfl, by rw [bay]; rfl, by rw [slot]; rfl,
      fun closed => ?_, fun opened => ?_, fun r mem taken => ?_, fun none => ?_, fun r act isEnded => ?_, fun r cause st final act goesOn why isFinal taken alone => ?_,
      bays, orders, sessions, terminal⟩
    case refine_1 =>
      have now : (v.bay b).contact = true := contact.trans closed
      rw [bay]
      simp only [Bay.restarts, now, if_true, and_self]
    case refine_2 =>
      have now : (v.bay b).contact = false := contact.trans opened
      rw [bay]
      simp only [Bay.restarts, now, if_false, and_self, Bool.false_eq_true]
    case refine_3 =>
      have other : r.slot ≠ n := (apart b).1 r mem
      have here := otherSlot_takeSlot other rest s.quiet
      rw [others r.slot other]
      exact done r mem (by rw [here]; exact taken)
    case refine_4 =>
      have same := quiet none
      rw [bay, out, same]
      exact ⟨first.1.trans none, silent⟩
    case refine_5 =>
      have same := winds r act isEnded
      rw [bay, out, same]
      exact ⟨first.1.trans act, first.2.1, first.2.2.1, silent⟩
    case refine_6 =>
      rw [show final = countPartial r from isFinal]
      obtain ⟨mark, rfl, rfl⟩ | ⟨mark, rfl, rfl⟩ | ⟨mark, rfl, rfl⟩ := why
      · exact active r _ act goesOn (by rw [mark]) (by decide) (by decide) taken alone
      · exact active r _ act goesOn (by rw [mark]) (by decide) (by decide) taken alone
      · exact active r _ act goesOn (by rw [mark]) (by decide) (by decide) taken alone
  case refine_2 =>
    obtain ⟨u, settles, slot, port, same, entry, intake, orders, notes, out, bays, apertures⟩ := resetUnit_printer hh isPrinter number
    obtain ⟨-, copy, last, counts⟩ := resetPrinter_port (p := p) (s := takeSlot n rest s.quiet)
    have idle := copyStopped_idle (p := p) (s := takeSlot n rest s.quiet)
    have ended := fun c => copyStopped_takeSlot (s := s) (n := n) (rest := rest) (p := p) (c := c)
    have moves := resetPrinter_entry_moves (p := p) (s := takeSlot n rest s.quiet)
    have stays := resetPrinter_entry_stays (p := p) (s := takeSlot n rest s.quiet)
    have entries := (resetPrinter_step (p := p) (s := takeSlot n rest s.quiet)).entries
    have quiet : (unpended p (takeSlot n rest s.quiet)).orders = s.orders ∧ (unpended p (takeSlot n rest s.quiet)).out = []
        ∧ ((unpended p (takeSlot n rest s.quiet)).printer p).last = (s.printer p).last
        ∧ ((unpended p (takeSlot n rest s.quiet)).printer p).copy = (s.printer p).copy
        ∧ (unpended p (takeSlot n rest s.quiet)).entry p = s.entry p := by
      rw [printer_unpended]
      exact ⟨rfl, rfl, rfl, rfl, rfl⟩
    obtain ⟨quietOrders, quietOut, quietLast, quietCopy, quietEntry⟩ := quiet
    have before : (takeSlot n rest s.quiet).printer p = s.printer p := rfl
    have gone : ((copyStopped p (takeSlot n rest s.quiet)).printer p).copy = none := by
      cases copies : (s.printer p).copy with
      | none =>
        rw [idle copies, quietCopy]
        exact copies
      | some c => exact (ended c copies).2.2.2.1
    generalize unpended p (takeSlot n rest s.quiet) = w at *
    generalize copyStopped p (takeSlot n rest s.quiet) = v at *
    generalize resetPrinter p (takeSlot n rest s.quiet) = t at *
    rw [before] at port
    refine ⟨u, settles, by rw [slot], by rw [slot], intake, (congrArg Printer.state port :), ?_, (congrArg Printer.watch port :),
      (congrArg Printer.servicePending port :), (congrArg Printer.overheatLock port :), (congrArg Printer.head port :),
      (congrArg Printer.pack port :), (congrArg Printer.nextCopyId port :), (congrArg Printer.linkHeard port :),
      (congrArg Printer.latched port :), (congrArg Printer.linkChangedAt port :), (congrArg Printer.live port :), by rw [slot],
      fun none => ?_, fun c before' copies isBefore => ?_, fun on => ?_, fun absent none => ?_, fun q ne => ?_, bays, apertures⟩
    case refine_1 => rw [same, copy, gone]
    case refine_2 =>
      rw [same, last, orders, out, idle none]
      exact ⟨quietLast, quietOrders, quietOut⟩
    case refine_3 =>
      obtain ⟨orders', notes', counts', -, last', out'⟩ := ended c copies
      subst isBefore
      rw [same, last, counts, orders, notes, out]
      exact ⟨out', last', counts', orders', notes'⟩
    case refine_4 => exact (entry p).trans (moves on)
    case refine_5 => exact (entry p).trans ((stays absent).trans (by rw [idle none]; exact quietEntry))
    case refine_6 => exact (entry q).trans (entries q ne)
  case refine_3 =>
    obtain ⟨u, settles, slot, intake, bays, stock, t, terminal, free, next, captures, approvals⟩ := resetUnit_terminal hh isTerminal apart
    refine ⟨u, settles, by rw [slot], by rw [slot], intake, by rw [slot], ?_⟩
    rw [terminal]
    exact ⟨rfl, free, rfl, rfl, rfl, rfl, next, captures, approvals, bays, stock⟩
  case refine_4 =>
    subst isTaken
    exact resetUnit_terminalLost hh isTerminal named

end Sys2Proof.Machine
end

section
/-! SUPPORT. The hand-over to the void list at a part reset (R143, R149, R181). -/

namespace Sys2Proof.Machine

/-! ## What joining changes -/

/-- R143: `t` is `s` with another void list, and perhaps entries of it counted abandoned. -/
def VoidsOnly (s t : State) : Prop :=
  ∃ list sum latched, t = s.onTerminal fun u =>
    { u with voidList := list, till := { u.till with abandoned := sum }, latched := { u.latched with voidAbandoned := latched } }

theorem VoidsOnly.refl (s : State) : VoidsOnly s s :=
  ⟨s.terminal.voidList, s.terminal.till.abandoned, s.terminal.latched.voidAbandoned, rfl⟩

theorem VoidsOnly.trans {s t u : State} (h : VoidsOnly s t) (k : VoidsOnly t u) : VoidsOnly s u := by
  obtain ⟨_, _, _, rfl⟩ := h
  obtain ⟨list, sum, latched, rfl⟩ := k
  exact ⟨list, sum, latched, rfl⟩

theorem voidsOnly_dropOldestVoid (s : State) : VoidsOnly s (dropOldestVoid s) := by
  unfold dropOldestVoid
  split
  next e _ => exact ⟨s.terminal.voidList.filter (·.reference != e.reference), s.terminal.till.abandoned.add e.amount, true, rfl⟩
  · exact .refl s

theorem voidsOnly_joinVoid (ref : W16) (amount attempts : Nat) (s : State) : VoidsOnly s (joinVoid ref amount attempts s) := by
  have joins : ∀ u : State, VoidsOnly u (u.onTerminal fun x =>
      { x with voidList := x.voidList ++ [{ reference := ref, amount := amount, attempts := attempts }] }) := fun u =>
    ⟨u.terminal.voidList ++ [{ reference := ref, amount := amount, attempts := attempts }], u.terminal.till.abandoned,
      u.terminal.latched.voidAbandoned, rfl⟩
  simp only [joinVoid]
  split
  · exact .refl s
  · split
    · exact (voidsOnly_dropOldestVoid s).trans (joins _)
    · exact joins s

/-- R143: joining reads the terminal alone. -/
theorem joinVoid_terminal {s t : State} (same : t.terminal = s.terminal) (ref : W16) (amount attempts : Nat) :
    (joinVoid ref amount attempts t).terminal = (joinVoid ref amount attempts s).terminal := by
  have held : heldVoid t = heldVoid s := by rw [heldVoid, heldVoid, same]
  have drops : (dropOldestVoid t).terminal = (dropOldestVoid s).terminal := by
    rw [dropOldestVoid, dropOldestVoid, same, held]
    split
    · simp only [countAbandoned, leaveVoidList, State.onTerminal, State.onTill, same]
    · exact same
  simp only [joinVoid, same]
  split
  · exact same
  · split
    · simp only [State.onTerminal, drops]
    · simp only [State.onTerminal, same]

/-! ## A queue of joinings -/

/-- R149: references join one after another, with no attempt counted. -/
def joinAll (queue : List (W16 × Nat)) (s : State) : State := queue.foldl (fun u x => joinVoid x.1 x.2 0 u) s

theorem voidsOnly_joinAll (queue : List (W16 × Nat)) (s : State) : VoidsOnly s (joinAll queue s) := by
  induction queue generalizing s with
  | nil => exact .refl s
  | cons x rest ih => exact (voidsOnly_joinVoid x.1 x.2 0 s).trans (ih _)

theorem joinAll_terminal (queue : List (W16 × Nat)) {s t : State} (same : t.terminal = s.terminal) :
    (joinAll queue t).terminal = (joinAll queue s).terminal := by
  induction queue generalizing s t with
  | nil => exact same
  | cons x rest ih => exact ih (joinVoid_terminal same x.1 x.2 0)

/-- The void-list entry of a reference that joins. -/
def freshVoid (x : W16 × Nat) : VoidEntry := { reference := x.1, amount := x.2, attempts := 0 }

/-- R143: what joins a list, in order, one entry a reference. -/
def newVoids : List VoidEntry → List (W16 × Nat) → List VoidEntry
  | _, [] => []
  | l, x :: rest => if l.any (·.reference == x.1) then newVoids l rest else freshVoid x :: newVoids (l ++ [freshVoid x]) rest

theorem newVoids_append (l : List VoidEntry) (q r : List (W16 × Nat)) :
    newVoids l (q ++ r) = newVoids l q ++ newVoids (l ++ newVoids l q) r := by
  induction q generalizing l with
  | nil => simp [newVoids]
  | cons x rest ih =>
    rw [List.cons_append, newVoids, newVoids]
    split
    · exact ih l
    · rw [ih, List.cons_append, List.append_assoc, List.singleton_append]

theorem newVoids_mem {l : List VoidEntry} {q : List (W16 × Nat)} {e : VoidEntry} (mem : e ∈ newVoids l q) :
    (e.reference, e.amount) ∈ q ∧ e.attempts = 0 ∧ ∀ k ∈ l, k.reference ≠ e.reference := by
  induction q generalizing l with
  | nil => exact absurd mem List.not_mem_nil
  | cons x rest ih =>
    rw [newVoids] at mem
    split at mem
    · obtain ⟨inQueue, attempts, apart⟩ := ih mem
      exact ⟨List.mem_cons_of_mem x inQueue, attempts, apart⟩
    next new =>
      obtain rfl | later := List.mem_cons.1 mem
      · exact ⟨List.mem_cons_self, rfl, by simpa [freshVoid] using new⟩
      · obtain ⟨inQueue, attempts, apart⟩ := ih later
        exact ⟨List.mem_cons_of_mem x inQueue, attempts, fun k kept => apart k (List.mem_append_left _ kept)⟩

theorem newVoids_listed (l : List VoidEntry) (q : List (W16 × Nat)) {x : W16 × Nat} (mem : x ∈ q) :
    ∃ e ∈ l ++ newVoids l q, e.reference = x.1 := by
  induction q generalizing l with
  | nil => exact absurd mem List.not_mem_nil
  | cons y rest ih =>
    rw [newVoids]
    split
    next old =>
      obtain rfl | later := List.mem_cons.1 mem
      · obtain ⟨k, kept, same⟩ := List.any_eq_true.1 old
        exact ⟨k, List.mem_append_left _ kept, beq_iff_eq.1 same⟩
      · exact ih l later
    next =>
      rw [List.append_cons]
      obtain rfl | later := List.mem_cons.1 mem
      · exact ⟨freshVoid x, by simp, rfl⟩
      · exact ih _ later

theorem newVoids_nodup (l : List VoidEntry) (q : List (W16 × Nat)) : ((newVoids l q).map (·.reference)).Nodup := by
  induction q generalizing l with
  | nil => exact List.nodup_nil
  | cons x rest ih =>
    rw [newVoids]
    split
    · exact ih l
    · refine List.nodup_cons.2 ⟨fun mem => ?_, ih _⟩
      obtain ⟨e, later, same⟩ := List.mem_map.1 mem
      exact (newVoids_mem later).2.2 (freshVoid x) (by simp) same.symm

/-- R143: with room for all, the list takes what is new and nothing else of the terminal changes. -/
theorem joinAll_room (q : List (W16 × Nat)) {s : State} (room : s.terminal.voidList.length + q.length ≤ 16) :
    joinAll q s = s.onTerminal fun t => { t with voidList := t.voidList ++ newVoids t.voidList q } := by
  induction q generalizing s with
  | nil => exact (onTerminal_self (by rw [newVoids, List.append_nil])).symm
  | cons x rest ih =>
    rw [List.length_cons] at room
    change joinAll rest (joinVoid x.1 x.2 0 s) = _
    cases old : s.terminal.voidList.any (·.reference == x.1) with
    | true =>
      rw [joinVoid, if_pos old, ih (by omega)]
      exact onTerminal_congr (by rw [newVoids, if_pos old])
    | false =>
      rw [joinVoid_room (by simpa using old) (by omega), ih (by simp [State.onTerminal]; omega), onTerminal_onTerminal]
      refine onTerminal_congr ?_
      dsimp only
      rw [newVoids, old, if_neg (by decide), List.append_assoc, List.singleton_append]
      rfl

/-- R143: with no reference twice, the list keeps the youngest 16 and each older entry is counted abandoned. -/
theorem joinAll_apart (q : List (W16 × Nat)) {s : State} (free : s.terminal.holder = none) {all : List VoidEntry}
    (isAll : all = s.terminal.voidList ++ q.map freshVoid) (room : s.terminal.voidList.length ≤ 16) (apart : (all.map (·.reference)).Nodup) :
    joinAll q s = s.onTerminal fun t =>
      { t with voidList := all.drop (all.length - 16),
               till := { t.till with abandoned := (all.take (all.length - 16)).foldl (fun u e => u.add e.amount) t.till.abandoned },
               latched := { t.latched with voidAbandoned := t.latched.voidAbandoned || decide (0 < all.length - 16) } } := by
  induction q generalizing s all with
  | nil =>
    subst isAll
    have none : (s.terminal.voidList ++ List.map freshVoid []).length - 16 = 0 := by simp [room]
    rw [none]
    exact (onTerminal_self (s := s) (by simp)).symm
  | cons x rest ih =>
    have new : ∀ e ∈ s.terminal.voidList, e.reference ≠ x.1 := fun e mem same => by
      rw [isAll, List.map_append, List.nodup_append] at apart
      exact apart.2.2 e.reference (List.mem_map_of_mem mem) x.1 (List.mem_map.2 ⟨freshVoid x, by simp, rfl⟩) same
    change joinAll rest (joinVoid x.1 x.2 0 s) = _
    by_cases few : s.terminal.voidList.length < 16
    · rw [joinVoid_room new few]
      refine (ih (all := all) ?_ ?_ ?_ apart).trans ?_
      · exact free
      · rw [isAll]; simp [State.onTerminal, freshVoid]
      · simp [State.onTerminal]; omega
      · rfl
    · obtain ⟨d, kept, list⟩ : ∃ d kept, s.terminal.voidList = d :: kept :=
        List.exists_cons_of_ne_nil fun empty => few (by rw [empty]; decide)
      have holds : heldVoid s = none := by rw [heldVoid, free]
      have oldest : (s.terminal.voidList.find? fun e => some e.reference != heldVoid s) = some d := by
        rw [list, holds]
        exact List.find?_cons_of_pos (by simp)
      have later : all = d :: (kept ++ (x :: rest).map freshVoid) := by rw [isAll, list, List.cons_append]
      have others : ∀ e ∈ kept, e.reference ≠ d.reference := fun e mem same => by
        rw [later, List.map_cons, List.nodup_cons] at apart
        exact apart.1 (List.mem_map.2 ⟨e, List.mem_append_left _ mem, same⟩)
      have left : s.terminal.voidList.filter (·.reference != d.reference) = kept := by
        rw [list, List.filter_cons_of_neg (by simp), filter_reference others]
      have sixteen : kept.length = 15 := by
        rw [list, List.length_cons] at few room
        omega
      rw [joinVoid_full new (Nat.not_lt.1 few) oldest left]
      refine (ih (all := all.tail) ?_ ?_ ?_ ?_).trans ?_
      · exact free
      · rw [later]; simp [State.onTerminal, freshVoid]
      · simp [State.onTerminal, sixteen]
      · rw [later, List.tail_cons]
        rw [later, List.map_cons] at apart
        exact (List.nodup_cons.1 apart).2
      · have more : all.length - 16 = (all.tail.length - 16) + 1 := by
          rw [later, List.tail_cons, List.length_cons, List.length_append, List.length_map, List.length_cons, sixteen]
          omega
        rw [more, onTerminal_onTerminal]
        refine onTerminal_congr ?_
        rw [later]
        simp

/-! ## The hand-over (R149) -/

/-- R149: what the holder hands over. -/
def handedOver (s : State) : List (W16 × Nat) :=
  match s.terminal.holder with
  | some h => if h.kind = .followUpVoid ∨ h.exchange = .aborting then [(h.reference, h.amount)] else []
  | none => []

/-- R149: what an order hands over. -/
def orderHandsOver (s : State) (o : OrderId) : Option (W16 × Nat) :=
  (s.order o).reference.map fun ref => (ref, if (s.order o).state = .paying then orderTotal (s.order o) else (s.order o).approved.getD 0)

theorem handOverHolder_eq (s : State) : handOverHolder s = joinAll (handedOver s) (clearHolder s) := by
  unfold handOverHolder handedOver
  cases holds : s.terminal.holder with
  | none => exact (onTerminal_self (s := s) (f := fun t => { t with holder := none }) (by rw [← holds])).symm
  | some h =>
    dsimp only
    split <;> rfl

theorem handOverOrders_eq (l : List OrderId) {s t : State} (orders : t.orders = s.orders) :
    forEach l handOverOrder t = joinAll (l.filterMap (orderHandsOver s)) t := by
  induction l generalizing t with
  | nil => rfl
  | cons o rest ih =>
    have same : t.order o = s.order o := congrArg (fun x => look x o) orders
    change forEach rest handOverOrder (handOverOrder o t) = _
    cases reference : (s.order o).reference with
    | none =>
      rw [handOverOrder, same, reference, List.filterMap_cons_none (by rw [orderHandsOver, reference]; rfl)]
      exact ih orders
    | some ref =>
      rw [handOverOrder, same, reference, List.filterMap_cons_some (by rw [orderHandsOver, reference]; rfl)]
      have kept : (joinVoid ref (if (s.order o).state = .paying then orderTotal (s.order o) else (s.order o).approved.getD 0) 0 t).orders
          = s.orders := by
        obtain ⟨_, _, _, joined⟩ := voidsOnly_joinVoid ref
          (if (s.order o).state = .paying then orderTotal (s.order o) else (s.order o).approved.getD 0) 0 t
        rw [joined]
        exact orders
      exact ih kept

theorem handOver_eq (s : State) : handOver s =
    joinAll (handedOver s ++ (List.finRange 32).filterMap (orderHandsOver s)) (clearHolder s) := by
  have kept : (joinAll (handedOver s) (clearHolder s)).orders = s.orders := by
    obtain ⟨_, _, _, joined⟩ := voidsOnly_joinAll (handedOver s) (clearHolder s)
    rw [joined]
    rfl
  rw [handOver, handOverHolder_eq, handOverOrders_eq _ kept]
  exact (List.foldl_append ..).symm

/-- R149: everything handed over, in order. -/
def handQueue (s : State) : List (W16 × Nat) := handedOver s ++ (List.finRange 32).filterMap (orderHandsOver s)

/-! ## The part reset (R181) -/

/-- R181: a part reset, by the link and the interrupt enable it leaves. -/
def resetTo (up msi : Bool) (s : State) : State := { partResetState s with pcieUp := up, msiEnable := msi }

section ResetTo
variable (up msi : Bool) (s : State)

theorem voids_resetTo : (resetTo up msi s).terminal = keepTerminal (joinAll (handQueue s) (clearHolder s)).terminal :=
  (congrArg (fun t : State => keepTerminal t.terminal) (handOver_eq s.quiet)).trans
    (congrArg keepTerminal (joinAll_terminal (handQueue s) rfl))

theorem blocksAtReset_resetTo : BlocksAtReset (resetTo up msi s) := by
  refine blocksAtReset_of rfl (fun p => ?_) (fun b => ?_) ⟨rfl, rfl, rfl⟩ ⟨rfl, rfl, rfl, rfl, rfl⟩
  · exact ⟨(s.printer p).nextCopyId, look_map ..⟩
  · exact ⟨(s.bay b).generation, look_map ..⟩

theorem kept_resetTo : KeptAtPartReset s (resetTo up msi s) := by
  have terminal := voids_resetTo up msi s
  obtain ⟨list, sum, latched, joined⟩ := voidsOnly_joinAll (handQueue s) (clearHolder s)
  rw [joined] at terminal
  unfold KeptAtPartReset
  rw [terminal]
  refine ⟨rfl, rfl, rfl, rfl, rfl, fun p => ?_, fun b => ?_, fun a => rfl, rfl, rfl, rfl, rfl, rfl, rfl, rfl, rfl, rfl, rfl⟩
  · exact (congrArg Printer.nextCopyId (look_map s.printers p _) :)
  · exact (congrArg Bay.generation (look_map s.bays b _) :)

/-- R143, R149: list, till and latched conditions by the joinings, whatever they are. -/
theorem voids_joinAll : (resetTo up msi s).terminal.voidList = (joinAll (handQueue s) (clearHolder s)).terminal.voidList
    ∧ (resetTo up msi s).terminal.till = (joinAll (handQueue s) (clearHolder s)).terminal.till
    ∧ (resetTo up msi s).terminal.latched = (joinAll (handQueue s) (clearHolder s)).terminal.latched := by
  rw [voids_resetTo]
  exact ⟨rfl, rfl, rfl⟩

/-- R143, R149: with no reference twice. -/
theorem voids_apart {all : List VoidEntry} {excess : Nat} (isAll : all = s.terminal.voidList ++ (handQueue s).map freshVoid)
    (isExcess : excess = all.length - 16) (room : s.terminal.voidList.length ≤ 16) (apart : (all.map (·.reference)).Nodup) :
    (resetTo up msi s).terminal.voidList = all.drop excess
      ∧ (resetTo up msi s).terminal.till = { s.terminal.till with
          abandoned := (all.take excess).foldl (fun u e => u.add e.amount) s.terminal.till.abandoned }
      ∧ (resetTo up msi s).terminal.latched =
          { s.terminal.latched with voidAbandoned := s.terminal.latched.voidAbandoned || decide (0 < excess) } := by
  rw [voids_resetTo, joinAll_apart (handQueue s) (s := clearHolder s) rfl isAll room apart, isExcess]
  exact ⟨rfl, rfl, rfl⟩

/-- R149: with room for all. -/
theorem voids_room (room : s.terminal.voidList.length + (handQueue s).length ≤ 16) :
    (resetTo up msi s).terminal.till = s.terminal.till ∧ (resetTo up msi s).terminal.latched = s.terminal.latched
      ∧ (resetTo up msi s).terminal.voidList = s.terminal.voidList ++ newVoids s.terminal.voidList (handQueue s) := by
  rw [voids_resetTo, joinAll_room (handQueue s) (s := clearHolder s) room]
  exact ⟨rfl, rfl, rfl⟩

end ResetTo

/-! ## What is new, in the order of R149 -/

section Order
variable {s : State}

theorem orderHandsOver_some {o : OrderId} {x : W16 × Nat} : orderHandsOver s o = some x ↔ (s.order o).reference = some x.1
    ∧ x.2 = if (s.order o).state = .paying then orderTotal (s.order o) else (s.order o).approved.getD 0 := by
  unfold orderHandsOver
  rw [Option.map_eq_some_iff]
  constructor
  · rintro ⟨ref, reference, rfl⟩
    exact ⟨reference, rfl⟩
  · rintro ⟨reference, amount⟩
    exact ⟨x.1, reference, by rw [← amount]⟩

theorem orderHandsOver_reference {o : OrderId} {ref : W16} (reference : (s.order o).reference = some ref) :
    ∃ amount, orderHandsOver s o = some (ref, amount) := ⟨_, by rw [orderHandsOver, reference]; rfl⟩

theorem length_ordersHandOver : ((List.finRange 32).filterMap (orderHandsOver s)).length =
    ((List.finRange 32).filter fun o => (s.order o).reference.isSome).length := by
  induction List.finRange 32 with
  | nil => rfl
  | cons o rest ih =>
    cases reference : (s.order o).reference with
    | none =>
      rw [List.filterMap_cons_none (by rw [orderHandsOver, reference]; rfl), List.filter_cons_of_neg (by rw [reference]; decide), ih]
    | some ref =>
      rw [List.filterMap_cons_some (by rw [orderHandsOver, reference]; rfl), List.filter_cons_of_pos (by rw [reference]; rfl),
        List.length_cons, List.length_cons, ih]

theorem newVoids_from {e : VoidEntry} (mem : e ∈ newVoids s.terminal.voidList (handQueue s)) : e.attempts = 0
    ∧ ((∃ x ∈ handedOver s, x = (e.reference, e.amount))
      ∨ ∃ o, (s.order o).reference = some e.reference
          ∧ e.amount = if (s.order o).state = .paying then orderTotal (s.order o) else (s.order o).approved.getD 0) := by
  obtain ⟨queued, attempts, -⟩ := newVoids_mem mem
  refine ⟨attempts, (List.mem_append.1 queued).imp (fun handed => ⟨_, handed, rfl⟩) fun order => ?_⟩
  obtain ⟨o, -, hands⟩ := List.mem_filterMap.1 order
  exact ⟨o, orderHandsOver_some.1 hands⟩

theorem newVoids_handed {x : W16 × Nat} (mem : x ∈ handedOver s) : (∃ e ∈ s.terminal.voidList, e.reference = x.1)
    ∨ (newVoids s.terminal.voidList (handQueue s)).head? = some { reference := x.1, amount := x.2, attempts := 0 } := by
  have only : handedOver s = [x] := by
    unfold handedOver at *
    cases holds : s.terminal.holder with
    | none => simp [holds] at mem
    | some h =>
      simp only [holds] at mem ⊢
      split at mem
      · rw [List.mem_singleton.1 mem, if_pos (by assumption)]
      · exact absurd mem List.not_mem_nil
  rw [handQueue, only, List.singleton_append, newVoids]
  split
  next old =>
    obtain ⟨k, kept, same⟩ := List.any_eq_true.1 old
    exact .inl ⟨k, kept, beq_iff_eq.1 same⟩
  · exact .inr rfl

theorem newVoids_ofOrder {o : OrderId} {ref : W16} (reference : (s.order o).reference = some ref) :
    ∃ e ∈ s.terminal.voidList ++ newVoids s.terminal.voidList (handQueue s), e.reference = ref := by
  obtain ⟨amount, hands⟩ := orderHandsOver_reference reference
  exact newVoids_listed _ _ (List.mem_append_right _ (List.mem_filterMap.2 ⟨o, List.mem_finRange o, hands⟩))

/-- R149: of two references, the one of the lower order is before the other, unless that came from another part. -/
theorem newVoids_order {o p : OrderId} {i j : Nat} {a b : VoidEntry} (before : o < p) (ofA : (s.order o).reference = some a.reference)
    (atA : (newVoids s.terminal.voidList (handQueue s))[i]? = some a)
    (atB : (newVoids s.terminal.voidList (handQueue s))[j]? = some b) (notHanded : ∀ x ∈ handedOver s, x.1 ≠ b.reference)
    (only : ∀ q, (s.order q).reference = some b.reference → q = p) : i < j := by
  obtain ⟨lower, upper, split, less, notLess⟩ : ∃ lower upper : List OrderId, List.finRange 32 = lower ++ upper
      ∧ o ∈ lower ∧ p ∉ lower := by
    refine ⟨(List.finRange 32).take (o.val + 1), (List.finRange 32).drop (o.val + 1), (List.take_append_drop _ _).symm, ?_, fun mem => ?_⟩
    · exact List.mem_take_iff_getElem.2 ⟨o.val, by rw [List.length_finRange]; have := o.isLt; omega, by simp⟩
    · obtain ⟨k, lt, same⟩ := List.mem_take_iff_getElem.1 mem
      have value : k = p.val := by simpa using congrArg Fin.val same
      have : o.val < p.val := before
      omega
  have queue : handQueue s = (handedOver s ++ lower.filterMap (orderHandsOver s)) ++ upper.filterMap (orderHandsOver s) := by
    rw [handQueue, split, List.filterMap_append, List.append_assoc]
  have nodup := newVoids_nodup s.terminal.voidList (handQueue s)
  obtain ⟨amount, hands⟩ := orderHandsOver_reference ofA
  have early := newVoids_listed s.terminal.voidList (handedOver s ++ lower.filterMap (orderHandsOver s))
    (List.mem_append_right _ (List.mem_filterMap.2 ⟨o, less, hands⟩))
  obtain ⟨-, -, apart⟩ := newVoids_mem (List.mem_of_getElem? atA)
  rw [queue, newVoids_append] at nodup atA atB
  have first : ∀ e ∈ newVoids s.terminal.voidList (handedOver s ++ lower.filterMap (orderHandsOver s)), e.reference ≠ b.reference :=
    fun e mem same => by
      obtain ⟨queued, -, -⟩ := newVoids_mem mem
      obtain handed | order := List.mem_append.1 queued
      · exact notHanded _ handed same
      · obtain ⟨q, inLower, hands⟩ := List.mem_filterMap.1 order
        have isP := only q ((orderHandsOver_some.1 hands).1.trans (congrArg some same))
        exact notLess (isP ▸ inLower)
  generalize newVoids s.terminal.voidList (handedOver s ++ lower.filterMap (orderHandsOver s)) = m at *
  generalize newVoids (s.terminal.voidList ++ m) (upper.filterMap (orderHandsOver s)) = n at *
  obtain ⟨e, mem, same⟩ := early
  obtain old | mem := List.mem_append.1 mem
  · exact absurd same (apart e old)
  have late : m.length ≤ j := by
    refine Classical.byContradiction fun less => ?_
    rw [List.getElem?_append_left (by omega)] at atB
    exact first b (List.mem_of_getElem? atB) rfl
  obtain ⟨k, lt, isE⟩ := List.getElem_of_mem mem
  have sameAt : ((m ++ n).map (·.reference))[i]? = ((m ++ n).map (·.reference))[k]? := by
    rw [List.getElem?_map, List.getElem?_map, atA, List.getElem?_append_left lt, List.getElem?_eq_getElem lt, isE, Option.map_some,
      Option.map_some, same]
  have inI : i < ((m ++ n).map (·.reference)).length := by
    rw [List.length_map]
    exact (List.getElem?_eq_some_iff.1 atA).1
  have := (List.getElem?_inj inI nodup).1 sameAt
  omega

end Order

/-- R181: what each cause of a part reset leaves. -/
theorem exec_resets {c : Instr} {s : State} (up : s.pcieUp = true) (on : s.part ≠ .held)
    (cause : (c = .partReset ∧ s.part = .run) ∨ c = .linkDown ∨ c = .hotReset) : ∃ up' msi, exec c s = .next (resetTo up' msi s)
      ∧ (c = .linkDown → up' = false) ∧ (c ≠ .linkDown → up' = true) ∧ (c = .partReset → msi = s.msiEnable) ∧ (c ≠ .partReset → msi = false) := by
  obtain ⟨rfl, run⟩ | rfl | rfl := cause
  · exact ⟨s.pcieUp, s.msiEnable, congrArg Host.Outcome.next (if_pos ⟨run, up⟩), nofun, fun _ => up, fun _ => rfl, fun ne => absurd rfl ne⟩
  · exact ⟨false, false, congrArg Host.Outcome.next (if_pos ⟨up, on⟩), fun _ => rfl, fun ne => absurd rfl ne, nofun, fun _ => rfl⟩
  · exact ⟨true, false, congrArg Host.Outcome.next (if_pos ⟨up, on⟩), nofun, fun _ => rfl, nofun, fun _ => rfl⟩

/-- Settles O9. -/
theorem partResetKeepsAndHandsOver : Obligations.PartResetKeepsAndHandsOver := by
  unfold Obligations.PartResetKeepsAndHandsOver
  intro c s up on cause
  obtain ⟨up', msi, next, down, stays, kept, cleared⟩ := exec_resets up on cause
  refine ⟨resetTo up' msi s, next, rfl, blocksAtReset_resetTo up' msi s, kept_resetTo up' msi s, rfl, down, stays, kept, cleared, ?_⟩
  intro handed queue isHanded isQueue
  rw [show queue = handQueue s by rw [isQueue, isHanded]; rfl]
  refine ⟨fun v isV => ?_, fun all excess isAll isExcess room apart => voids_apart up' msi s isAll isExcess room apart, fun room => ?_⟩
  · rw [isV]
    exact voids_joinAll up' msi s
  · have hands : handed = handedOver s := isHanded
    subst hands
    obtain ⟨till, latched, list⟩ := voids_room up' msi s (by
      rw [handQueue, List.length_append, length_ordersHandOver]
      omega)
    exact ⟨till, latched, newVoids s.terminal.voidList (handQueue s), list, fun e mem => newVoids_from mem, fun x mem => newVoids_handed mem,
      fun o ref reference => newVoids_ofOrder reference, fun o p i j a b before ofA _ atA atB notHanded only =>
        newVoids_order before ofA atA atB notHanded only⟩

end Sys2Proof.Machine
end

section
/-! SUPPORT. The price view with more tiers than an image holds (R45, R50). -/

namespace Sys2Proof.Machine

/-- R45: a table whose first size has 65 tiers, as no image gives it: the view's fields of the tiers run past the view's own end. -/
def longTable : PriceTable :=
  { PriceTable.empty with
    sizes := #v[{ offered := true, base := 1, tiers := List.replicate 65 { threshold := 1, price := 1 } },
      { offered := false, base := 0, tiers := [] }, { offered := false, base := 0, tiers := [] }, { offered := false, base := 0, tiers := [] }] }

/-- A running part with that table in force. -/
def longTiers : State := { State.reset with part := .run, price := { PriceUnit.reset with table := longTable } }

/-- The price of the 65th tier stands past the tag, the time and the presence byte of the view. -/
theorem windowByte_longTiers : windowByte longTiers 0x610A = 1 := by decide +kernel

/-- Refutes O17: the statement takes every state, and of the price view it says that the bytes from 0x6109 on read zero; with a table of 65
tiers in force, which no image can give, the view's tier fields reach 0x610A. -/
theorem not_theWindowShowsTheRecords : ¬ Obligations.TheWindowShowsTheRecords := by
  intro holds
  obtain ⟨-, inRun⟩ := holds
  obtain ⟨-, -, -, -, -, -, -, -, -, past, -⟩ := inRun longTiers rfl
  have zero := past 0x610A (by decide) (by decide)
  rw [windowByte_longTiers] at zero
  exact absurd zero (by decide)

end Sys2Proof.Machine
end

section
/-! SUPPORT. Where an area is placed (R151) and what the grants of the master port do (R155, R156). -/

namespace Sys2Proof.Machine

/-! ## The aperture of an area (R151) -/

section Placing
variable {n : Nat} {p : Fin n → Bool}

theorem find?_finRange_some {i : Fin n} : (List.finRange n).find? p = some i ↔ p i = true ∧ ∀ j, j < i → ¬p j = true := by
  constructor
  · intro found
    obtain ⟨holds, k, lt, isI, before⟩ := List.find?_eq_some_iff_getElem.1 found
    have value : k = i.val := by simpa using congrArg Fin.val isI
    exact ⟨holds, fun j below => by simpa using before j.val (by have : j.val < i.val := below; omega)⟩
  · rintro ⟨found, below⟩
    exact find?_finRange found fun j lt => by simpa using below j lt

theorem find?_finRange_none : (List.finRange n).find? p = none ↔ ∀ j, ¬p j = true := by
  simp [List.find?_eq_none]

end Placing

/-- R150, R151: an aperture that takes an area. -/
theorem accepts_iff (e : Aperture) (d : Direction) (address length : Nat) : accepts e d address length = true ↔ e.state = .active
    ∧ (e.access = .readWrite ∨ (e.access = .read ∧ d = .read) ∨ (e.access = .write ∧ d = .write))
    ∧ e.base ≤ address ∧ address + length ≤ e.base + e.limit := by
  have access : allows e.access d = true ↔ e.access = .readWrite ∨ (e.access = .read ∧ d = .read) ∨ (e.access = .write ∧ d = .write) := by
    cases e.access <;> cases d <;> decide
  unfold accepts
  rw [Bool.and_eq_true, Bool.and_eq_true, Bool.and_eq_true, access, beq_iff_eq, decide_eq_true_eq, decide_eq_true_eq, and_assoc, and_assoc]

/-! ## The ring order (R156) -/

theorem firstWaiting_eq {q : Port} {ring : List (Fin 7)} {i : Fin 7} (mem : i ∈ ring) (waits : look q.lines i ≠ [])
    (before : ∀ j ∈ ring.takeWhile (· != i), look q.lines j = []) : firstWaiting q ring = some i := by
  unfold firstWaiting
  induction ring with
  | nil => exact absurd mem List.not_mem_nil
  | cons j rest ih =>
    by_cases same : j = i
    · subst same
      exact List.find?_cons_of_pos (by simpa using waits)
    · have pass : (j :: rest).takeWhile (· != i) = j :: rest.takeWhile (· != i) := List.takeWhile_cons_of_pos (by simpa using same)
      rw [pass] at before
      rw [List.find?_cons_of_neg (by simp [before j List.mem_cons_self])]
      exact ih ((List.mem_cons.1 mem).resolve_left (Ne.symm same)) fun k inside => before k (List.mem_cons_of_mem j inside)

theorem firstWaiting_none {q : Port} {ring : List (Fin 7)} : firstWaiting q ring = none ↔ ∀ j ∈ ring, look q.lines j = [] := by
  simp [firstWaiting, List.find?_eq_none]

/-- R156: the two printers in ring order. -/
theorem highRing_before : ∀ last ∈ ([none, some 0, some 1] : List (Option (Fin 7))), ∀ i : Fin 7, i.val < 2 → i ∈ ringFrom highRing last
    ∧ ∀ j ∈ (ringFrom highRing last).takeWhile (· != i), j = (if i = 0 then 1 else 0) ∧ (last = some i ∨ (i = 1 ∧ last ≠ some 0)) := by
  decide

/-- R156: the other requesters in ring order, from the first. -/
theorem normalRing_before : ∀ i : Fin 7, 2 ≤ i.val → i ∈ ringFrom normalRing none
    ∧ ∀ j ∈ (ringFrom normalRing none).takeWhile (· != i), 2 ≤ j.val ∧ j < i := by decide

/-- R156: and from the one last granted. -/
theorem normalRing_after : ∀ l i : Fin 7, 2 ≤ l.val → 2 ≤ i.val → i ∈ ringFrom normalRing (some l)
    ∧ ∀ j ∈ (ringFrom normalRing (some l)).takeWhile (· != i), 2 ≤ j.val ∧ (j.val + 4 - l.val) % 5 < (i.val + 4 - l.val) % 5 := by decide

theorem highRing_covers : ∀ last : Option (Fin 7), (∀ l, last = some l → l.val < 2) → ∀ j : Fin 7, j.val < 2 ↔ j ∈ ringFrom highRing last
  | none => by decide
  | some l => fun high => by
    have all : ∀ l : Fin 7, l.val < 2 → ∀ j : Fin 7, j.val < 2 ↔ j ∈ ringFrom highRing (some l) := by decide
    exact all l (high l rfl)

theorem normalRing_covers : ∀ last : Option (Fin 7), (∀ l, last = some l → 2 ≤ l.val) → ∀ j : Fin 7, 2 ≤ j.val ↔ j ∈ ringFrom normalRing last
  | none => by decide
  | some l => fun normal => by
    have all : ∀ l : Fin 7, 2 ≤ l.val → ∀ j : Fin 7, 2 ≤ j.val ↔ j ∈ ringFrom normalRing (some l) := by decide
    exact all l (normal l rfl)

/-- R156: the requester the next grant goes to, as the manual names it. -/
def NextInRing (q : Port) (i : Fin 7) : Prop :=
  (i.val < 2 ∧ (q.lastHigh ≠ some i ∨ look q.lines (if i = 0 then 1 else 0) = []) ∧ (i = 1 → q.lastHigh = some 0 ∨ look q.lines 0 = []))
    ∨ (2 ≤ i.val ∧ look q.lines 0 = [] ∧ look q.lines 1 = []
      ∧ (q.lastNormal = none → ∀ j : Fin 7, 2 ≤ j.val → j < i → look q.lines j = [])
      ∧ ∀ l, q.lastNormal = some l → 2 ≤ l.val ∧ ∀ j : Fin 7, 2 ≤ j.val → (j.val + 4 - l.val) % 5 < (i.val + 4 - l.val) % 5 →
          look q.lines j = [])

theorem nextRequester_eq {q : Port} {i : Fin 7} (waits : look q.lines i ≠ []) (next : NextInRing q i)
    (high : q.lastHigh = none ∨ q.lastHigh = some 0 ∨ q.lastHigh = some 1) : nextRequester q = some i := by
  have last : q.lastHigh ∈ ([none, some 0, some 1] : List (Option (Fin 7))) := by simpa using high
  unfold nextRequester
  have small : ∀ l, q.lastHigh = some l → l.val < 2 := fun l isL => by
    rw [isL] at high
    obtain h | h | h := high
    · exact absurd h (by simp)
    · exact Option.some.inj h ▸ (by decide)
    · exact Option.some.inj h ▸ (by decide)
  obtain ⟨isHigh, other, second⟩ | ⟨isNormal, line0, line1, first, after⟩ := next
  · obtain ⟨mem, before⟩ := highRing_before _ last i isHigh
    rw [firstWaiting_eq mem waits fun j inside => ?_]
    obtain ⟨rfl, was | ⟨isOne, notZero⟩⟩ := before j inside
    · exact other.resolve_left fun ne => ne was
    · rw [if_neg (by rw [isOne]; decide)]
      exact (second isOne).resolve_left notZero
  · have idle : firstWaiting q (ringFrom highRing q.lastHigh) = none := firstWaiting_none.2 fun j mem => by
      have low := (highRing_covers q.lastHigh small j).2 mem
      obtain rfl | rfl : j = 0 ∨ j = 1 := by omega
      · exact line0
      · exact line1
    rw [idle]
    dsimp only
    cases lastNormal : q.lastNormal with
    | none =>
      obtain ⟨mem, before⟩ := normalRing_before i isNormal
      exact firstWaiting_eq mem waits fun j inside => first lastNormal j (before j inside).1 (before j inside).2
    | some l =>
      obtain ⟨inRing, empty⟩ := after l lastNormal
      obtain ⟨mem, before⟩ := normalRing_after l i inRing isNormal
      exact firstWaiting_eq mem waits fun j inside => empty j (before j inside).1 (before j inside).2

/-! ## One grant -/

/-- R156: the port as a requester's first request is granted. -/
def Port.grants (i : Fin 7) (x : Transfer) (rest : List Transfer) (q : Port) : Port :=
  { q with lines := upd q.lines i fun _ => rest, granted := q.granted ++ [{ transfer := x, timer := .running 50, outcome := none }],
           lastHigh := if i.val < 2 then some i else q.lastHigh, lastNormal := if i.val < 2 then q.lastNormal else some i }

/-- R155: what goes out on the link at a grant. -/
def sentFor (x : Transfer) : List Out :=
  if x.direction = .read then [.hostRead x.address x.length] else [.hostWrite x.address x.data, .hostReadBack (x.address + x.length - 4)]

theorem sendTransfer_eq (x : Transfer) (s : State) : sendTransfer x s = { s with out := s.out ++ sentFor x } := by
  unfold sendTransfer sentFor
  cases x.direction with
  | read => rfl
  | write => exact congrArg (fun o => { s with out := o }) (List.append_assoc ..)

theorem grantTo_eq {i : Fin 7} {x : Transfer} {rest : List Transfer} {s : State} (line : look s.port.lines i = x :: rest) :
    grantTo i s = { grantNote x { s with port := s.port.grants i x rest } with out := s.out ++ sentFor x } := by
  have out : (grantNote x { s with port := s.port.grants i x rest }).out = s.out := by
    unfold grantNote
    split <;> rfl
  unfold grantTo
  rw [line]
  refine (sendTransfer_eq x _).trans ?_
  exact congrArg (fun o => { grantNote x { s with port := s.port.grants i x rest } with out := o ++ sentFor x }) out

theorem grantOne_grants {i : Fin 7} {s : State} (room : busyTransfers s < 4) (next : nextRequester s.port = some i) :
    grantOne s = grantTo i s := by
  unfold grantOne
  refine (if_pos room).trans ?_
  rw [next]

/-- R46, R110: what a grant changes of the requester's block, by its requester. -/
theorem grantNote_half {x : Transfer} {b : BayId} {h : Fin 2} {blocks : Nat} (requester : x.requester = .bay b)
    (purpose : x.purpose = .half h blocks) (s : State) :
    grantNote x s = s.onBay b fun y => y.setHalf h { y.half h with state := .writing } := by
  unfold grantNote
  rw [requester, purpose]

theorem grantNote_load {x : Transfer} (requester : x.requester = .load) (s : State) :
    grantNote x s = s.onPrice fun u => { u with load := u.load.map fun l => { l with fetching := true } } := by
  unfold grantNote
  rw [requester]

theorem grantNote_printer {x : Transfer} {p : PrinterId} (requester : x.requester = .printer p) (s : State) : grantNote x s = s := by
  unfold grantNote
  rw [requester]

theorem grantNote_rest (x : Transfer) (s : State) : { grantNote x s with bays := s.bays, price := s.price } = s := by
  unfold grantNote
  split <;> rfl

/-- R110: a half is WRITING. -/
def writesHalf (s : State) (b : BayId) (h : Fin 2) : Prop := ((s.bay b).half h).state = .writing

/-- R46: the image transfer of the load has been granted. -/
def PriceUnit.fetches (u : PriceUnit) : PriceUnit := { u with load := u.load.map fun l => { l with fetching := true } }

theorem fetches_fetches (u : PriceUnit) : u.fetches.fetches = u.fetches := by
  cases u with
  | mk table load last emptyLatched loadFailedLatched => cases load <;> rfl

/-- What further grants leave of a half that is WRITING and of a load that is FETCHING. -/
structure GrantsOn (s t : State) : Prop where
  writes : ∀ b h, writesHalf s b h → writesHalf t b h
  price : t.price = s.price ∨ t.price = s.price.fetches

theorem GrantsOn.refl (s : State) : GrantsOn s s := ⟨fun _ _ w => w, .inl rfl⟩

theorem GrantsOn.trans {s t u : State} (h : GrantsOn s t) (k : GrantsOn t u) : GrantsOn s u := by
  refine ⟨fun b x w => k.writes b x (h.writes b x w), ?_⟩
  obtain first | first := h.price <;> obtain second | second := k.price
  · exact .inl (second.trans first)
  · exact .inr (second.trans (by rw [first]))
  · exact .inr (second.trans first)
  · exact .inr (second.trans (by rw [first, fetches_fetches]))

theorem half_setHalf_writing (y : Bay) (h k : Fin 2) (writes : (y.half k).state = .writing) :
    ((y.setHalf h { y.half h with state := .writing }).half k).state = .writing := by
  unfold Bay.setHalf Bay.half at *
  split <;> split <;> simp_all

theorem grantsOn_grantNote (x : Transfer) (s : State) : GrantsOn s (grantNote x s) := by
  unfold grantNote
  split
  next b h _ _ _ =>
    refine ⟨fun c k writes => ?_, .inl rfl⟩
    unfold writesHalf at *
    by_cases own : c = b
    · subst own
      rw [bay_onBay_same]
      exact half_setHalf_writing (s.bay c) h k writes
    · rw [bay_onBay_ne s (Ne.symm own)]
      exact writes
  · exact ⟨fun _ _ writes => writes, .inr rfl⟩
  · exact .refl s

theorem grantsOn_grantOne (s : State) : GrantsOn s (grantOne s) := by
  unfold grantOne
  split
  · split
    next i _ =>
      cases line : look s.port.lines i with
      | nil =>
        unfold grantTo
        rw [line]
        exact .refl s
      | cons x rest =>
        rw [grantTo_eq line]
        obtain ⟨writes, price⟩ := grantsOn_grantNote x { s with port := s.port.grants i x rest }
        exact ⟨writes, price⟩
    · exact .refl s
  · exact .refl s

/-! ## The grants go on until the port is full or nothing waits -/

/-- R156: no further grant. -/
def PortDone (s : State) : Prop := 4 ≤ busyTransfers s ∨ ∀ i, look s.port.lines i = []

/-- R156: the last grants are of their own rings. -/
def RingsRight (s : State) : Prop := (∀ l, s.port.lastHigh = some l → l.val < 2) ∧ ∀ l, s.port.lastNormal = some l → 2 ≤ l.val

theorem grantOne_done {s : State} (done : PortDone s) : grantOne s = s := by
  unfold grantOne
  split
  next room =>
    obtain full | empty := done
    · exact absurd room (Nat.not_lt.2 full)
    · have none : nextRequester s.port = Option.none := by
        rw [nextRequester, firstWaiting_none.2 fun j _ => empty j]
        exact firstWaiting_none.2 fun j _ => empty j
      rw [none]
  · rfl

theorem grantLoop_done {s : State} (done : PortDone s) : grantLoop s = s := by
  simp only [grantLoop, grantOne_done done]

theorem waits_of_nextRequester {q : Port} {i : Fin 7} (next : nextRequester q = some i) : look q.lines i ≠ [] := by
  have found : ∀ ring, firstWaiting q ring = some i → look q.lines i ≠ [] := fun ring first => by
    simpa using List.find?_some first
  unfold nextRequester at next
  split at next
  next first => exact found _ (first.trans next)
  · exact found _ next

theorem nextRequester_some {s : State} (rings : RingsRight s) (waits : ¬∀ i, look s.port.lines i = []) :
    ∃ i, nextRequester s.port = some i := by
  refine Classical.byContradiction fun nobody => ?_
  refine waits fun j => ?_
  unfold nextRequester at nobody
  split at nobody
  next i _ => exact absurd ⟨i, rfl⟩ nobody
  next idle =>
    have normal := Option.eq_none_iff_forall_ne_some.2 fun i isI => nobody ⟨i, isI⟩
    by_cases low : j.val < 2
    · exact firstWaiting_none.1 idle j ((highRing_covers _ rings.1 j).1 low)
    · exact firstWaiting_none.1 normal j ((normalRing_covers _ rings.2 j).1 (Nat.not_lt.1 low))

theorem port_grantTo {i : Fin 7} {x : Transfer} {rest : List Transfer} {s : State} (line : look s.port.lines i = x :: rest) :
    (grantTo i s).port = s.port.grants i x rest := by
  rw [grantTo_eq line]
  exact (congrArg State.port (grantNote_rest x { s with port := s.port.grants i x rest }) :)

theorem grantOne_step {s : State} (rings : RingsRight s) (goesOn : ¬PortDone s) :
    RingsRight (grantOne s) ∧ busyTransfers (grantOne s) = busyTransfers s + 1 := by
  obtain ⟨room, waits⟩ := not_or.1 goesOn
  obtain ⟨i, next⟩ := nextRequester_some rings waits
  obtain ⟨x, rest, line⟩ := List.exists_cons_of_ne_nil (waits_of_nextRequester next)
  have port : (grantOne s).port = s.port.grants i x rest := by
    rw [grantOne_grants (Nat.not_le.1 room) next]
    exact port_grantTo line
  refine ⟨?_, ?_⟩
  · unfold RingsRight
    rw [port]
    unfold Port.grants
    obtain ⟨high, normal⟩ := rings
    refine ⟨fun l isL => ?_, fun l isL => ?_⟩
    · dsimp only at isL
      split at isL
      next low => exact Option.some.inj isL ▸ low
      · exact high l isL
    · dsimp only at isL
      split at isL
      · exact normal l isL
      next up => exact Option.some.inj isL ▸ Nat.not_lt.1 up
  · unfold busyTransfers
    rw [port]
    simp only [Port.grants, List.filter_append, List.length_append]
    rfl

/-- Either a grant is made or none is left to make. -/
theorem grantOne_goes {s : State} {k : Nat} (rings : RingsRight s) (h : k ≤ busyTransfers s ∨ PortDone s) :
    RingsRight (grantOne s) ∧ (k + 1 ≤ busyTransfers (grantOne s) ∨ PortDone (grantOne s)) := by
  by_cases done : PortDone s
  · rw [grantOne_done done]
    exact ⟨rings, .inr done⟩
  · obtain ⟨rings', more⟩ := grantOne_step rings done
    refine ⟨rings', .inl ?_⟩
    have := h.resolve_right done
    omega

theorem grantLoop_full {s : State} (rings : RingsRight s) : PortDone (grantLoop s) := by
  obtain ⟨rings, one⟩ := grantOne_goes rings (.inl (Nat.zero_le _))
  obtain ⟨rings, two⟩ := grantOne_goes rings one
  obtain ⟨rings, three⟩ := grantOne_goes rings two
  obtain ⟨-, four⟩ := grantOne_goes rings three
  exact four.elim .inl id

/-- R46, R110, R155, R156: what a grant leaves, by the transfer granted. -/
theorem grantTo_leaves {i : Fin 7} {x : Transfer} {rest : List Transfer} {s u : State} (line : look s.port.lines i = x :: rest)
    (isU : u = grantTo i s) : u.port = s.port.grants i x rest ∧ u.out = s.out ++ sentFor x
      ∧ { u with port := s.port, bays := s.bays, price := s.price, out := s.out } = s
      ∧ (∀ b h blocks, x.requester = .bay b → x.purpose = .half h blocks →
          u.bay b = (s.bay b).setHalf h { (s.bay b).half h with state := .writing } ∧ (∀ c, c ≠ b → u.bay c = s.bay c) ∧ u.price = s.price)
      ∧ (x.requester = .load → u.price = s.price.fetches ∧ u.bays = s.bays)
      ∧ ∀ p, x.requester = .printer p → u.bays = s.bays ∧ u.price = s.price := by
  rw [grantTo_eq line] at isU
  subst isU
  have rest' := grantNote_rest x { s with port := s.port.grants i x rest }
  refine ⟨(congrArg State.port rest' :), rfl, ?_, fun b h blocks requester purpose => ?_, fun requester => ?_, fun p requester => ?_⟩
  · exact (congrArg (fun v : State => { v with port := s.port, out := s.out }) rest' :)
  · rw [grantNote_half requester purpose]
    exact ⟨bay_onBay_same _ _ _, fun c ne => bay_onBay_ne _ ne.symm _, rfl⟩
  · rw [grantNote_load requester]
    exact ⟨rfl, rfl⟩
  · rw [grantNote_printer requester]
    exact ⟨rfl, rfl⟩

theorem grantLoop_next {i : Fin 7} {x : Transfer} {rest : List Transfer} {s : State} (room : busyTransfers s < 4)
    (line : look s.port.lines i = x :: rest) (next : NextInRing s.port i)
    (high : s.port.lastHigh = none ∨ s.port.lastHigh = some 0 ∨ s.port.lastHigh = some 1) :
    grantLoop s = grantOne (grantOne (grantOne (grantTo i s))) ∧ GrantsOn (grantTo i s) (grantLoop s) := by
  have first := grantOne_grants room (nextRequester_eq (by rw [line]; simp) next high)
  have loop : grantLoop s = grantOne (grantOne (grantOne (grantTo i s))) := by rw [grantLoop, first]
  rw [loop]
  exact ⟨rfl, (grantsOn_grantOne _).trans ((grantsOn_grantOne _).trans (grantsOn_grantOne _))⟩

theorem setHalf_eq (y : Bay) (h : Fin 2) : y.setHalf h { y.half h with state := .writing } =
    { y with half0 := if h = 0 then { y.half0 with state := .writing } else y.half0,
             half1 := if h = 0 then y.half1 else { y.half1 with state := .writing } } := by
  unfold Bay.setHalf Bay.half
  split <;> rfl

theorem half_setHalf_self (y : Bay) (h : Fin 2) : ((y.setHalf h { y.half h with state := .writing }).half h).state = .writing := by
  unfold Bay.setHalf Bay.half
  split <;> rfl

end Sys2Proof.Machine
end

section
/-! SUPPORT. The live areas (R152): a step of the blocks makes no area live, and the fault of an aperture leaves none in it (R158). -/

namespace Sys2Proof.Machine

/-! ## Areas go on or die -/

/-- A read of a bay, active or waiting. -/
def HasRead (y : Bay) (r : Read) : Prop := y.active = some r ∨ r ∈ y.waiting

/-- The live rasters of an order after a change are rasters that were live before, in the same apertures. -/
def RastersWithin (x y : Order) : Prop :=
  ∀ i ∈ y.items, rasterLive y i = true → ∃ j ∈ x.items, rasterLive x j = true ∧ j.aperture = i.aperture

/-- The reads of a bay after a change have no areas that were not live before. -/
def ReadsWithin (x y : Bay) : Prop := ∀ r, HasRead y r → ∃ q, HasRead x q ∧ ∀ a, readAreas a r ≤ readAreas a q

/-- The price image after a change was live before, if it is. -/
def LoadWithin (x y : PriceUnit) : Prop :=
  ∀ l, y.load = some l → ∃ k, x.load = some k ∧ l.aperture = k.aperture ∧ (k.areaDead = true → l.areaDead = true)

/-- R152: from `s` to `t` no area has become live. -/
structure AreasWithin (s t : State) : Prop where
  rasters : ∀ o, RastersWithin (s.order o) (t.order o)
  reads : ∀ b, ReadsWithin (s.bay b) (t.bay b)
  load : LoadWithin s.price t.price

theorem RastersWithin.refl (x : Order) : RastersWithin x x := fun i mem live => ⟨i, mem, live, rfl⟩

theorem ReadsWithin.refl (y : Bay) : ReadsWithin y y := fun r has => ⟨r, has, fun _ => Nat.le_refl _⟩

theorem LoadWithin.refl (u : PriceUnit) : LoadWithin u u := fun l load => ⟨l, load, rfl, id⟩

/-- The items stay, and the order does not come back from FREE, CLOSED or CANCELLED. -/
theorem RastersWithin.keeps {x y : Order} (items : y.items = x.items) (final : nonFinal y = true → nonFinal x = true) : RastersWithin x y :=
  fun i mem live => by
    rw [rasterLive, Bool.and_eq_true] at live
    obtain ⟨on, state⟩ := live
    exact ⟨i, items ▸ mem, by rw [rasterLive, final on, state]; rfl, rfl⟩

/-- The active and the waiting reads stay as they were. -/
theorem ReadsWithin.same {x y : Bay} (active : y.active = x.active) (waiting : y.waiting = x.waiting) : ReadsWithin x y := fun r has =>
  ⟨r, by rw [HasRead, ← active, ← waiting]; exact has, fun _ => Nat.le_refl _⟩

/-- The active read goes on with areas it had, and the waiting ones are as before or fewer. -/
theorem ReadsWithin.goesOn {x y : Bay} {r q : Read} (was : x.active = some q) (active : y.active = some r)
    (areas : ∀ a, readAreas a r ≤ readAreas a q) (waiting : ∀ w ∈ y.waiting, w ∈ x.waiting) : ReadsWithin x y := by
  rintro w (isActive | waits)
  · rw [active] at isActive
    obtain rfl := Option.some.inj isActive
    exact ⟨q, .inl was, areas⟩
  · exact ⟨w, .inr (waiting w waits), fun _ => Nat.le_refl _⟩

/-- Nothing is active, and the waiting reads are as before or fewer. -/
theorem ReadsWithin.ends {x y : Bay} (active : y.active = none) (waiting : ∀ w ∈ y.waiting, w ∈ x.waiting) : ReadsWithin x y := by
  rintro w (isActive | waits)
  · rw [active] at isActive
    exact absurd isActive (by simp)
  · exact ⟨w, .inr (waiting w waits), fun _ => Nat.le_refl _⟩

namespace AreasWithin
variable {s t u : State}

theorem refl (s : State) : AreasWithin s s := ⟨fun _ => .refl _, fun _ => .refl _, .refl _⟩

theorem of_tables (orders : t.orders = s.orders) (bays : t.bays = s.bays) (price : t.price = s.price) : AreasWithin s t :=
  ⟨fun o => by rw [show t.order o = s.order o from congrArg (fun x => look x o) orders]; exact .refl _,
    fun b => by rw [show t.bay b = s.bay b from congrArg (fun x => look x b) bays]; exact .refl _, by rw [price]; exact .refl _⟩

theorem trans (h : AreasWithin s t) (k : AreasWithin t u) : AreasWithin s u := by
  refine ⟨fun o i mem live => ?_, fun b r has => ?_, fun l load => ?_⟩
  · obtain ⟨j, mem', live', same⟩ := k.rasters o i mem live
    obtain ⟨x, mem'', live'', same'⟩ := h.rasters o j mem' live'
    exact ⟨x, mem'', live'', same'.trans same⟩
  · obtain ⟨q, has', areas⟩ := k.reads b r has
    obtain ⟨x, has'', areas'⟩ := h.reads b q has'
    exact ⟨x, has'', fun a => Nat.le_trans (areas a) (areas' a)⟩
  · obtain ⟨m, load', same, dead⟩ := k.load l load
    obtain ⟨x, load'', same', dead'⟩ := h.load m load'
    exact ⟨x, load'', same.trans same', fun d => dead (dead' d)⟩

theorem forEach {α : Type} (f : α → State → State) (h : ∀ a s, AreasWithin s (f a s)) (l : List α) : ∀ s, AreasWithin s (forEach l f s) := by
  induction l with
  | nil => exact refl
  | cons a rest ih => exact fun s => (h a s).trans (ih _)

/-! ### The updates -/

theorem onOrder (s : State) (o : OrderId) (f : Order → Order) (within : RastersWithin (s.order o) (f (s.order o))) :
    AreasWithin s (s.onOrder o f) := by
  refine ⟨fun x => ?_, fun b => .refl _, .refl _⟩
  by_cases same : o = x
  · subst same
    rw [order_onOrder_same]
    exact within
  · rw [order_onOrder_ne s same]
    exact .refl _

theorem onBay (s : State) (b : BayId) (f : Bay → Bay) (within : ReadsWithin (s.bay b) (f (s.bay b))) : AreasWithin s (s.onBay b f) := by
  refine ⟨fun x => .refl _, fun c => ?_, .refl _⟩
  by_cases same : b = c
  · subst same
    rw [bay_onBay_same]
    exact within
  · rw [bay_onBay_ne s same]
    exact .refl _

theorem onPrice (s : State) (f : PriceUnit → PriceUnit) (within : LoadWithin s.price (f s.price)) : AreasWithin s (s.onPrice f) :=
  ⟨fun _ => .refl _, fun _ => .refl _, within⟩

theorem complete (n : SlotId) (st : Status) (why : Reason) (body : Body) (s : State) : AreasWithin s (complete n st why body s) := by
  have rest := complete_rest n st why body s
  exact of_tables (congrArg State.orders rest :) (congrArg State.bays rest :) (congrArg State.price rest :)

theorem writeBody (n : SlotId) (body : Body) (s : State) : AreasWithin s (writeBody n body s) := by
  unfold Machine.writeBody
  split <;> exact of_tables rfl rfl rfl

theorem advanceProgress (n : SlotId) (s : State) : AreasWithin s (advanceProgress n s) := by
  unfold Machine.advanceProgress
  split <;> exact of_tables rfl rfl rfl

theorem of_beyond (same : t.beyond = s.beyond) : AreasWithin s t :=
  of_tables (congrArg State.orders same :) (congrArg State.bays same :) (congrArg State.price same :)

/-! ### The order unit -/

theorem settlementTrigger (o : OrderId) (s : State) (on : nonFinal (s.order o) = true) : AreasWithin s (settlementTrigger o s) := by
  have besides := besides_settlementTrigger o s
  obtain ⟨orders, -⟩ := settlementTrigger_tables o s
  refine ⟨fun x => ?_, fun b => ?_, ?_⟩
  · rw [show (Machine.settlementTrigger o s).order x = _ from congrArg (fun t => look t x) orders, look_upd]
    split
    next same =>
      subst same
      refine .keeps ?_ fun _ => on
      unfold Order.triggered
      split <;> rfl
    · exact .refl _
  · rw [show (Machine.settlementTrigger o s).bay b = s.bay b from (congrArg (fun t : State => t.bay b) besides :)]
    exact .refl _
  · rw [show (Machine.settlementTrigger o s).price = s.price from (congrArg State.price besides :)]
    exact .refl _

theorem settlementCheck (o : OrderId) (s : State) : AreasWithin s (settlementCheck o s) := by
  unfold Machine.settlementCheck
  dsimp only
  split
  next meets =>
    refine settlementTrigger o s ?_
    obtain ⟨state | state | state, -⟩ := meets <;> rw [nonFinal, state] <;> rfl
  · exact refl s

theorem abortCopy (p : PrinterId) (cause : CopyResult) (s : State) : AreasWithin s (abortCopy p cause s) := by
  unfold Machine.abortCopy
  split
  · exact refl s
  · split <;> exact of_tables rfl rfl rfl

theorem toDraft (o : OrderId) (why : DraftReason) (s : State) (on : nonFinal (s.order o) = true) : AreasWithin s (toDraft o why s) :=
  onOrder s o _ (.keeps rfl fun _ => on)

theorem leaveQueues (o : OrderId) (s : State) : AreasWithin s (leaveQueues o s) := of_tables rfl rfl rfl

theorem joinQueue (o : OrderId) (p : PrinterId) (s : State) : AreasWithin s (joinQueue o p s) := of_tables rfl rfl rfl

theorem withHeldList (s : State) (l : List OrderId) : AreasWithin s { s with heldList := l } := of_tables rfl rfl rfl

theorem leaveHeld (o : OrderId) (s : State) : AreasWithin s (leaveHeld o s) := withHeldList s _

theorem markHeldList (s : State) : AreasWithin s (markHeldList s) := of_tables rfl rfl rfl

theorem evalLamps (i : StationId) (s : State) : AreasWithin s (evalLamps i s) := of_tables rfl rfl rfl

theorem makePaid (o : OrderId) (p : PrinterId) (s : State) (on : nonFinal (s.order o) = true) : AreasWithin s (makePaid o p s) :=
  (onOrder s o _ (.keeps rfl fun _ => on)).trans (joinQueue o p _)

theorem enterHeld (o : OrderId) (s : State) (on : nonFinal (s.order o) = true) : AreasWithin s (enterHeld o s) := by
  have left : AreasWithin s (Machine.leaveHeld o (Machine.leaveQueues o s)) := (leaveQueues o s).trans (leaveHeld o _)
  have still : (Machine.leaveHeld o (Machine.leaveQueues o s)).order o = s.order o := rfl
  exact left.trans ((onOrder _ o _ (.keeps rfl fun _ => by rw [still]; exact on)).trans
    ((withHeldList _ _).trans ((markHeldList _).trans (evalLamps _ _))))

theorem placeHeld (o : OrderId) (p : PrinterId) (s : State) (on : nonFinal (s.order o) = true) : AreasWithin s (placeHeld o p s) :=
  (leaveHeld o s).trans ((markHeldList _).trans ((makePaid o p (Machine.markHeldList (Machine.leaveHeld o s)) on).trans (evalLamps _ _)))

theorem releaseOrder (p : PrinterId) (o : OrderId) (s : State) : AreasWithin s (releaseOrder p o s) := by
  have on : ∀ {st}, (s.order o).state = st → (st != .free && st != .closed && st != .cancelled) = true → nonFinal (s.order o) = true :=
    fun state goes => by rw [nonFinal, state]; exact goes
  unfold Machine.releaseOrder
  dsimp only
  split <;> rename_i state
  · split
    · exact onOrder s o _ (.keeps rfl id)
    · exact toDraft o _ s (on state rfl)
  · exact onOrder s o _ (.keeps rfl id)
  · split
    · exact makePaid o _ s (on state rfl)
    · exact enterHeld o s (on state rfl)
  · split
    · exact makePaid o _ s (on state rfl)
    · exact enterHeld o s (on state rfl)
  · exact refl s

theorem onCopy (s : State) (p : PrinterId) (f : Copy → Copy) : AreasWithin s (s.onCopy p f) := of_tables rfl rfl rfl

theorem release (p : PrinterId) (s : State) : AreasWithin s (release p s) := by
  have step : ∀ o u, AreasWithin u (releaseStep p o u) := fun o u => by
    unfold releaseStep
    split
    · exact releaseOrder p o u
    · exact refl u
  have copy : ∀ u, AreasWithin u (releaseCopy p u) := fun u => by
    unfold releaseCopy
    split
    · exact (onCopy u p _).trans (abortCopy p _ _)
    · exact refl u
  exact (forEach (releaseStep p) step (releaseOrderList s p) s).trans (copy _)

theorem scanHeld (s : State) : AreasWithin s (scanHeld s) := by
  refine forEach scanStep (fun o u => ?_) _ s
  unfold scanStep
  split
  next held =>
    split
    · exact placeHeld o _ u (by rw [nonFinal, held]; rfl)
    · exact refl u
  · exact refl u

/-- R34: an item whose copy begins becomes ACTIVE from PENDING alone. -/
theorem copyBegins (o : OrderId) (i : Nat) (s : State) (on : nonFinal (s.order o) = true) : AreasWithin s (copyBegins o i s) := by
  refine AreasWithin.trans (onOrder s o (fun r => { r with items := r.items.modify i fun x =>
    { x with inFlight := x.inFlight + 1, state := if x.state = .pending then .active else x.state } }) ?_)
      (onOrder _ o (fun r => { r with state := if r.state = .paid then .printing else r.state }) (.keeps rfl fun _ => ?_))
  · intro x mem live
    obtain ⟨k, lt, isX⟩ := List.getElem_of_mem mem
    rw [List.length_modify] at lt
    rw [List.getElem_modify] at isX
    rw [rasterLive, Bool.and_eq_true] at live
    refine ⟨(s.order o).items[k], List.getElem_mem lt, ?_, ?_⟩
    · rw [rasterLive, on, Bool.true_and, ← live.2, ← isX]
      split
      · dsimp only
        split
        next pending => rw [pending]; rfl
        · rfl
      · rfl
    · rw [← isX]
      split <;> rfl
  · rw [order_onOrder_same]
    exact on

theorem beginCheck (p : PrinterId) (s : State) : AreasWithin s (beginCheck p s) := by
  unfold Machine.beginCheck
  dsimp only
  split
  · split
    next o i next =>
      split
      next item _ =>
        have begins : ∀ u : State, u.orders = s.orders → u.bays = s.bays → u.price = s.price → AreasWithin s (Machine.copyBegins o i u) :=
          fun u orders bays price => (of_tables orders bays price).trans (copyBegins o i u (by
            rw [show u.order o = s.order o from congrArg (fun x => look x o) orders]
            obtain state | state := Moves.nextCopy_state next <;> rw [nonFinal, state] <;> rfl))
        unfold Machine.beginCopy
        dsimp only
        split <;> exact begins _ rfl rfl rfl
      · exact refl s
    · exact refl s
  · exact refl s

theorem emit (s : State) (x : Out) : AreasWithin s (s.emit x) := of_tables rfl rfl rfl

theorem onTerminal (s : State) (f : Terminal → Terminal) : AreasWithin s (s.onTerminal f) := of_tables rfl rfl rfl

theorem grantPay (e : PayEntry) (s : State) : AreasWithin s (grantPay e s) := by
  have refers : ∀ (ref : W16) (u : State), AreasWithin u (u.onOrder e.order fun r => if r.state = .paying then { r with reference := some ref } else r) :=
    fun ref u => onOrder u e.order _ (by
      split
      · exact .keeps rfl id
      · exact .refl _)
  exact (onTerminal s _).trans ((refers _ _).trans ((writeBody e.slot _ _).trans (emit _ _)))

theorem arbiter (s : State) : AreasWithin s (arbiter s) := by
  unfold Machine.arbiter
  split
  · split
    · exact (onTerminal s _).trans (emit _ _)
    · exact (onTerminal s _).trans (emit _ _)
    · exact grantPay _ s
    · exact refl s
  · exact refl s

/-! ### The master port -/

theorem grantNote (x : Transfer) (s : State) : AreasWithin s (grantNote x s) := by
  unfold Machine.grantNote
  split
  next h _ _ _ =>
    refine onBay s _ _ (.same ?_ ?_) <;> unfold Bay.setHalf <;> split <;> rfl
  · refine onPrice s _ fun l load => ?_
    obtain ⟨k, isLoad, rfl⟩ := Option.map_eq_some_iff.1 load
    exact ⟨k, isLoad, rfl, id⟩
  · exact refl s

theorem grantOne (s : State) : AreasWithin s (grantOne s) := by
  unfold Machine.grantOne
  split
  · split
    next i _ =>
      cases line : look s.port.lines i with
      | nil =>
        unfold grantTo
        rw [line]
        exact refl s
      | cons x rest =>
        rw [grantTo_eq line]
        exact (of_tables rfl rfl rfl : AreasWithin s { s with port := s.port.grants i x rest }).trans
          ((grantNote x _).trans (of_tables rfl rfl rfl))
    · exact refl s
  · exact refl s

theorem grantLoop (s : State) : AreasWithin s (grantLoop s) :=
  (grantOne s).trans ((grantOne _).trans ((grantOne _).trans (grantOne _)))

theorem evalAllLamps (s : State) : AreasWithin s (evalAllLamps s) := forEach Machine.evalLamps evalLamps _ s

theorem markChanges (before s : State) : AreasWithin s (markChanges before s) := of_tables rfl rfl rfl

/-- What follows an event makes no area live. -/
theorem settle (before s : State) : AreasWithin s (settle before s) := by
  have noted : AreasWithin s (noteChanges before s) := (evalAllLamps s).trans (markChanges before _)
  have released : AreasWithin s (releaseBoth (noteChanges before s)) :=
    noted.trans ((release 0 _).trans ((release 1 _).trans (markChanges _ _)))
  have scanned : AreasWithin s (if roomGrew before (releaseBoth (noteChanges before s)) then Machine.scanHeld (releaseBoth (noteChanges before s))
      else releaseBoth (noteChanges before s)) := by
    split
    · exact released.trans (scanHeld _)
    · exact released
  exact scanned.trans ((beginCheck 0 _).trans ((beginCheck 1 _).trans ((arbiter _).trans ((grantLoop _).trans (evalAllLamps _)))))

/-! ### A bay -/

theorem syncRead (b : BayId) (s : State) : AreasWithin s (syncRead b s) := by
  unfold Machine.syncRead
  split
  · exact writeBody _ _ s
  · exact refl s

theorem activateNext (b : BayId) (s : State) : AreasWithin s (activateNext b s) := by
  unfold Machine.activateNext
  split
  · exact refl s
  next r rest waiting =>
    refine AreasWithin.trans (onBay s b _ ?_) ((emit _ _).trans (syncRead b _))
    rintro w (isActive | waits)
    · obtain rfl := Option.some.inj isActive
      exact ⟨r, .inr (by rw [waiting]; exact List.mem_cons_self), fun _ => Nat.le_refl _⟩
    · exact ⟨w, .inr (by rw [waiting]; exact List.mem_cons_of_mem r waits), fun _ => Nat.le_refl _⟩

theorem finishRead (b : BayId) (r : Read) (st : Status) (s : State) : AreasWithin s (finishRead b r st s) := by
  have recorded : ∀ u : State, AreasWithin u (recordRead b r.slot st u) := fun u => onBay u b _ (.same rfl rfl)
  have queue : ∀ u : State, AreasWithin u (queueMovesOn b u) := fun u => by
    unfold queueMovesOn
    split
    · exact (onBay u b (fun y => { y with state := .ready }) (.same rfl rfl)).trans (activateNext b _)
    · exact (onBay u b (fun y => { y with state := .ready }) (.same rfl rfl)).trans (activateNext b _)
    · exact refl u
  exact (onBay s b _ (.ends rfl fun _ mem => mem)).trans ((complete r.slot st .none _ _).trans ((recorded _).trans (queue _)))

theorem requestWrite (b : BayId) (s : State) : AreasWithin s (requestWrite b s) := by
  unfold Machine.requestWrite
  split
  · exact refl s
  · dsimp only
    split
    · split
      · refine onBay s b _ (.same ?_ ?_) <;> split <;> rfl
      · exact of_tables rfl rfl rfl
    · exact refl s

theorem restartClock (b : BayId) (s : State) : AreasWithin s (restartClock b s) := by
  refine onBay s b _ (.same ?_ ?_) <;>
    split
  · split <;> rfl
  · rfl
  · split <;> rfl
  · rfl

theorem restartRun (b : BayId) (s : State) : AreasWithin s (restartRun b s) := by
  unfold Machine.restartRun
  split
  · split
    · exact (onBay s b (fun y => { y with run := .running, block := .running Config.blockMs }) (.same rfl rfl)).trans (of_tables rfl rfl rfl)
    · exact refl s
  · exact refl s

theorem bayAdvance (b : BayId) (s : State) : AreasWithin s (bayAdvance b s) := by
  have ended : ∀ u : State, AreasWithin u (finishEnded b u) := fun u => by
    unfold finishEnded
    split
    · split
      · split
        · exact finishRead b _ _ u
        · exact refl u
      · exact refl u
    · exact refl u
  unfold Machine.bayAdvance
  split
  · exact refl s
  · split
    · exact (requestWrite b s).trans (ended _)
    · split
      · exact finishRead b _ _ s
      · exact (restartClock b s).trans ((restartRun b _).trans (requestWrite b _))

theorem windDown (b : BayId) (cause : EndCause) (s : State) : AreasWithin s (windDown b cause s) := by
  cases active : (s.bay b).active with
  | none =>
    unfold Machine.windDown
    rw [active]
    exact refl s
  | some r =>
    rw [windDown_eq active]
    have bay := onBay s b (Bay.wound cause r) (.goesOn active rfl (fun a => Nat.le_refl _) fun w mem => mem)
    have winds : AreasWithin s (wound b cause r s) := ⟨bay.rasters, bay.reads, bay.load⟩
    exact winds.trans (bayAdvance b _)

theorem halfFailed (b : BayId) (h : Fin 2) (s : State) : AreasWithin s (halfFailed b h s) := by
  refine AreasWithin.trans (onBay s b _ (.same ?_ ?_)) (bayAdvance b _) <;> unfold Bay.setHalf <;> split <;> rfl

theorem halfWritten (b : BayId) (h : Fin 2) (blocks : Nat) (s : State) : AreasWithin s (halfWritten b h blocks s) := by
  unfold Machine.halfWritten
  split
  · exact refl s
  next r active =>
    have setHalf : ∀ (y : Bay) (v : Half), (y.setHalf h v).waiting = y.waiting := fun y v => by
      unfold Bay.setHalf
      split <;> rfl
    have bay := onBay s b (fun y => { (y.setHalf h Half.reset) with
        active := some { r with delivered := r.delivered + blocks, filled := buffersFilled r (r.delivered + blocks) } })
      (.goesOn active rfl (fun a => Nat.le_refl _) fun w mem => setHalf _ _ ▸ mem)
    have progress : ∀ u : State, AreasWithin u (if advances r (r.delivered + blocks) then Machine.advanceProgress r.slot u else u) := fun u => by
      split
      · exact advanceProgress _ u
      · exact refl u
    exact bay.trans ((syncRead b _).trans ((progress _).trans (bayAdvance b _)))

/-! ### A load and the outcomes told -/

theorem endLoad (l : Load) (outcome : LoadOutcome) (st : Status) (failure : Option (Nat × Violation)) (body : Body) (s : State) :
    AreasWithin s (endLoad l outcome st failure body s) :=
  (onPrice s _ fun _ load => absurd load (by simp)).trans (complete _ _ _ _ _)

theorem tellOne (x : Transfer) (o : TransferOutcome) (s : State) : AreasWithin s (tellOne x o s) := by
  have sent : ∀ (p : PrinterId) (u : State), AreasWithin u (trySend p u) := fun p u => by
    unfold trySend
    dsimp only
    (repeat' split) <;> exact of_tables rfl rfl rfl
  unfold Machine.tellOne
  split
  · unfold stripeArrived
    dsimp only
    split
    · exact refl s
    · split
      · exact (of_tables rfl rfl rfl : AreasWithin s (s.onPrinter _ _)).trans (sent _ _)
      · exact refl s
  · unfold stripeFailed
    dsimp only
    (repeat' split) <;> exact of_tables rfl rfl rfl
  · exact halfWritten _ _ _ s
  · exact halfFailed _ _ s
  · unfold imageArrived
    split
    · exact refl s
    · split
      · exact endLoad _ _ _ _ _ s
      · split
        · exact endLoad _ _ _ _ _ s
        · unfold judgeImage
          split
          · exact endLoad _ _ _ _ _ s
          · exact (onPrice s _ fun l load => ⟨l, load, rfl, id⟩ : AreasWithin s (installTable _ s)).trans (endLoad _ _ _ _ _ _)
  · unfold imageFailed
    split
    · exact refl s
    · exact endLoad _ _ _ _ _ s
  · exact refl s

theorem tellRequester (q : Requester) (s : State) : AreasWithin s (tellRequester q s) :=
  (of_tables rfl rfl rfl : AreasWithin s (s.onPort fun p => { p with granted := dropTold q p.granted })).trans
    (forEach (fun (x : Transfer × TransferOutcome) t => Machine.tellOne x.1 x.2 t) (fun x t => tellOne x.1 x.2 t) _ _)

end AreasWithin

end Sys2Proof.Machine
end

section
/-! SUPPORT. The fault of an aperture (R158, R159): its areas die, its record shows the transfer, and the requester is told. -/

namespace Sys2Proof.Machine

/-! ## No area is left -/

/-- No live raster of an order is in the aperture. -/
def RastersDead (a : ApertureId) (x : Order) : Prop := ∀ i ∈ x.items, rasterLive x i = true → i.aperture ≠ a

/-- No live card buffer of a bay is in the aperture. -/
def ReadsDead (a : ApertureId) (y : Bay) : Prop := ∀ r, HasRead y r → readAreas a r = 0

/-- The price image is not live in the aperture. -/
def LoadDead (a : ApertureId) (u : PriceUnit) : Prop := ∀ l, u.load = some l → l.aperture = a → l.areaDead = true

theorem sum_of_zeros {l : List Nat} (zeros : ∀ n ∈ l, n = 0) : l.sum = 0 := by
  induction l with
  | nil => rfl
  | cons n rest ih =>
    rw [List.sum_cons, zeros n List.mem_cons_self, ih fun k mem => zeros k (List.mem_cons_of_mem n mem)]

theorem useCount_dead {a : ApertureId} {s : State} (rasters : ∀ o, RastersDead a (s.order o)) (reads : ∀ b, ReadsDead a (s.bay b))
    (load : LoadDead a s.price) : s.useCount a = 0 := by
  have noRasters : s.liveRasters a = 0 := by
    refine sum_of_zeros fun n mem => ?_
    obtain ⟨o, -, rfl⟩ := List.mem_map.1 mem
    refine List.length_eq_zero_iff.2 (List.filter_eq_nil_iff.2 fun i inside live => ?_)
    rw [Bool.and_eq_true, beq_iff_eq] at live
    exact rasters o i inside live.1 live.2
  have noBuffers : s.liveBuffers a = 0 := by
    refine sum_of_zeros fun n mem => ?_
    obtain ⟨b, -, rfl⟩ := List.mem_map.1 mem
    refine sum_of_zeros fun k inside => ?_
    obtain ⟨r, has, rfl⟩ := List.mem_map.1 inside
    refine reads b r ((List.mem_append.1 has).imp (fun isActive => ?_) id)
    simpa using isActive
  have noImage : s.liveImages a = 0 := by
    unfold State.liveImages
    cases isLoad : s.price.load with
    | none => rfl
    | some l => exact if_neg fun ⟨own, alive⟩ => by rw [load l isLoad own] at alive; exact absurd alive (by decide)
  rw [State.useCount, noRasters, noBuffers, noImage]

section Monotone
variable {a : ApertureId}

theorem RastersDead.within {x y : Order} (dead : RastersDead a x) (within : RastersWithin x y) : RastersDead a y := fun i mem live => by
  obtain ⟨j, mem', live', same⟩ := within i mem live
  exact same ▸ dead j mem' live'

theorem ReadsDead.within {x y : Bay} (dead : ReadsDead a x) (within : ReadsWithin x y) : ReadsDead a y := fun r has => by
  obtain ⟨q, has', areas⟩ := within r has
  exact Nat.le_zero.1 (dead q has' ▸ areas a)

theorem LoadDead.within {u v : PriceUnit} (dead : LoadDead a u) (within : LoadWithin u v) : LoadDead a v := fun l load own => by
  obtain ⟨k, load', same, stays⟩ := within l load
  exact stays (dead k load' (same.symm.trans own))

end Monotone

/-! ## The areas of an aperture die (R40, R49, R122) -/

section Kill
variable (a : ApertureId)

/-- R40: the orders as their items with a live raster in the aperture are marked. -/
def marksItems (s : State) : State := { s with orders := s.orders.map fun o => { o with items := o.items.map (markItem o a) } }

theorem order_marksItems (s : State) (o : OrderId) :
    (marksItems a s).order o = { s.order o with items := (s.order o).items.map (markItem (s.order o) a) } := look_map ..

theorem rastersDead_marksItems (s : State) (o : OrderId) : RastersDead a ((marksItems a s).order o) := by
  rw [order_marksItems]
  intro i mem live own
  obtain ⟨j, -, rfl⟩ := List.mem_map.1 mem
  unfold markItem at live own
  split at live
  · exact absurd live (by simp [rasterLive])
  next kept =>
    rw [if_neg kept] at own
    exact kept ⟨live, own⟩

theorem marksItems_within (s : State) : AreasWithin s (marksItems a s) := by
  refine ⟨fun o => ?_, fun _ => .refl _, .refl _⟩
  rw [order_marksItems]
  intro i mem live
  obtain ⟨j, inside, rfl⟩ := List.mem_map.1 mem
  unfold markItem at live ⊢
  split at live
  · exact absurd live (by simp [rasterLive])
  next kept =>
    rw [if_neg kept]
    exact ⟨j, inside, live, rfl⟩

theorem markEffect_within (x : OrderId × List Nat) (s : State) : AreasWithin s (markEffect x s) := by
  have noted : AreasWithin s (dropNote x.1 x.2 s) := .of_tables rfl rfl rfl
  have aborts : ∀ p u, AreasWithin u (abortMarked p x.1 x.2 u) := fun p u => by
    unfold abortMarked
    split
    · split
      · exact .abortCopy p _ u
      · exact .refl u
    · exact .refl u
  unfold markEffect
  dsimp only
  split
  next state => exact noted.trans (.toDraft _ _ _ (by rw [nonFinal, state]; rfl))
  · exact noted.trans ((aborts 0 _).trans ((aborts 1 _).trans (.settlementCheck _ _)))
  · exact noted.trans ((aborts 0 _).trans ((aborts 1 _).trans (.settlementCheck _ _)))
  · exact noted.trans ((aborts 0 _).trans ((aborts 1 _).trans (.settlementCheck _ _)))
  · exact noted

/-- The orders that an aperture's fault marks. -/
def ordersMarked (s : State) : List (OrderId × List Nat) :=
  ((List.finRange 32).map fun o => (o, markedItems (s.order o) a)).filter fun x => !x.2.isEmpty

theorem killRasters_eq (s : State) : killRasters a s = forEach (ordersMarked a s) markEffect (marksItems a s) := rfl

theorem killRasters_dead (s : State) : AreasWithin s (killRasters a s) ∧ ∀ o, RastersDead a ((killRasters a s).order o) := by
  have effects := AreasWithin.forEach markEffect markEffect_within (ordersMarked a s) (marksItems a s)
  rw [killRasters_eq]
  exact ⟨(marksItems_within a s).trans effects, fun o => (rastersDead_marksItems a s o).within (effects.rasters o)⟩

theorem forEach_map {α β : Type} (g : α → β) (f : β → State → State) (l : List α) (s : State) :
    forEach l (fun x u => f (g x) u) s = forEach (l.map g) f s := by
  induction l generalizing s with
  | nil => rfl
  | cons x rest ih => exact ih (f (g x) s)

/-- R122: the waiting reads of a bay with a buffer in the aperture, each with the aperture that faulted. -/
def readsHit (b : BayId) (s : State) : List Read :=
  ((s.bay b).waiting.filter fun r => readAreas a r != 0).map fun r => { r with faultedAperture := some a }

/-- R122: State once those reads have ended. -/
def waitingKilled (b : BayId) (s : State) : State := forEach (readsHit a b s) (endWaitingRead b .transferFault) s

/-- R122: what becomes of the active read. -/
def activeKilled (b : BayId) (t : State) : State :=
  match (t.bay b).active with
  | none => t
  | some r =>
    if readAreas a r = 0 then t
    else if r.ended.isSome then
      bayAdvance b (((t.onActive b (killAreas a)).onBay b fun y => { y with half0 := discardFull y.half0, half1 := discardFull y.half1 }).withdraw
        (.bay b))
    else if r.mark.isSome then t.onActive b (killAreas a)
    else windDown b .transferFault (t.onActive b (killAreas a))

theorem killReads_eq (b : BayId) (s : State) : killReads a b s = activeKilled a b (waitingKilled a b s) := by
  have ended := forEach_map (fun r : Read => { r with faultedAperture := some a }) (endWaitingRead b .transferFault)
    ((s.bay b).waiting.filter fun r => readAreas a r != 0) s
  exact congrArg (activeKilled a b) ended

theorem waitingKilled_bay (b : BayId) (s : State) : ((waitingKilled a b s).bay b).active = (s.bay b).active
    ∧ (∀ w ∈ ((waitingKilled a b s).bay b).waiting, w ∈ (s.bay b).waiting ∧ readAreas a w = 0) := by
  obtain ⟨last, counts, bay⟩ := endWaiting_bay (b := b) (cause := .transferFault) (readsHit a b s) s
  rw [waitingKilled, bay]
  refine ⟨rfl, fun w mem => ?_⟩
  obtain ⟨inside, apart⟩ := List.mem_filter.1 mem
  refine ⟨inside, ?_⟩
  refine Classical.byContradiction fun live => ?_
  have hit := List.all_eq_true.1 apart { w with faultedAperture := some a } (List.mem_map_of_mem (List.mem_filter.2 ⟨inside, by simpa using live⟩))
  simp at hit

theorem waitingKilled_work (b : BayId) (s : State) : BayWork b s (waitingKilled a b s) :=
  .all (fun r _ => BayWork.endWaitingRead _ r) (readsHit a b s) s

theorem readAreas_killAreas (r : Read) : readAreas a (killAreas a r) = 0 := by
  unfold killAreas
  split
  · assumption
  · simp [readAreas]

theorem readAreas_mono {x y : Read} (mode : y.mode = x.mode) (apertures : y.apertureA = x.apertureA ∧ y.apertureB = x.apertureB)
    (liveA : y.liveA = true → x.liveA = true) (liveB : y.liveB = true → x.liveB = true) (c : ApertureId) : readAreas c y ≤ readAreas c x := by
  obtain ⟨inA, inB⟩ := apertures
  unfold readAreas
  rw [mode, inA, inB]
  refine Nat.add_le_add ?_ ?_
  · split
    next both => exact Nat.le_of_eq (if_pos ⟨liveA both.1, both.2⟩).symm
    · exact Nat.zero_le _
  · split
    next all => exact Nat.le_of_eq (if_pos ⟨all.1, liveB all.2.1, all.2.2⟩).symm
    · exact Nat.zero_le _

theorem readAreas_killAreas_le (c : ApertureId) (r : Read) : readAreas c (killAreas a r) ≤ readAreas c r := by
  unfold killAreas
  split
  · exact Nat.le_refl _
  · have stays : ∀ {x y : Bool}, (x && y) = true → x = true := fun both => (Bool.and_eq_true_iff.1 both).1
    refine readAreas_mono ?_ ⟨?_, ?_⟩ ?_ ?_ c
    · rfl
    · rfl
    · rfl
    · exact stays
    · exact stays

theorem activeKilled_work (b : BayId) (t : State) : BayWork b t (activeKilled a b t) := by
  have killed : BayWork b t (t.onActive b (killAreas a)) := .onBay _
  unfold activeKilled
  split
  · exact .refl
  · split
    · exact .refl
    · split
      · exact killed.trans ((BayWork.onBay _).trans (BayWork.withdraw.trans .bayAdvance))
      · split
        · exact killed
        · exact killed.trans (.windDown _)

theorem withdraw_within (q : Requester) (s : State) : AreasWithin s (s.withdraw q) := .of_tables rfl rfl rfl

theorem activeKilled_dead (b : BayId) {t : State} (waiting : ∀ w ∈ (t.bay b).waiting, readAreas a w = 0) :
    AreasWithin t (activeKilled a b t) ∧ ReadsDead a ((activeKilled a b t).bay b) := by
  unfold activeKilled
  cases active : (t.bay b).active with
  | none =>
    refine ⟨.refl t, fun r has => has.elim (fun isActive => ?_) (waiting r)⟩
    rw [active] at isActive
    exact absurd isActive (by simp)
  | some r =>
    dsimp only
    by_cases free : readAreas a r = 0
    · rw [if_pos free]
      refine ⟨.refl t, fun q has => has.elim (fun isActive => ?_) (waiting q)⟩
      rw [active] at isActive
      exact Option.some.inj isActive ▸ free
    · rw [if_neg free]
      have killed : AreasWithin t (t.onActive b (killAreas a)) := .onBay t b _ (.goesOn (r := killAreas a r) active (by rw [active]; rfl)
        (fun c => readAreas_killAreas_le a c r) fun _ mem => mem)
      have dead : ReadsDead a ((t.onActive b (killAreas a)).bay b) := by
        rw [State.onActive, bay_onBay_same]
        rintro q (isActive | waits)
        · dsimp only at isActive
          rw [active] at isActive
          exact Option.some.inj isActive ▸ readAreas_killAreas a r
        · exact waiting q waits
      generalize t.onActive b (killAreas a) = u at *
      split
      · have dropped : AreasWithin u ((u.onBay b fun y => { y with half0 := discardFull y.half0, half1 := discardFull y.half1 }).withdraw (.bay b)) :=
          (AreasWithin.onBay u b _ (.same rfl rfl)).trans (withdraw_within _ _)
        have advanced := dropped.trans (.bayAdvance b _)
        exact ⟨killed.trans advanced, dead.within (advanced.reads b)⟩
      · split
        · exact ⟨killed, dead⟩
        · have wound := AreasWithin.windDown b .transferFault u
          exact ⟨killed.trans wound, dead.within (wound.reads b)⟩

theorem endWaitingRead_within (b : BayId) (cause : EndCause) (r : Read) (s : State) : AreasWithin s (endWaitingRead b cause r s) := by
  have fewer : AreasWithin s (s.onBay b fun y => { y with waiting := y.waiting.filter (·.slot != r.slot) }) := .onBay s b _ (by
    rintro w (isActive | waits)
    · exact ⟨w, .inl isActive, fun _ => Nat.le_refl _⟩
    · exact ⟨w, .inr (List.mem_filter.1 waits).1, fun _ => Nat.le_refl _⟩)
  exact fewer.trans ((AreasWithin.complete r.slot _ _ _ _).trans (.onBay _ b _ (.same rfl rfl)))

theorem waitingKilled_within (b : BayId) (s : State) : AreasWithin s (waitingKilled a b s) :=
  .forEach (endWaitingRead b .transferFault) (endWaitingRead_within b .transferFault) (readsHit a b s) s

theorem killReads_dead (b : BayId) (s : State) : AreasWithin s (killReads a b s) ∧ BayWork b s (killReads a b s)
    ∧ ReadsDead a ((killReads a b s).bay b) := by
  obtain ⟨-, waiting⟩ := waitingKilled_bay a b s
  obtain ⟨within, dead⟩ := activeKilled_dead a b (t := waitingKilled a b s) fun w mem => (waiting w mem).2
  rw [killReads_eq]
  exact ⟨(waitingKilled_within a b s).trans within, (waitingKilled_work a b s).trans (activeKilled_work a b _), dead⟩

theorem killBays_dead (l : List BayId) (s : State) : AreasWithin s (forEach l (killReads a) s)
    ∧ (forEach l (killReads a) s).price = s.price ∧ ∀ b ∈ l, ReadsDead a ((forEach l (killReads a) s).bay b) := by
  induction l generalizing s with
  | nil => exact ⟨.refl s, rfl, fun b mem => absurd mem List.not_mem_nil⟩
  | cons c rest ih =>
    obtain ⟨within, work, dead⟩ := killReads_dead a c s
    obtain ⟨within', price, later⟩ := ih (killReads a c s)
    refine ⟨within.trans within', price.trans work.price, fun b mem => ?_⟩
    obtain rfl | inRest := List.mem_cons.1 mem
    · exact dead.within (within'.reads b)
    · exact later b inRest

theorem killLoad_dead (s : State) : AreasWithin s (killLoad a s) ∧ LoadDead a (killLoad a s).price
    ∧ (killLoad a s).price.table = s.price.table := by
  unfold killLoad
  cases load : s.price.load with
  | none => exact ⟨.refl s, fun l isLoad => absurd (load.symm.trans isLoad) (by simp), rfl⟩
  | some k =>
    dsimp only
    split
    · split
      · refine ⟨.onPrice s _ fun l isLoad => ?_, fun l isLoad _ => ?_, rfl⟩
        · obtain rfl := Option.some.inj isLoad
          exact ⟨k, load, rfl, fun _ => rfl⟩
        · obtain rfl := Option.some.inj isLoad
          rfl
      · have price := (congrArg State.price (complete_rest k.slot .transferFault .none (.loadFault k.aperture) (s.onPrice fun u =>
          { u with load := none, last := some { outcome := .transferFault, clock := s.clock, failure := none },
                   loadFailedLatched := u.loadFailedLatched || LoadOutcome.transferFault == .format || LoadOutcome.transferFault == .transferFault })) :)
        refine ⟨.endLoad k _ _ _ _ s, fun l isLoad _ => ?_, (congrArg PriceUnit.table price :)⟩
        have none := (congrArg PriceUnit.load price :)
        exact absurd (none.symm.trans isLoad) (by simp [State.onPrice])
    next other =>
      refine ⟨.refl s, fun l isLoad own => ?_, rfl⟩
      have same : k = l := Option.some.inj (load.symm.trans isLoad)
      rw [same] at other
      exact (Bool.eq_false_or_eq_true l.areaDead).resolve_right fun alive => other ⟨own, alive⟩

end Kill

/-! ## The aperture faults (R158) -/

/-- R158: the record of the transfer whose link error faults its aperture. -/
def faultRecord (x : Transfer) (cause : FaultCause) (s : State) : FaultRecord :=
  { clock := s.clock, direction := x.direction, requester := x.requester, address := x.address, cause := cause,
    areasDied := s.useCount x.aperture }

/-- R158: the entry as it faults. -/
def Aperture.faults (record : FaultRecord) (e : Aperture) : Aperture := { e with state := .faulted, fault := some record }

section Fault
variable {x : Transfer} {cause : FaultCause} {s : State}

theorem faultAperture_active (on : (s.aperture x.aperture).state = .active) : faultAperture x cause s =
    killAll x.aperture (withdrawUnder x.aperture (s.onAperture x.aperture (Aperture.faults (faultRecord x cause s)))) := if_pos on

theorem faultAperture_inactive (off : (s.aperture x.aperture).state ≠ .active) : faultAperture x cause s = s := if_neg off

theorem price_abortMarked (p : PrinterId) (o : OrderId) (marked : List Nat) (s : State) : (abortMarked p o marked s).price = s.price := by
  have aborts : (abortCopy p .aborted s).price = s.price := by
    unfold abortCopy
    (repeat' split) <;> rfl
  unfold abortMarked
  (repeat' split) <;> first | rfl | exact aborts

theorem price_markEffect (y : OrderId × List Nat) (s : State) : (markEffect y s).price = s.price := by
  have checks : ∀ o w, (settlementCheck o w).price = w.price := fun o w => (congrArg State.price (besides_settlementCheck o w) :)
  have effect : ∀ u, (settlementCheck y.1 (abortMarked 1 y.1 y.2 (abortMarked 0 y.1 y.2 u))).price = u.price := fun u =>
    (checks _ _).trans ((price_abortMarked 1 _ _ _).trans (price_abortMarked 0 _ _ _))
  have noted : (dropNote y.1 y.2 s).price = s.price := rfl
  unfold markEffect
  dsimp only
  generalize dropNote y.1 y.2 s = v at *
  split
  · exact noted
  · exact (effect v).trans noted
  · exact (effect v).trans noted
  · exact (effect v).trans noted
  · exact noted

theorem price_killRasters (a : ApertureId) (s : State) : (killRasters a s).price = s.price := by
  rw [killRasters_eq]
  exact (forEach_keeps State.price markEffect price_markEffect (ordersMarked a s) (marksItems a s)).trans rfl

theorem killAll_dead (a : ApertureId) (u : State) : (∀ o, RastersDead a ((killAll a u).order o)) ∧ (∀ b, ReadsDead a ((killAll a u).bay b))
    ∧ LoadDead a (killAll a u).price ∧ (killAll a u).price.table = u.price.table := by
  obtain ⟨-, rasters⟩ := killRasters_dead a u
  have price := price_killRasters a u
  unfold killAll
  generalize killRasters a u = v at *
  obtain ⟨bays, price', reads⟩ := killBays_dead a (List.finRange 4) v
  generalize forEach (List.finRange 4) (killReads a) v = w at *
  obtain ⟨load, dead, table⟩ := killLoad_dead a w
  exact ⟨fun o => ((rasters o).within (bays.rasters o)).within (load.rasters o),
    fun b => (reads b (List.mem_finRange b)).within (load.reads b), dead, table.trans (congrArg PriceUnit.table (price'.trans price))⟩

/-- R158: what the fault of an ACTIVE aperture leaves. -/
theorem faultAperture_leaves (on : (s.aperture x.aperture).state = .active) :
    (faultAperture x cause s).apertures = upd s.apertures x.aperture (Aperture.faults (faultRecord x cause s))
      ∧ (∀ o, RastersDead x.aperture ((faultAperture x cause s).order o)) ∧ (∀ b, ReadsDead x.aperture ((faultAperture x cause s).bay b))
      ∧ LoadDead x.aperture (faultAperture x cause s).price ∧ (faultAperture x cause s).price.table = s.price.table := by
  rw [faultAperture_active on]
  obtain ⟨rasters, reads, load, table⟩ := killAll_dead x.aperture
    (withdrawUnder x.aperture (s.onAperture x.aperture (Aperture.faults (faultRecord x cause s))))
  exact ⟨(apertures_of_core (core_killAll _ _)).trans rfl, rasters, reads, load, table.trans rfl⟩

end Fault

/-! ## The requester is told (R157) -/

theorem tellable_requester (q : Requester) (l : List Granted) : ∀ x ∈ tellable q l, x.1.requester = q := by
  induction l with
  | nil => exact fun x mem => absurd mem List.not_mem_nil
  | cons g rest ih =>
    unfold tellable
    split
    next own =>
      split
      · exact fun x mem => (List.mem_cons.1 mem).elim (fun same => by rw [same]; exact own) (ih x)
      · exact fun x mem => absurd mem List.not_mem_nil
    · exact ih

/-- R155: no outcome but that of a load's transfer reaches the price unit. -/
theorem price_tellOne {x : Transfer} (other : x.requester ≠ .load) (o : TransferOutcome) (s : State) : (tellOne x o s).price = s.price := by
  have sent : ∀ (p : PrinterId) (u : State), (trySend p u).price = u.price := fun p u => by
    unfold trySend
    dsimp only
    (repeat' split) <;> rfl
  have written : ∀ b h blocks, (halfWritten b h blocks s).price = s.price := fun b h blocks => by
    have progress : ∀ (r : Read) (u : State), BayWork b u (if advances r (r.delivered + blocks) then advanceProgress r.slot u else u) :=
      fun r u => .ite (.advanceProgress _) .refl
    unfold halfWritten
    split
    · rfl
    · exact ((BayWork.onBay _).trans (BayWork.syncRead.trans ((progress _ _).trans .bayAdvance))).price
  unfold tellOne
  split
  · unfold stripeArrived
    dsimp only
    split
    · rfl
    · split
      · exact (sent _ _).trans rfl
      · rfl
  · unfold stripeFailed
    dsimp only
    (repeat' split) <;> rfl
  · exact written _ _ _
  · exact ((BayWork.onBay _).trans .bayAdvance : BayWork _ s (halfFailed _ _ s)).price
  · exact absurd (by assumption) other
  · exact absurd (by assumption) other
  · rfl

/-- R49: with no load in work its outcomes change nothing. -/
theorem tellOne_unloaded {x : Transfer} {s : State} (own : x.requester = .load) (none : s.price.load = none) (o : TransferOutcome) :
    tellOne x o s = s := by
  unfold tellOne
  rw [own]
  split <;> first | contradiction | skip
  · simp only [imageArrived, none]
  · simp only [imageFailed, none]
  · rfl

/-- R49: an image that does not arrive leaves the table, and no load. -/
theorem imageFailed_leaves (s : State) : (imageFailed s).price.load = none ∧ (imageFailed s).price.table = s.price.table := by
  unfold imageFailed
  cases load : s.price.load with
  | none => exact ⟨load, rfl⟩
  | some l =>
    have price := (congrArg State.price (complete_rest l.slot .transferFault .none (.loadFault l.aperture) (s.onPrice fun u =>
      { u with load := none, last := some { outcome := .transferFault, clock := s.clock, failure := none },
               loadFailedLatched := u.loadFailedLatched || LoadOutcome.transferFault == .format || LoadOutcome.transferFault == .transferFault })) :)
    exact ⟨(congrArg PriceUnit.load price :), (congrArg PriceUnit.table price :)⟩

/-- The outcomes of some transfers told one after another. -/
def tellAll (told : List (Transfer × TransferOutcome)) (s : State) : State := forEach told (fun x t => tellOne x.1 x.2 t) s

theorem tellAll_unloaded {told : List (Transfer × TransferOutcome)} (own : ∀ x ∈ told, x.1.requester = .load) {s : State}
    (none : s.price.load = none) : tellAll told s = s := by
  induction told with
  | nil => rfl
  | cons x rest ih =>
    change tellAll rest (tellOne x.1 x.2 s) = s
    rw [tellOne_unloaded (own x List.mem_cons_self) none]
    exact ih fun y mem => own y (List.mem_cons_of_mem x mem)

theorem price_tellAll {told : List (Transfer × TransferOutcome)} (other : ∀ x ∈ told, x.1.requester ≠ .load) (s : State) :
    (tellAll told s).price = s.price := by
  induction told generalizing s with
  | nil => rfl
  | cons x rest ih =>
    exact (ih (fun y mem => other y (List.mem_cons_of_mem x mem)) (tellOne x.1 x.2 s)).trans (price_tellOne (other x List.mem_cons_self) x.2 s)

/-- R157: a transfer that was in progress is the first its requester is told of, or the requester is told nothing yet. -/
theorem tellable_first {P : Requester → Prop} {l : List Granted} {index : Nat} {g failed : Granted} (law : HeldBehind P l)
    (closed : ¬P g.transfer.requester) (place : l[index]? = some g) (o : TransferOutcome) (same : failed.transfer = g.transfer)
    (known : failed.outcome = some o) : tellable g.transfer.requester (l.set index failed) = []
      ∨ ∃ rest, tellable g.transfer.requester (l.set index failed) = (g.transfer, o) :: rest := by
  induction l generalizing P index with
  | nil => exact absurd place (by simp)
  | cons x rest ih =>
    obtain ⟨first, later⟩ := law
    cases index with
    | zero =>
      refine .inr ⟨tellable g.transfer.requester rest, ?_⟩
      rw [List.set_cons_zero, tellable, if_pos (by rw [same]), known, same]
    | succ k =>
      rw [List.set_cons_succ, tellable]
      split
      next own =>
        cases held : x.outcome with
        | none => exact .inl rfl
        | some y => exact absurd (own ▸ first (by rw [held]; rfl)) closed
      next other =>
        exact ih later (fun h => h.elim closed fun h => other h.2) (by simpa using place)

end Sys2Proof.Machine
end

section
/-! SUPPORT. A transfer that ends in a link error, as an event (R155, R157, R158). -/

namespace Sys2Proof.Machine

/-- R157: the transfer as its requester is yet to be told. -/
def Granted.failed (cause : FaultCause) (g : Granted) : Granted := { g with timer := .stopped, outcome := some (.error cause) }

/-- R157: State as the link error of a granted transfer is known. -/
def failedAt (index : Nat) (g : Granted) (cause : FaultCause) (s : State) : State :=
  { s with port := { s.port with granted := s.port.granted.set index (g.failed cause) } }

section Fails
variable {s : State} {index : Nat} {g : Granted} {cause : FaultCause} (place : s.port.granted[index]? = some g) (runs : g.outcome = none)
include place runs

theorem endTransfer_error : endTransfer index (.error cause) s =
    tellRequester g.transfer.requester (faultAperture g.transfer cause (failedAt index g cause s)) := by
  have known : (s.onPort fun q => { q with granted := q.granted.modify index fun x => { x with timer := .stopped, outcome := some (.error cause) } })
      = failedAt index g cause s :=
    congrArg (fun l => { s with port := { s.port with granted := l } }) (modify_eq_set place _)
  unfold endTransfer
  rw [place]
  refine (if_neg (by rw [runs]; decide)).trans ?_
  dsimp only
  rw [known]

/-- R155, R158: the event of a transfer that fails. -/
theorem thenSettles_fails {c : Instr} (run : s.part = .run)
    (fails : (c = .transferEnd index .unsuccessful ∧ cause = .unsuccessful) ∨ (c = .transferEnd index .poisoned ∧ cause = .poisoned)
      ∨ (c = .transferNoCompletion index ∧ cause = .noCompletion)) :
    ThenSettles (exec c s) s.quiet (tellRequester g.transfer.requester (faultAperture g.transfer cause (failedAt index g cause s.quiet))) := by
  have reported : ∀ report, outcomeOf g.transfer report = some (.error cause) → transferReported index report s.quiet =
      settle s.quiet (tellRequester g.transfer.requester (faultAperture g.transfer cause (failedAt index g cause s.quiet))) := fun report outcome => by
    unfold transferReported
    rw [show s.quiet.port.granted[index]? = some g from place]
    simp only [outcome, runs, Option.isSome_none, Bool.false_eq_true, if_false]
    rw [endTransfer_error (s := s.quiet) place runs]
  obtain ⟨rfl, rfl⟩ | ⟨rfl, rfl⟩ | ⟨rfl, rfl⟩ := fails
  · exact thenSettles_transferEnd run (reported .unsuccessful rfl)
  · exact thenSettles_transferEnd run (reported .poisoned rfl)
  · have late : transferLate index s.quiet = settle s.quiet
        (tellRequester g.transfer.requester (faultAperture g.transfer .noCompletion (failedAt index g .noCompletion s.quiet))) := by
      unfold transferLate
      rw [show s.quiet.port.granted[index]? = some g from place]
      refine (if_neg (by rw [runs]; decide)).trans ?_
      rw [endTransfer_error (s := s.quiet) place runs]
    exact (event_next (transferLate index) run).trans (congrArg _ (congrArg _ late))

end Fails

/-! ## What the event leaves of the table, the price table and the areas -/

theorem closeEvent_within (before s : State) : AreasWithin s (closeEvent before s) := by
  have sent : ∀ u, AreasWithin u (sendMessage u) := fun u => by
    unfold sendMessage
    split <;> exact .of_tables rfl rfl rfl
  have marked : AreasWithin s (markChanges before s) := .of_tables rfl rfl rfl
  unfold closeEvent interruptOnEdge
  split
  · exact marked.trans (sent _)
  · exact marked

section Told
variable {x : Transfer} {cause : FaultCause} {s : State}

/-- R49: a link error leaves the table in force, whoever is told of it. -/
theorem table_tellFailed {index : Nat} {g : Granted} (place : s.port.granted[index]? = some g)
    (law : OutcomesInOrder s) (own : g.transfer.requester ≠ .load ∨ g.transfer.purpose = .image) {v : State}
    (granted : v.port.granted = s.port.granted.set index (g.failed cause)) :
    (tellRequester g.transfer.requester v).price.table = v.price.table := by
  have known := tellable_first ((outcomesInOrder_iff s).1 law) (fun h => h) place (.error cause) (failed := g.failed cause) rfl rfl
  have tells : ∀ l, tellRequester g.transfer.requester v =
      tellAll (tellable g.transfer.requester v.port.granted) (v.ungranted l) → (tellRequester g.transfer.requester v).price.table = v.price.table :=
    fun l told => by
      have requesters := tellable_requester g.transfer.requester v.port.granted
      rw [told]
      by_cases load : g.transfer.requester = .load
      · rw [granted] at requesters ⊢
        obtain none | ⟨rest, first⟩ := known
        · rw [none]
          rfl
        · rw [first] at requesters ⊢
          have fails : tellOne g.transfer (.error cause) (v.ungranted l) = imageFailed (v.ungranted l) := by
            unfold tellOne
            rw [load, own.resolve_left fun ne => ne load]
          obtain ⟨unloaded, table⟩ := imageFailed_leaves (v.ungranted l)
          change (tellAll rest (tellOne g.transfer (.error cause) (v.ungranted l))).price.table = _
          rw [fails, tellAll_unloaded (fun y mem => (requesters y (List.mem_cons_of_mem _ mem)).trans load) unloaded, table]
          rfl
      · exact congrArg PriceUnit.table (price_tellAll (fun y mem => by rw [requesters y mem]; exact load) (v.ungranted l))
  exact tells _ rfl

end Told

/-- R152, R155, R157, R158: the next state of a failed transfer. -/
theorem failed_leaves {s t : State} {index : Nat} {g : Granted} {cause : FaultCause} (place : s.port.granted[index]? = some g)
    (law : OutcomesInOrder s) (isNext : t = closeEvent s.quiet (settle s.quiet
      (tellRequester g.transfer.requester (faultAperture g.transfer cause (failedAt index g cause s.quiet))))) :
    ((s.aperture g.transfer.aperture).state = .active →
        t.apertures = upd s.apertures g.transfer.aperture (Aperture.faults (faultRecord g.transfer cause s)) ∧ t.useCount g.transfer.aperture = 0)
      ∧ ((s.aperture g.transfer.aperture).state ≠ .active → t.apertures = s.apertures)
      ∧ (g.transfer.requester ≠ .load ∨ g.transfer.purpose = .image → t.price.table = s.price.table) := by
  have granted : (faultAperture g.transfer cause (failedAt index g cause s.quiet)).port.granted = s.port.granted.set index (g.failed cause) :=
    (granted_faultAperture ..).trans rfl
  have told := apertures_tellRequester g.transfer.requester (faultAperture g.transfer cause (failedAt index g cause s.quiet))
  have within := AreasWithin.tellRequester g.transfer.requester (faultAperture g.transfer cause (failedAt index g cause s.quiet))
  have table := fun own => table_tellFailed place law own granted
  have active := faultAperture_leaves (x := g.transfer) (cause := cause) (s := failedAt index g cause s.quiet)
  have inactive := faultAperture_inactive (x := g.transfer) (cause := cause) (s := failedAt index g cause s.quiet)
  have same : (failedAt index g cause s.quiet).apertures = s.apertures ∧ (failedAt index g cause s.quiet).price.table = s.price.table
      ∧ faultRecord g.transfer cause (failedAt index g cause s.quiet) = faultRecord g.transfer cause s
      ∧ (failedAt index g cause s.quiet).aperture g.transfer.aperture = s.aperture g.transfer.aperture := ⟨rfl, rfl, rfl, rfl⟩
  obtain ⟨apertures, tables, record, entry⟩ := same
  rw [entry, apertures, tables, record] at active
  rw [entry] at inactive
  have settled := settled_closeEvent s.quiet s.quiet
    (tellRequester g.transfer.requester (faultAperture g.transfer cause (failedAt index g cause s.quiet)))
  have later := (AreasWithin.settle s.quiet
    (tellRequester g.transfer.requester (faultAperture g.transfer cause (failedAt index g cause s.quiet)))).trans (closeEvent_within s.quiet _)
  rw [← isNext] at settled later
  generalize tellRequester g.transfer.requester (faultAperture g.transfer cause (failedAt index g cause s.quiet)) = u at *
  have kept : t.apertures = u.apertures := apertures_of_steady settled.1
  have tableKept : t.price.table = u.price.table := table_of_steady settled.1
  have fromFault := within.trans later
  have tableFault : (faultAperture g.transfer cause (failedAt index g cause s.quiet)).price.table = s.price.table := by
    by_cases on : (s.aperture g.transfer.aperture).state = .active
    · obtain ⟨-, -, -, -, same⟩ := active on
      exact same
    · rw [inactive on]
      exact tables
  generalize failedAt index g cause s.quiet = w at *
  generalize faultAperture g.transfer cause w = v at *
  have toldSame : u.apertures = v.apertures := told
  refine ⟨fun on => ?_, fun off => ?_, fun own => ?_⟩
  · obtain ⟨faulted, rasters, reads, load, -⟩ := active on
    exact ⟨kept.trans (toldSame.trans faulted), useCount_dead (fun o => (rasters o).within (fromFault.rasters o))
      (fun b => (reads b).within (fromFault.reads b)) (load.within fromFault.load)⟩
  · rw [inactive off] at toldSame
    exact kept.trans (toldSame.trans apertures)
  · exact tableKept.trans ((table own).trans tableFault)

/-- Settles O47. -/
theorem linkErrorsFaultTheAperture : Obligations.LinkErrorsFaultTheAperture := by
  unfold Obligations.LinkErrorsFaultTheAperture
  refine ⟨fun s d address length fits isFits => ?_, fun s => ⟨fun i x rest room line next high => ?_, fun done => grantLoop_done done,
    fun high normal busy => ?_⟩, fun s index g c cause run place runs law fails => ?_⟩
  case refine_1 =>
    have takes : ∀ a, accepts (s.aperture a) d address length = true ↔ fits a := fun a => (accepts_iff _ _ _ _).trans (isFits a).symm
    refine ⟨fun a => ?_, ?_⟩
    · rw [State.findAperture, find?_finRange_some]
      simp only [takes]
    · rw [State.findAperture, find?_finRange_none]
      simp only [takes]
  case refine_2 =>
    obtain ⟨loop, later⟩ := grantLoop_next room line next high
    obtain ⟨port, out, others, half, load, printer⟩ := grantTo_leaves line rfl
    generalize grantTo i s = u at *
    refine ⟨u, loop, by rw [port]; rfl, by rw [port]; exact look_upd_same .., fun j ne => ?_, by rw [port]; rfl, by rw [port]; rfl, out,
      fun b h blocks requester purpose => ?_, fun requester => ?_, printer, others⟩
    · rw [port]
      exact look_upd_ne _ (Ne.symm ne) _
    · obtain ⟨bay, bays, price⟩ := half b h blocks requester purpose
      refine ⟨bay.trans (setHalf_eq _ h), bays, price, ?_⟩
      have writing : writesHalf u b h := by
        rw [writesHalf, bay]
        exact half_setHalf_self _ h
      have still := later.writes b h writing
      unfold writesHalf Bay.half at still
      exact still
    · obtain ⟨price, bays⟩ := load requester
      refine ⟨price, bays, later.price.elim id fun again => again.trans ?_⟩
      rw [price, fetches_fetches]
  case refine_3 => exact (grantLoop_full ⟨high, normal⟩).resolve_left (Nat.not_le.2 busy)
  case refine_4 =>
    have next : exec c s = .next (closeEvent s.quiet (settle s.quiet
        (tellRequester g.transfer.requester (faultAperture g.transfer cause (failedAt index g cause s.quiet))))) :=
      thenSettles_fails place runs run fails
    have ledger := exec_ledger (by obtain ⟨rfl, -⟩ | ⟨rfl, -⟩ | ⟨rfl, -⟩ := fails <;> rfl) next
    obtain ⟨active, inactive, table⟩ := failed_leaves place law rfl
    generalize closeEvent s.quiet (settle s.quiet
      (tellRequester g.transfer.requester (faultAperture g.transfer cause (failedAt index g cause s.quiet)))) = t at *
    have entry : ∀ a, t.aperture a = look t.apertures a := fun _ => rfl
    refine ⟨t, next, fun on => ?_, fun off => ?_, fun a ne => ?_, clock_of_ledger ledger, timers_of_ledger ledger, table⟩
    · obtain ⟨faulted, dead⟩ := active on
      rw [entry, faulted, look_upd_same]
      exact ⟨rfl, rfl, dead⟩
    · rw [entry, inactive off]
      rfl
    · by_cases on : (s.aperture g.transfer.aperture).state = .active
      · rw [entry, (active on).1]
        exact look_upd_ne _ (Ne.symm ne) _
      · rw [entry, inactive on]
        rfl

end Sys2Proof.Machine
end

section
/-! SUPPORT. What the death of an aperture's rasters does to the orders and to the copies in flight (R40, R91, R98). -/

namespace Sys2Proof.Machine

/-! ## The orders that step 4 of R158 visits, one after another -/

theorem forEach_filter {α : Type} (f : α → State → State) (p : α → Bool) (l : List α) (s : State) :
    forEach (l.filter p) f s = forEach l (fun x u => if p x = true then f x u else u) s := by
  induction l generalizing s with
  | nil => rfl
  | cons x rest ih =>
    rw [forEach_cons]
    by_cases passes : p x = true
    · rw [List.filter_cons_of_pos passes, forEach_cons, if_pos passes, ih]
    · rw [List.filter_cons_of_neg passes, if_neg passes, ih]

/-- R40: the effect of an aperture's fault on one order, by the items of it that are marked. -/
def markOrder (marks : OrderId → List Nat) (o : OrderId) (s : State) : State :=
  if (marks o).isEmpty = true then s else markEffect (o, marks o) s

theorem killRasters_orders (a : ApertureId) (s : State) :
    killRasters a s = forEach (List.finRange 32) (markOrder fun o => markedItems (s.order o) a) (marksItems a s) := by
  have every := forEach_map (fun o => (o, markedItems (s.order o) a))
    (fun x u => if (!x.2.isEmpty) = true then markEffect x u else u) (List.finRange 32) (marksItems a s)
  rw [killRasters_eq, ordersMarked, forEach_filter, ← every]
  refine congrArg (fun f => forEach (List.finRange 32) f (marksItems a s)) (funext fun o => funext fun u => ?_)
  unfold markOrder
  cases (markedItems (s.order o) a).isEmpty <;> rfl

/-! ## The marks of an order (R40) -/

/-- R40: the items whose rasters die. -/
def RasterHit (a : ApertureId) (r : Order) (i : Item) : Prop := rasterLive r i = true ∧ i.aperture = a

theorem rasterHit_iff {a : ApertureId} {r : Order} {i : Item} : RasterHit a r i ↔ r.state ≠ .free ∧ r.state ≠ .closed ∧ r.state ≠ .cancelled
    ∧ (i.state = .pending ∨ i.state = .active) ∧ i.aperture = a := by
  unfold RasterHit rasterLive nonFinal
  simp only [Bool.and_eq_true, Bool.or_eq_true, bne_iff_ne, beq_iff_eq, ne_eq, and_assoc]

theorem mem_markedItems {a : ApertureId} {r : Order} {k : Nat} : k ∈ markedItems r a ↔ ∃ i, r.items[k]? = some i ∧ RasterHit a r i := by
  unfold markedItems RasterHit
  rw [List.mem_filter]
  cases here : r.items[k]? with
  | none => simp
  | some i =>
    obtain ⟨within, -⟩ := List.getElem?_eq_some_iff.1 here
    simp [within]

theorem markedItems_empty {a : ApertureId} {r : Order} : (markedItems r a).isEmpty = true ↔ ∀ i ∈ r.items, ¬RasterHit a r i := by
  rw [List.isEmpty_iff, List.eq_nil_iff_forall_not_mem]
  refine ⟨fun none i mem hit => ?_, fun none k mem => ?_⟩
  · obtain ⟨k, here⟩ := List.getElem?_of_mem mem
    exact none k (mem_markedItems.2 ⟨i, here, hit⟩)
  · obtain ⟨i, here, hit⟩ := mem_markedItems.1 mem
    exact none i (List.mem_of_getElem? here) hit

theorem markItem_hit {a : ApertureId} {r : Order} {i : Item} (hit : RasterHit a r i) : markItem r a i = { i with state := .unprintable } :=
  if_pos hit

theorem markItem_missed {a : ApertureId} {r : Order} {i : Item} (missed : ¬RasterHit a r i) : markItem r a i = i := if_neg missed

/-- The item list with the marks set, by its positions. -/
theorem map_markItem {a : ApertureId} {r : Order} {marked : List Item} (length : marked.length = r.items.length)
    (items : ∀ (k : Nat) i, r.items[k]? = some i → (RasterHit a r i → marked[k]? = some { i with state := .unprintable })
      ∧ (¬RasterHit a r i → marked[k]? = some i)) : r.items.map (markItem r a) = marked := by
  refine List.ext_getElem? fun k => ?_
  rw [List.getElem?_map]
  cases here : r.items[k]? with
  | none =>
    rw [Option.map_none, List.getElem?_eq_none]
    rw [length]
    exact List.getElem?_eq_none_iff.1 here
  | some i =>
    rw [Option.map_some]
    by_cases hit : RasterHit a r i
    · rw [markItem_hit hit, (items k i here).1 hit]
    · rw [markItem_missed hit, (items k i here).2 hit]

/-! ## The effect on one order -/

/-- The states of an order with copies to print. -/
def Order.prints (r : Order) : Bool := r.state == .paid || r.state == .printing || r.state == .held

theorem prints_iff {r : Order} : r.prints = true ↔ r.state = .paid ∨ r.state = .printing ∨ r.state = .held := by
  simp only [Order.prints, Bool.or_eq_true, beq_iff_eq, or_assoc]

/-- R40, R91: the retry note that is left beside the items marked. -/
def noteLeft (marks : List Nat) (n : Option Nat) : Option Nat := n.filter fun k => !marks.contains k

/-- R40: a PRICED order as it goes back to DRAFT. -/
def Order.unpriced (r : Order) : Order :=
  { r with state := .draft, hold := .none, placement := none, prices := none, draftReason := some .unprintable }

theorem dropNote_eq (o : OrderId) (marks : List Nat) (s : State) : dropNote o marks s = s.onNote o (noteLeft marks) := by
  refine congrArg (s.onNote o) (funext fun n => ?_)
  cases n with
  | none => rfl
  | some k =>
    cases marks.contains k <;> simp [noteLeft, Option.filter]

section Effect
variable {o : OrderId} {marks : List Nat} {s : State}

theorem markEffect_priced (state : (s.order o).state = .priced) :
    markEffect (o, marks) s = (s.onNote o (noteLeft marks)).onOrder o Order.unpriced := by
  unfold markEffect
  dsimp only
  rw [dropNote_eq, show ((s.onNote o (noteLeft marks)).order o).state = .priced from state]
  rfl

theorem markEffect_prints (prints : (s.order o).prints = true) : markEffect (o, marks) s =
    settlementCheck o (abortMarked 1 o marks (abortMarked 0 o marks (s.onNote o (noteLeft marks)))) := by
  unfold markEffect
  dsimp only
  rw [dropNote_eq]
  obtain state | state | state := prints_iff.1 prints <;> rw [show ((s.onNote o (noteLeft marks)).order o).state = _ from state]

theorem markEffect_others (priced : (s.order o).state ≠ .priced) (prints : (s.order o).prints = false) :
    markEffect (o, marks) s = s.onNote o (noteLeft marks) := by
  unfold markEffect
  dsimp only
  rw [dropNote_eq]
  have idle : ¬((s.order o).state = .paid ∨ (s.order o).state = .printing ∨ (s.order o).state = .held) := fun works =>
    Bool.false_ne_true (prints.symm.trans (prints_iff.2 works))
  split
  next state => exact absurd state priced
  next state => exact absurd (.inl state) idle
  next state => exact absurd (.inr (.inl state)) idle
  next state => exact absurd (.inr (.inr state)) idle
  · rfl

end Effect

/-! ## The copies of marked items (R98) -/

section Abort
variable (p : PrinterId) (o : OrderId) (marks : List Nat) (s : State)

/-- R98: a copy in flight of an item that is marked is aborted. -/
def Copy.marked (clock : W32) (c : Copy) : Copy := if c.order = o ∧ marks.contains c.item = true then c.aborting clock else c

theorem abortMarked_cases : abortMarked p o marks s = s ∨ abortMarked p o marks s = abortCopy p .aborted s := by
  unfold abortMarked
  split
  · split
    · exact .inr rfl
    · exact .inl rfl
  · exact .inl rfl

theorem copy_abortMarked (q : PrinterId) : ((abortMarked p o marks s).printer q).copy =
    if p = q then (s.printer q).copy.map (Copy.marked o marks s.clock) else (s.printer q).copy := by
  cases copy : (s.printer p).copy with
  | none =>
    have same : abortMarked p o marks s = s := by
      unfold abortMarked
      rw [copy]
    rw [same]
    split
    next own => rw [← own, copy]; rfl
    · rfl
  | some c =>
    have eq : abortMarked p o marks s = if c.order = o ∧ marks.contains c.item = true then abortCopy p .aborted s else s := by
      unfold abortMarked
      rw [copy]
    by_cases own : p = q
    · subst own
      rw [if_pos rfl, eq, copy, Option.map_some, Copy.marked]
      split
      · exact copy_abortCopy copy |>.1
      · exact copy
    · rw [if_neg own, eq]
      split
      · rw [printer_abortCopy_ne copy (Ne.symm own)]
      · rfl

theorem abortCopy_rest : { abortCopy p .aborted s with printers := s.printers, out := s.out, port := s.port } = s := by
  cases copy : (s.printer p).copy with
  | none => rw [abortCopy_idle copy]
  | some c =>
    cases aborts : c.abortCause with
    | none => rw [abortCopy_running copy aborts]; rfl
    | some was => rw [abortCopy_aborting copy aborts]

theorem abortMarked_rest : { abortMarked p o marks s with printers := s.printers, out := s.out, port := s.port } = s := by
  obtain same | aborts := abortMarked_cases p o marks s
  · rw [same]
  · rw [aborts]
    exact abortCopy_rest p s

/-- R98: both printers' copies of the items marked are aborted. -/
def abortBoth : State := abortMarked 1 o marks (abortMarked 0 o marks s)

theorem abortBoth_rest : { abortBoth o marks s with printers := s.printers, out := s.out, port := s.port } = s := by
  have first := abortMarked_rest 0 o marks s
  have second := abortMarked_rest 1 o marks (abortMarked 0 o marks s)
  unfold abortBoth
  generalize abortMarked 0 o marks s = t at *
  exact (congrArg (fun u : State => { u with printers := s.printers, out := s.out, port := s.port }) second).trans first

theorem copy_abortBoth (q : PrinterId) :
    ((abortBoth o marks s).printer q).copy = (s.printer q).copy.map (Copy.marked o marks s.clock) := by
  have clock : (abortMarked 0 o marks s).clock = s.clock := (congrArg State.clock (abortMarked_rest 0 o marks s) :)
  have first := copy_abortMarked 0 o marks s q
  rw [abortBoth, copy_abortMarked, clock, first]
  obtain rfl | rfl : q = 0 ∨ q = 1 := (by decide : ∀ p : PrinterId, p = 0 ∨ p = 1) q
  · rw [if_neg (by decide), if_pos rfl]
  · rw [if_pos rfl, if_neg (by decide)]

end Abort

/-! ## What one order's effect changes, and what it leaves -/

/-! ## What one order's effect changes, and what it leaves -/

section Check
variable (o : OrderId) (s : State)

theorem settlementCheck_ends (prints : (s.order o).prints = true) (finished : finishedPrinting (s.order o) = true) :
    settlementCheck o s = settlementTrigger o s := if_pos ⟨prints_iff.1 prints, finished⟩

/-- R35: the order that a settlement check may close, and its retry note. -/
theorem tables_settlementCheck (prints : (s.order o).prints = true) :
    (settlementCheck o s).order o = (if finishedPrinting (s.order o) = true then (s.order o).triggered s.clock else s.order o)
      ∧ (settlementCheck o s).note o = if finishedPrinting (s.order o) = true then none else s.note o := by
  by_cases finished : finishedPrinting (s.order o) = true
  · obtain ⟨orders, notes⟩ := settlementTrigger_tables o s
    rw [settlementCheck_ends o s prints finished, if_pos finished, if_pos finished, State.order, State.note, orders, notes, look_upd_same,
      look_upd_same]
    exact ⟨rfl, rfl⟩
  · rw [settlementCheck_prints (by simpa using finished), if_neg finished, if_neg finished]
    exact ⟨rfl, rfl⟩

theorem otherOrder_settlementCheck {x : OrderId} (other : o ≠ x) :
    (settlementCheck o s).order x = s.order x ∧ (settlementCheck o s).note x = s.note x := by
  unfold settlementCheck
  dsimp only
  split
  · obtain ⟨orders, notes⟩ := settlementTrigger_tables o s
    rw [State.order, State.note, orders, notes]
    exact ⟨look_upd_ne _ other _, look_upd_ne _ other _⟩
  · exact ⟨rfl, rfl⟩

theorem copy_settlementCheck (p : PrinterId) : ((settlementCheck o s).printer p).copy = (s.printer p).copy :=
  (congrArg Printer.copy (unqueued_of_besides (besides_settlementCheck o s) p) :)

end Check

section Step
variable (o : OrderId) (marks : List Nat) (s : State)

/-- R35, R40: an order, its retry note and its copies in flight once its marked items have taken effect. -/
def markedOwn (clock : W32) (v : Order × Option Nat × (PrinterId → Option Copy)) : Order × Option Nat × (PrinterId → Option Copy) :=
  if v.1.prints = true then
    (if finishedPrinting v.1 = true then v.1.triggered clock else v.1,
     if finishedPrinting v.1 = true then none else noteLeft marks v.2.1,
     fun p => (v.2.2 p).map (Copy.marked o marks clock))
  else (if v.1.state = .priced then v.1.unpriced else v.1, noteLeft marks v.2.1, v.2.2)

/-- An order, its retry note and its copies in flight. -/
def orderView (s : State) (o : OrderId) : Order × Option Nat × (PrinterId → Option Copy) :=
  (s.order o, s.note o, fun p => (s.printer p).copy.filter fun c => decide (c.order = o))

theorem filter_marked (x : OrderId) (c : Option Copy) (clock : W32) :
    (c.map (Copy.marked o marks clock)).filter (fun d => decide (d.order = x)) =
      if o = x then (c.filter fun d => decide (d.order = x)).map (Copy.marked o marks clock) else c.filter fun d => decide (d.order = x) := by
  cases c with
  | none => split <;> rfl
  | some d =>
    have order : (Copy.marked o marks clock d).order = d.order := by
      unfold Copy.marked Copy.aborting
      (repeat' split) <;> rfl
    rw [Option.map_some]
    by_cases inX : d.order = x
    · have kept : ∀ e : Copy, e.order = d.order → (some e).filter (fun d => decide (d.order = x)) = some e := fun e same => by
        simp [Option.filter, same, inX]
      rw [kept _ order, kept d rfl]
      split
      · rfl
      next other =>
        rw [Copy.marked, if_neg fun both => other (both.1.symm.trans inX)]
    · have dropped : ∀ e : Copy, e.order = d.order → (some e).filter (fun d => decide (d.order = x)) = none := fun e same => by
        simp [Option.filter, same, inX]
      rw [dropped _ order, dropped d rfl]
      split <;> rfl

/-- What the abort of an order's copies leaves of every order. -/
theorem orderView_abortBoth (x : OrderId) : (abortBoth o marks s).order x = s.order x ∧ (abortBoth o marks s).note x = s.note x
    ∧ (abortBoth o marks s).clock = s.clock := by
  have rest := abortBoth_rest o marks s
  exact ⟨(congrArg (fun u : State => u.order x) rest :), (congrArg (fun u : State => u.note x) rest :), (congrArg State.clock rest :)⟩

theorem markEffect_own : orderView (markEffect (o, marks) s) o = markedOwn o marks s.clock (orderView s o) := by
  by_cases prints : (s.order o).prints = true
  · rw [markEffect_prints prints]
    obtain ⟨order, note, clock⟩ := orderView_abortBoth o marks (s.onNote o (noteLeft marks)) o
    have copies := copy_abortBoth o marks (s.onNote o (noteLeft marks))
    change orderView (settlementCheck o (abortBoth o marks _)) o = _
    generalize abortBoth o marks (s.onNote o (noteLeft marks)) = u at *
    have sameOrder : u.order o = s.order o := order
    have noteNow : u.note o = noteLeft marks (s.note o) := note.trans (note_onNote_same ..)
    have sameClock : u.clock = s.clock := clock
    obtain ⟨closes, notes⟩ := tables_settlementCheck o u (by rw [sameOrder]; exact prints)
    rw [sameOrder, sameClock] at closes
    rw [sameOrder, noteNow] at notes
    have prints' : (orderView s o).1.prints = true := prints
    rw [markedOwn, if_pos prints', orderView, closes, notes]
    refine Prod.ext rfl (Prod.ext rfl (funext fun p => ?_))
    dsimp only
    rw [copy_settlementCheck, copies, filter_marked, if_pos rfl]
    rfl
  · have idle : (s.order o).prints = false := by simpa using prints
    have prints' : ¬(orderView s o).1.prints = true := prints
    rw [markedOwn, if_neg prints']
    by_cases priced : (s.order o).state = .priced
    · rw [markEffect_priced priced, if_pos (show (orderView s o).1.state = .priced from priced), orderView, order_onOrder_same]
      exact Prod.ext rfl (Prod.ext (note_onNote_same s o _) rfl)
    · rw [markEffect_others priced idle, if_neg (show (orderView s o).1.state ≠ .priced from priced), orderView]
      exact Prod.ext rfl (Prod.ext (note_onNote_same s o _) rfl)

theorem markEffect_other {x : OrderId} (other : o ≠ x) : orderView (markEffect (o, marks) s) x = orderView s x := by
  by_cases prints : (s.order o).prints = true
  · rw [markEffect_prints prints]
    obtain ⟨order, note, clock⟩ := orderView_abortBoth o marks (s.onNote o (noteLeft marks)) x
    have copies := copy_abortBoth o marks (s.onNote o (noteLeft marks))
    change orderView (settlementCheck o (abortBoth o marks _)) x = _
    generalize abortBoth o marks (s.onNote o (noteLeft marks)) = u at *
    have sameOrder : u.order x = s.order x := order
    have noteNow : u.note x = s.note x := note.trans (note_onNote_ne s other _)
    obtain ⟨stays, notes⟩ := otherOrder_settlementCheck o u other
    rw [orderView, stays, notes, sameOrder, noteNow]
    refine Prod.ext rfl (Prod.ext rfl (funext fun p => ?_))
    dsimp only
    rw [copy_settlementCheck, copies, filter_marked, if_neg other]
    rfl
  · have idle : (s.order o).prints = false := by simpa using prints
    have note : (s.onNote o (noteLeft marks)).note x = s.note x := note_onNote_ne s other _
    by_cases priced : (s.order o).state = .priced
    · rw [markEffect_priced priced, orderView, order_onOrder_ne _ other]
      exact Prod.ext rfl (Prod.ext note rfl)
    · rw [markEffect_others priced idle]
      exact Prod.ext rfl (Prod.ext note rfl)

/-- R158: what no order's effect reaches. -/
def State.unmarked (s : State) : State :=
  { s with orders := State.reset.orders, sessions := State.reset.sessions, stations := State.reset.stations, unitChanged := 0, heldList := [],
           retryNotes := State.reset.retryNotes, printers := State.reset.printers, out := [], port := State.reset.port,
           terminal := { s.terminal with pendingSettlements := [] } }

theorem unmarked_of_besides {s t : State} (same : t.besides = s.besides) : t.unmarked = s.unmarked :=
  (congrArg State.unmarked same : t.besides.unmarked = s.besides.unmarked)

theorem unmarked_markEffect : (markEffect (o, marks) s).unmarked = s.unmarked := by
  by_cases prints : (s.order o).prints = true
  · rw [markEffect_prints prints]
    have aborts := (congrArg State.unmarked (abortBoth_rest o marks (s.onNote o (noteLeft marks))) :)
    exact (unmarked_of_besides (besides_settlementCheck o _)).trans (aborts.trans rfl)
  · have idle : (s.order o).prints = false := by simpa using prints
    by_cases priced : (s.order o).state = .priced
    · rw [markEffect_priced priced]
      rfl
    · rw [markEffect_others priced idle]
      rfl

end Step

/-! ## The settlements that wait, and the aborts that are sent -/

section Waits
variable {o : OrderId} {s : State}

theorem pending_settlementTrigger : (settlementTrigger o s).terminal.pendingSettlements =
    if orderTotal (s.order o) = 0 then s.terminal.pendingSettlements
    else insertSettlement { order := o, attempts := 0 } s.terminal.pendingSettlements := by
  obtain ⟨-, terminal, -⟩ := leavesPrinting_keeps o s
  have closes := settlementTrigger_free (o := o) (s := s)
  have settles := settlementTrigger_due (o := o) (s := s)
  generalize leavesPrinting o s = u at *
  split
  next free =>
    rw [closes free, terminal_of_beyond (beyond_reportFinal o _), terminal_of_beyond (beyond_lampsIfHeld _ _), ← terminal]
    rfl
  next due =>
    rw [settles due, terminal_of_beyond (beyond_lampsIfHeld _ _), ← terminal]
    rfl

/-- R35: an order that is SETTLING has its settlement wait. -/
def SettlementWaits (o : OrderId) (s : State) : Prop :=
  (s.order o).state = .settling → { order := o, attempts := 0 } ∈ s.terminal.pendingSettlements

theorem pending_settlementCheck {e : PendingSettlement} (mem : e ∈ s.terminal.pendingSettlements) :
    e ∈ (settlementCheck o s).terminal.pendingSettlements := by
  unfold settlementCheck
  dsimp only
  split
  · rw [pending_settlementTrigger]
    split
    · exact mem
    · exact (mem_insertSettlement_iff _ _ _).2 (.inr mem)
  · exact mem

theorem waits_settlementCheck (prints : (s.order o).prints = true) : SettlementWaits o (settlementCheck o s) := fun settling => by
  obtain ⟨order, -⟩ := tables_settlementCheck o s prints
  rw [order] at settling
  by_cases finished : finishedPrinting (s.order o) = true
  · rw [if_pos finished, Order.triggered] at settling
    rw [settlementCheck_ends o s prints finished, pending_settlementTrigger]
    split
    next free => rw [if_pos free] at settling; exact absurd settling (by simp)
    · exact mem_insertSettlement _ _
  · rw [if_neg finished] at settling
    exact absurd prints (by simp [Order.prints, settling])

theorem pending_markEffect {e : PendingSettlement} (marks : List Nat) (mem : e ∈ s.terminal.pendingSettlements) :
    e ∈ (markEffect (o, marks) s).terminal.pendingSettlements := by
  by_cases prints : (s.order o).prints = true
  · rw [markEffect_prints prints]
    have terminal := (congrArg State.terminal (abortBoth_rest o marks (s.onNote o (noteLeft marks))) :)
    refine pending_settlementCheck (s := abortBoth o marks (s.onNote o (noteLeft marks))) ?_
    have same : (abortBoth o marks (s.onNote o (noteLeft marks))).terminal = s.terminal := terminal
    rw [same]
    exact mem
  · have idle : (s.order o).prints = false := by simpa using prints
    by_cases priced : (s.order o).state = .priced
    · rw [markEffect_priced priced]
      exact mem
    · rw [markEffect_others priced idle]
      exact mem

theorem waits_markEffect {x : OrderId} (marks : List Nat) (waits : SettlementWaits o s) : SettlementWaits o (markEffect (x, marks) s) := by
  by_cases own : x = o
  · subst own
    by_cases prints : (s.order x).prints = true
    · rw [markEffect_prints prints]
      obtain ⟨order, -⟩ := orderView_abortBoth x marks (s.onNote x (noteLeft marks)) x
      exact waits_settlementCheck (s := abortBoth x marks (s.onNote x (noteLeft marks))) (by rw [order]; exact prints)
    · have idle : (s.order x).prints = false := by simpa using prints
      by_cases priced : (s.order x).state = .priced
      · rw [markEffect_priced priced]
        intro settling
        rw [order_onOrder_same] at settling
        exact absurd settling (by simp [Order.unpriced])
      · rw [markEffect_others priced idle]
        exact waits
  · intro settling
    have order : (markEffect (x, marks) s).order o = s.order o := congrArg Prod.fst (markEffect_other x marks s own)
    rw [order] at settling
    exact pending_markEffect marks (waits settling)

/-- R98: a copy in flight goes on, or its abort is sent and what its printer asked for is withdrawn. -/
def AbortTold (p : PrinterId) (c : Copy) (s : State) : Prop :=
  (s.printer p).copy = some c ∨ (.abortCopy p c.id ∈ s.out ∧ look s.port.lines (requesterIndex (.printer p)) = [])

section Told
variable {p : PrinterId} {c : Copy} (runs : c.abortCause = none) (told : AbortTold p c s)

theorem AbortTold.of_same {t : State} (copy : (t.printer p).copy = (s.printer p).copy) (out : t.out = s.out) (port : t.port = s.port)
    (told : AbortTold p c s) : AbortTold p c t := by
  unfold AbortTold
  rw [copy, out, port]
  exact told

include runs told

theorem told_abortCopy (q : PrinterId) : AbortTold p c (abortCopy q .aborted s) := by
  cases copy : (s.printer q).copy with
  | none => rwa [abortCopy_idle copy]
  | some d =>
    cases aborts : d.abortCause with
    | some was => rwa [abortCopy_aborting copy aborts]
    | none =>
      by_cases own : q = p
      · subst own
        rw [abortCopy_running copy aborts]
        refine .inr ⟨?_, look_upd_same ..⟩
        obtain goesOn | ⟨sent, -⟩ := told
        · obtain rfl : d = c := Option.some.inj (copy.symm.trans goesOn)
          exact List.mem_append_right _ (List.mem_singleton_self _)
        · exact List.mem_append_left _ sent
      · have printer := printer_abortCopy_ne copy (Ne.symm own)
        refine told.imp (fun goesOn => by rw [printer]; exact goesOn) fun ⟨sent, empty⟩ => ?_
        rw [abortCopy_running copy aborts]
        have apart : requesterIndex (.printer q) ≠ requesterIndex (.printer p) := fun same =>
          own (Fin.ext (by simpa [requesterIndex] using same))
        exact ⟨List.mem_append_left _ sent, (look_upd_ne _ apart _).trans empty⟩

theorem told_abortMarked (q : PrinterId) (marks : List Nat) : AbortTold p c (abortMarked q o marks s) := by
  obtain same | aborts := abortMarked_cases q o marks s
  · rwa [same]
  · rw [aborts]
    exact told_abortCopy runs told q

theorem told_markEffect (marks : List Nat) : AbortTold p c (markEffect (o, marks) s) := by
  have noted : AbortTold p c (s.onNote o (noteLeft marks)) := told.of_same rfl rfl rfl
  by_cases prints : (s.order o).prints = true
  · rw [markEffect_prints prints]
    have both := told_abortMarked (o := o) runs (told_abortMarked (o := o) runs noted 0 marks) 1 marks
    have besides := besides_settlementCheck o (abortMarked 1 o marks (abortMarked 0 o marks (s.onNote o (noteLeft marks))))
    exact both.of_same (copy_settlementCheck o _ p) (out_of_besides besides) (congrArg State.port besides :)
  · have idle : (s.order o).prints = false := by simpa using prints
    by_cases priced : (s.order o).state = .priced
    · rw [markEffect_priced priced]
      exact noted.of_same rfl rfl rfl
    · rw [markEffect_others priced idle]
      exact noted

end Told

end Waits

/-! ## The whole step (R158, step 4) -/

section Whole
variable (a : ApertureId) (s : State)

/-- A part of State that each order's effect keeps. -/
theorem killRasters_keeps {β : Type} (view : State → β) (kept : ∀ o marks u, view (markEffect (o, marks) u) = view u) :
    view (killRasters a s) = view (marksItems a s) := by
  rw [killRasters_eq]
  exact forEach_keeps view markEffect (fun x u => kept x.1 x.2 u) (ordersMarked a s) (marksItems a s)

/-- A law that each order's effect keeps. -/
theorem killRasters_law (law : State → Prop) (kept : ∀ o marks u, law u → law (markEffect (o, marks) u)) (before : law (marksItems a s)) :
    law (killRasters a s) := by
  rw [killRasters_eq]
  exact forEach_invariant law markEffect (fun x u holds => kept x.1 x.2 u holds) (ordersMarked a s) (marksItems a s) before

theorem killRasters_view (o : OrderId) : orderView (killRasters a s) o =
    if (markedItems (s.order o) a).isEmpty = true then orderView (marksItems a s) o
    else markedOwn o (markedItems (s.order o) a) s.clock (orderView (marksItems a s) o) := by
  have clock : ∀ x u, (markEffect x u).clock = u.clock := fun x u => (congrArg State.clock (unmarked_markEffect x.1 x.2 u) :)
  rw [killRasters_orders]
  refine forEach_all (markOrder fun x => markedItems (s.order x) a) orderView
    (fun x v => if (markedItems (s.order x) a).isEmpty = true then v else markedOwn x (markedItems (s.order x) a) s.clock v)
    (fun u => u.clock = s.clock) (fun x u same => ?_) (fun x u same => ?_) (fun x y u same other => ?_) (marksItems a s) rfl o
  · unfold markOrder
    split
    · exact same
    · exact (clock _ u).trans same
  · unfold markOrder
    split
    · rfl
    · rw [markEffect_own, same]
  · unfold markOrder
    split
    · rfl
    · exact markEffect_other x _ u other

end Whole

end Sys2Proof.Machine
end

section
/-! SUPPORT. What the death of an aperture's rasters leaves of each order and each copy (R40, R91, R98). -/

namespace Sys2Proof.Machine

section Rasters
variable {a : ApertureId} {s : State}

/-- R40: an order with its dead items marked. -/
def Order.struck (a : ApertureId) (r : Order) : Order := { r with items := r.items.map (markItem r a) }

theorem order_struck (o : OrderId) : (marksItems a s).order o = (s.order o).struck a := order_marksItems a s o

theorem struck_missed {r : Order} (missed : ∀ i ∈ r.items, ¬RasterHit a r i) : r.struck a = r := by
  have same : r.items.map (markItem r a) = r.items := by
    refine (List.map_congr_left fun i mem => ?_).trans (List.map_id r.items)
    exact markItem_missed (missed i mem)
  rw [Order.struck, same]

theorem view_missed {o : OrderId} (missed : ∀ i ∈ (s.order o).items, ¬RasterHit a (s.order o) i) :
    orderView (killRasters a s) o = orderView s o := by
  rw [killRasters_view, if_pos (markedItems_empty.2 missed)]
  exact Prod.ext ((order_struck o).trans (struck_missed missed)) rfl

theorem view_struck {o : OrderId} (struck : ∃ i ∈ (s.order o).items, RasterHit a (s.order o) i) : orderView (killRasters a s) o =
    markedOwn o (markedItems (s.order o) a) s.clock ((s.order o).struck a, s.note o, (orderView s o).2.2) := by
  rw [killRasters_view, if_neg]
  · rw [← order_struck]
    rfl
  · intro empty
    obtain ⟨i, mem, hit⟩ := struck
    exact markedItems_empty.1 empty i mem hit

section Orders
variable {o : OrderId}

theorem order_missed (missed : ∀ i ∈ (s.order o).items, ¬RasterHit a (s.order o) i) :
    (killRasters a s).order o = s.order o ∧ (killRasters a s).note o = s.note o :=
  have view := view_missed missed
  ⟨congrArg (fun v => v.1) view, congrArg (fun v => v.2.1) view⟩

/-- R40: an order whose state carries no copies keeps it. -/
theorem order_kept (priced : (s.order o).state ≠ .priced) (prints : (s.order o).prints = false) :
    (killRasters a s).order o = (s.order o).struck a := by
  by_cases struck : ∃ i ∈ (s.order o).items, RasterHit a (s.order o) i
  · have own := congrArg (fun v => v.1) (view_struck struck)
    rw [markedOwn, if_neg (show ¬((s.order o).struck a).prints = true from fun works => Bool.false_ne_true (prints.symm.trans works)),
      if_neg (show ((s.order o).struck a).state ≠ .priced from priced)] at own
    exact own
  · have missed : ∀ i ∈ (s.order o).items, ¬RasterHit a (s.order o) i := fun i mem hit => struck ⟨i, mem, hit⟩
    rw [(order_missed missed).1, struck_missed missed]

variable (struck : ∃ i ∈ (s.order o).items, RasterHit a (s.order o) i)
include struck

theorem order_unpriced (priced : (s.order o).state = .priced) : (killRasters a s).order o = ((s.order o).struck a).unpriced := by
  have own := congrArg (fun v => v.1) (view_struck struck)
  have idle : ((s.order o).struck a).prints = false := by
    unfold Order.prints
    rw [show ((s.order o).struck a).state = .priced from priced]
    rfl
  rw [markedOwn, if_neg (fun works => Bool.false_ne_true (idle.symm.trans works)),
    if_pos (show ((s.order o).struck a).state = .priced from priced)] at own
  exact own

/-- R35, R40: an order that prints settles if nothing of it remains. -/
theorem order_printing (prints : (s.order o).prints = true) : (killRasters a s).order o =
    if finishedPrinting ((s.order o).struck a) = true then ((s.order o).struck a).triggered s.clock else (s.order o).struck a := by
  have own := congrArg (fun v => v.1) (view_struck struck)
  rw [markedOwn, if_pos (show ((s.order o).struck a).prints = true from prints)] at own
  exact own

omit struck in
/-- R91: the retry note of a marked item goes. -/
theorem note_struck {k : Nat} {i : Item} (noted : s.note o = some k) (here : (s.order o).items[k]? = some i)
    (hit : RasterHit a (s.order o) i) : (killRasters a s).note o = none := by
  have own := congrArg (fun v => v.2.1) (view_struck ⟨i, List.mem_of_getElem? here, hit⟩)
  have left : noteLeft (markedItems (s.order o) a) (s.note o) = none := by
    have marked : k ∈ markedItems (s.order o) a := mem_markedItems.2 ⟨i, here, hit⟩
    simp [noted, noteLeft, Option.filter, marked]
  refine own.trans ?_
  unfold markedOwn
  dsimp only
  rw [left]
  split
  · exact ite_self none
  · rfl

end Orders

section Copies
variable {p : PrinterId}

/-- R98: the copies of an order in flight. -/
theorem copies_killRasters (o : OrderId) : (orderView (killRasters a s) o).2.2 p =
    if (s.order o).prints = true then ((orderView s o).2.2 p).map (Copy.marked o (markedItems (s.order o) a) s.clock)
    else (orderView s o).2.2 p := by
  by_cases struck : ∃ i ∈ (s.order o).items, RasterHit a (s.order o) i
  · rw [view_struck struck]
    unfold markedOwn
    by_cases prints : (s.order o).prints = true
    · rw [if_pos (show ((s.order o).struck a).prints = true from prints), if_pos prints]
    · rw [if_neg (show ¬((s.order o).struck a).prints = true from prints), if_neg prints]
  · have missed : ∀ i ∈ (s.order o).items, ¬RasterHit a (s.order o) i := fun i mem hit => struck ⟨i, mem, hit⟩
    have none : markedItems (s.order o) a = [] := List.isEmpty_iff.1 (markedItems_empty.2 missed)
    have same : Copy.marked o [] s.clock = id := funext fun c => if_neg fun both => by simp at both
    rw [view_missed missed, none, same, Option.map_id, id, ite_self]

theorem copyView_some {t : State} {o : OrderId} {c : Copy} :
    (orderView t o).2.2 p = some c ↔ (t.printer p).copy = some c ∧ c.order = o := by
  unfold orderView
  rw [Option.filter_eq_some_iff, decide_eq_true_iff]

theorem copy_none (idle : (s.printer p).copy = none) : ((killRasters a s).printer p).copy = none := by
  cases now : ((killRasters a s).printer p).copy with
  | none => rfl
  | some c =>
    have view := copies_killRasters (a := a) (s := s) (p := p) c.order
    have before : (orderView s c.order).2.2 p = none :=
      congrArg (fun d => d.filter fun e => decide (e.order = c.order)) idle
    rw [copyView_some.2 ⟨now, rfl⟩, before, Option.map_none, ite_self] at view
    exact absurd view (by simp)

variable {c : Copy} (copy : (s.printer p).copy = some c)
include copy

theorem copy_after : ((killRasters a s).printer p).copy =
    some (if (s.order c.order).prints = true then c.marked c.order (markedItems (s.order c.order) a) s.clock else c) := by
  have view := copies_killRasters (a := a) (s := s) (p := p) c.order
  rw [copyView_some.2 ⟨copy, rfl⟩, Option.map_some, ← apply_ite] at view
  exact (copyView_some.1 view).1

variable {i : Item} (here : (s.order c.order).items[c.item]? = some i)
include here

/-- R98: a copy that goes on, or whose item is not marked, stays as it is. -/
theorem copy_left (left : c.abortCause.isSome = true ∨ ¬RasterHit a (s.order c.order) i ∨ (s.order c.order).prints = false) :
    ((killRasters a s).printer p).copy = some c := by
  have same : (if (s.order c.order).prints = true then c.marked c.order (markedItems (s.order c.order) a) s.clock else c) = c := by
    split
    next prints =>
      unfold Copy.marked
      split
      next both =>
        obtain aborts | missed | idle := left
        · exact if_pos aborts
        · obtain ⟨j, at', hit⟩ := mem_markedItems.1 (List.contains_iff_mem.1 both.2)
          exact absurd (Option.some.inj (here.symm.trans at') ▸ hit) missed
        · exact absurd (idle.symm.trans prints) (by simp)
      · rfl
    · rfl
  rw [copy_after copy, same]

/-- R98: a copy of a marked item is aborted, its abort sent and what its printer asked for withdrawn. -/
theorem copy_aborted (prints : (s.order c.order).prints = true) (hit : RasterHit a (s.order c.order) i) (runs : c.abortCause = none) :
    ((killRasters a s).printer p).copy = some { c with abortCause := some .aborted, abortDeadline := some (s.clock + 2#32), beginWait := none }
      ∧ .abortCopy p c.id ∈ (killRasters a s).out ∧ look (killRasters a s).port.lines (requesterIndex (.printer p)) = [] := by
  have marked : (markedItems (s.order c.order) a).contains c.item = true := List.contains_iff_mem.2 (mem_markedItems.2 ⟨i, here, hit⟩)
  have now := copy_after (a := a) copy
  rw [if_pos prints, Copy.marked, if_pos ⟨rfl, marked⟩, Copy.aborting, runs] at now
  refine ⟨now, ?_⟩
  have told : AbortTold p c (killRasters a s) := killRasters_law a s (AbortTold p c)
    (fun o marks u told => told_markEffect runs told marks) (.inl copy)
  refine told.resolve_left fun goesOn => ?_
  have same := Option.some.inj (goesOn.symm.trans now)
  have aborts := congrArg Copy.abortCause same
  rw [runs] at aborts
  exact absurd aborts (by simp)

end Copies

end Rasters

end Sys2Proof.Machine
end

section
/-! SUPPORT. What an aperture's fault does to the reads and to the price load, and how a requester is told of what is held back
(R49, R119, R122, R157). -/

namespace Sys2Proof.Machine

/-! ## The outcomes a requester is told (R157) -/

section Tell
variable {q : Requester} {front back : List Granted}

/-- R157: what a requester is told of a transfer. -/
def toldOf (q : Requester) (g : Granted) : Option (Transfer × TransferOutcome) :=
  if g.transfer.requester = q then g.outcome.map fun o => (g.transfer, o) else none

theorem tellable_stops (stops : ∀ g, back.head? = some g → g.transfer.requester = q ∧ g.outcome = none) :
    tellable q back = [] ∧ dropTold q back = back := by
  cases back with
  | nil => exact ⟨rfl, rfl⟩
  | cons g rest =>
    obtain ⟨own, waits⟩ := stops g rfl
    simp only [tellable, dropTold, if_pos own, waits, and_self]

theorem tellable_front (ended : ∀ g ∈ front, g.transfer.requester = q → g.outcome.isSome = true)
    (stops : ∀ g, back.head? = some g → g.transfer.requester = q ∧ g.outcome = none) :
    tellable q (front ++ back) = front.filterMap (toldOf q)
      ∧ dropTold q (front ++ back) = (front.filter fun g => decide (g.transfer.requester ≠ q)) ++ back := by
  induction front with
  | nil => exact tellable_stops stops
  | cons g rest ih =>
    obtain ⟨told, left⟩ := ih fun x mem => ended x (List.mem_cons_of_mem g mem)
    rw [List.cons_append, tellable, dropTold, List.filterMap_cons, List.filter_cons]
    by_cases own : g.transfer.requester = q
    · obtain ⟨o, outcome⟩ := Option.isSome_iff_exists.1 (ended g List.mem_cons_self own)
      have first : toldOf q g = some (g.transfer, o) := by
        rw [toldOf, if_pos own, outcome]
        rfl
      have other : ¬decide (g.transfer.requester ≠ q) = true := by simpa using own
      rw [first, if_pos own, if_pos own, if_neg other]
      simp only [outcome]
      exact ⟨congrArg _ told, left⟩
    · have first : toldOf q g = none := if_neg own
      rw [first, if_neg own, if_neg own, if_pos (by simpa using own)]
      exact ⟨told, congrArg _ left⟩

theorem tellRequester_front {s : State} (granted : s.port.granted = front ++ back)
    (ended : ∀ g ∈ front, g.transfer.requester = q → g.outcome.isSome = true)
    (stops : ∀ g, back.head? = some g → g.transfer.requester = q ∧ g.outcome = none) :
    tellRequester q s = tellAll (front.filterMap (toldOf q))
      (s.ungranted ((front.filter fun g => decide (g.transfer.requester ≠ q)) ++ back)) := by
  obtain ⟨told, left⟩ := tellable_front ended stops
  have port : (s.onPort fun p => { p with granted := dropTold q p.granted })
      = s.ungranted ((front.filter fun g => decide (g.transfer.requester ≠ q)) ++ back) :=
    congrArg (fun l => { s with port := { s.port with granted := l } }) (by rw [granted, left])
  unfold tellRequester tellAll
  rw [port, granted, told]

/-- R157: behind a transfer of its own that is in progress a requester is told nothing. -/
theorem tellRequester_held {s : State} {before after : List Granted} {g : Granted} (granted : s.port.granted = before ++ g :: after)
    (own : g.transfer.requester = q) (others : ∀ x ∈ before, x.transfer.requester ≠ q) (waits : g.outcome = none) :
    tellRequester q s = s := by
  obtain ⟨none, same⟩ := tellable_stops (q := q) (back := g :: after) fun x first => by
    obtain rfl := Option.some.inj first
    exact ⟨own, waits⟩
  unfold tellRequester
  rw [granted, tellable_others others, none]
  have left : dropTold q s.port.granted = s.port.granted := by rw [granted, dropTold_others others, same]
  exact congrArg (fun l => { s with port := { s.port with granted := l } }) left

end Tell

/-! ## The reads of a bay (R119, R122) -/

section Reads
variable {a : ApertureId} {b : BayId} {s : State}

/-- R122: a read has a live buffer in the aperture. -/
theorem readAreas_pos {r : Read} : readAreas a r ≠ 0 ↔
    (r.liveA = true ∧ r.apertureA = a) ∨ (r.mode = .alternate ∧ r.liveB = true ∧ r.apertureB = a) := by
  unfold readAreas
  by_cases first : r.liveA = true ∧ r.apertureA = a
  · simp only [if_pos first]
    exact ⟨fun _ => .inl first, fun _ => by omega⟩
  · by_cases second : r.mode = .alternate ∧ r.liveB = true ∧ r.apertureB = a
    · simp only [if_neg first, if_pos second]
      exact ⟨fun _ => .inr second, fun _ => by omega⟩
    · simp only [if_neg first, if_neg second]
      exact ⟨fun ne => absurd rfl ne, fun both => (both.elim first second).elim⟩

/-- R152: a read with its buffers in the aperture dead. -/
def Read.unbuffered (a : ApertureId) (r : Read) : Read :=
  { r with liveA := r.liveA && r.apertureA != a, liveB := r.liveB && r.apertureB != a }

theorem killAreas_ended {r : Read} (hit : readAreas a r ≠ 0) (ends : r.ended.isSome = true ∨ r.mark.isSome = true) :
    killAreas a r = r.unbuffered a := by
  unfold killAreas
  rw [if_neg hit, if_pos ends]
  rfl

theorem killAreas_goesOn {r : Read} (hit : readAreas a r ≠ 0) (ended : r.ended = none) (mark : r.mark = none) :
    killAreas a r = { r.unbuffered a with faultedAperture := some a } := by
  have open' : ¬(r.ended.isSome = true ∨ r.mark.isSome = true) := by rw [ended, mark]; decide
  unfold killAreas
  rw [if_neg hit, if_neg open']
  rfl

theorem onActive_some {r : Read} (active : (s.bay b).active = some r) (f : Read → Read) :
    s.onActive b f = s.onBay b fun y => { y with active := some (f r) } :=
  onBay_congr s b (by rw [active]; rfl)

theorem waitingKilled_none (missed : ∀ r, (s.bay b).active = some r → readAreas a r = 0) : killReads a b s = waitingKilled a b s := by
  rw [killReads_eq, activeKilled]
  obtain ⟨same, -⟩ := waitingKilled_bay a b s
  cases active : (s.bay b).active with
  | none => rw [same.trans active]
  | some r =>
    rw [same.trans active]
    exact if_pos (missed r active)

section Active
variable {r : Read} (active : (s.bay b).active = some r) (hit : readAreas a r ≠ 0)
include active hit

theorem killReads_active : killReads a b s =
    if r.ended.isSome = true then
      bayAdvance b ((((waitingKilled a b s).onActive b (killAreas a)).onBay b fun y =>
        { y with half0 := discardFull y.half0, half1 := discardFull y.half1 }).withdraw (.bay b))
    else if r.mark.isSome = true then (waitingKilled a b s).onActive b (killAreas a)
    else windDown b .transferFault ((waitingKilled a b s).onActive b (killAreas a)) := by
  obtain ⟨same, -⟩ := waitingKilled_bay a b s
  rw [killReads_eq, activeKilled, same.trans active]
  exact if_neg hit

theorem killReads_goesOn (ended : r.ended = none) (mark : r.mark = none) : killReads a b s = windDown b .transferFault
    ((waitingKilled a b s).onBay b fun y => { y with active := some { r.unbuffered a with faultedAperture := some a } }) := by
  obtain ⟨same, -⟩ := waitingKilled_bay a b s
  rw [killReads_active active hit, ended, mark, onActive_some (same.trans active), killAreas_goesOn hit ended mark]
  rfl

theorem killReads_marked (ended : r.ended = none) (mark : r.mark.isSome = true) :
    killReads a b s = (waitingKilled a b s).onBay b fun y => { y with active := some (r.unbuffered a) } := by
  obtain ⟨same, -⟩ := waitingKilled_bay a b s
  rw [killReads_active active hit, if_neg (by rw [ended]; decide), if_pos mark, onActive_some (same.trans active),
    killAreas_ended hit (.inr mark)]

theorem killReads_ended (ended : r.ended.isSome = true) : killReads a b s = bayAdvance b
    (((waitingKilled a b s).onBay b fun y =>
      { y with active := some (r.unbuffered a), half0 := discardFull y.half0, half1 := discardFull y.half1 }).withdraw (.bay b)) := by
  obtain ⟨same, -⟩ := waitingKilled_bay a b s
  rw [killReads_active active hit, if_pos ended, onActive_some (same.trans active), killAreas_ended hit (.inl ended), onBay_onBay]

end Active

/-- R119, R158: every FULL half of a read whose areas die is dropped as it winds down. -/
theorem windDown_transferFault {r : Read} (active : (s.bay b).active = some r) : windDown b .transferFault s = bayAdvance b
    { (s.onBay b fun y =>
        { y with active := some { r with ended := some .transferFault, mark := none }, run := .idle, block := .stopped,
                 giveBackWait := false, waitLength := 0, waitLimit := false,
                 half0 := if y.half0.state = .writing then y.half0 else Half.reset,
                 half1 := if y.half1.state = .writing then y.half1 else Half.reset }) with
      out := if ((s.bay b).run = .running ∨ (s.bay b).run = .clockStopped) ∧ (s.bay b).card.isSome = true then s.out ++ [.halt b] else s.out,
      port := { s.port with lines := upd s.port.lines (requesterIndex (.bay b)) fun _ => [] } } := by
  have drops : ∀ h v, endHalf .transferFault r h v = if v.state = .writing then v else Half.reset := fun h v =>
    endHalf_drops (by decide) (by decide)
  have notFull : ((s.bay b).wound .transferFault r).half (writeHalf r) = endHalf .transferFault r (writeHalf r) ((s.bay b).half (writeHalf r)) := by
    unfold Bay.half Bay.wound
    split
    next zero => rw [zero]
    next other => rw [show writeHalf r = 1 by omega]
  have port : (((s.bay b).wound .transferFault r).half (writeHalf r)).state ≠ .full := by
    rw [notFull, drops]
    split
    next writing => rw [writing]; decide
    · decide
  rw [windDown_eq active, wound, if_neg port]
  have bay : s.onBay b (Bay.wound .transferFault r) = s.onBay b fun y =>
      { y with active := some { r with ended := some .transferFault, mark := none }, run := .idle, block := .stopped,
               giveBackWait := false, waitLength := 0, waitLimit := false,
               half0 := if y.half0.state = .writing then y.half0 else Half.reset,
               half1 := if y.half1.state = .writing then y.half1 else Half.reset } := by
    refine onBay_congr s b ?_
    rw [Bay.wound, drops, drops]
  rw [bay]

end Reads

/-! ## The price load (R49) -/

section LoadFault
variable {a : ApertureId} {s : State} {l : Load}

/-- R49, R51: State once a load has ended TRANSFER_FAULT. -/
def loadFaulted (l : Load) (s : State) : State :=
  { (s.onSlot l.slot fun c =>
      { c with state := .done, status := .transferFault, reason := .none, completedAt := s.clock, body := .loadFault l.aperture }) with
    attnDone := true,
    price := { s.price with load := none, last := some { outcome := .transferFault, clock := s.clock, failure := none },
                            loadFailedLatched := true } }

theorem faultLoad_taken (taken : (s.slot l.slot).state = .taken) : faultLoad l s = loadFaulted l s := by
  rw [faultLoad, endLoad_taken taken, loadFaulted, show (s.price.loadFailedLatched || LoadOutcome.transferFault == .format
    || LoadOutcome.transferFault == .transferFault) = true from Bool.or_true _]

variable (load : s.price.load = some l)
include load

theorem killLoad_left (left : l.aperture ≠ a ∨ l.areaDead = true) : killLoad a s = s := by
  unfold killLoad
  rw [load]
  exact if_neg fun both => left.elim (fun ne => ne both.1) fun dead => by simp [dead] at both

theorem killLoad_struck (own : l.aperture = a) (alive : l.areaDead = false) : killLoad a s =
    if l.fetching = true then { s with price := { s.price with load := some { l with areaDead := true } } } else faultLoad l s := by
  unfold killLoad
  rw [load]
  exact if_pos ⟨own, alive⟩

theorem imageFailed_load : imageFailed s = faultLoad l s := by
  unfold imageFailed
  rw [load]

theorem imageArrived_dead (dead : l.areaDead = true) (image : List Byte) : imageArrived image s = faultLoad l s := by
  unfold imageArrived
  rw [load]
  exact if_pos dead

end LoadFault

end Sys2Proof.Machine
end

section
/-! SUPPORT. The fault of an aperture at every owner of an area in it (R40, R49, R91, R98, R119, R122, R152, R155, R157 to R159). -/

namespace Sys2Proof.Machine

theorem reads_of_hit {a : ApertureId} {b : BayId} {s : State} {hit : Read → Bool}
    (hits : ∀ r, hit r = true ↔ (r.liveA = true ∧ r.apertureA = a) ∨ (r.mode = .alternate ∧ r.liveB = true ∧ r.apertureB = a)) :
    forEach ((s.bay b).waiting.filter hit) (fun r u => endWaitingRead b .transferFault { r with faultedAperture := some a } u) s
      = waitingKilled a b s := by
  have same : hit = fun r => readAreas a r != 0 := funext fun r => Bool.eq_iff_iff.2 <| by
    rw [hits, bne_iff_ne]
    exact readAreas_pos.symm
  have ended := forEach_map (fun r : Read => { r with faultedAperture := some a }) (endWaitingRead b .transferFault)
    ((s.bay b).waiting.filter hit) s
  rw [ended, same]
  rfl

theorem finishedPrinting_left {r : Order} (remains : ∃ i ∈ r.items, (i.state ≠ .done ∧ i.state ≠ .unprintable) ∨ i.inFlight ≠ 0) :
    finishedPrinting r = false := by
  obtain ⟨i, mem, open'⟩ := remains
  refine Bool.eq_false_iff.2 fun all => ?_
  have here := List.all_eq_true.1 all i mem
  simp only [Bool.and_eq_true, Bool.or_eq_true, beq_iff_eq] at here
  obtain ⟨ended, idle⟩ := here
  exact open'.elim (fun ⟨notDone, printable⟩ => ended.elim notDone printable) fun busy => busy idle

/-- R40: what becomes of an order with copies to print is the settlement check of it with its marks set. -/
theorem order_checked {a : ApertureId} {s : State} {o : OrderId} (prints : (s.order o).prints = true)
    (struck : ∃ i ∈ (s.order o).items, RasterHit a (s.order o) i) :
    (killRasters a s).order o = (settlementCheck o (s.onOrder o (Order.struck a))).order o := by
  have now : (s.onOrder o (Order.struck a)).order o = (s.order o).struck a := order_onOrder_same ..
  obtain ⟨check, -⟩ := tables_settlementCheck o (s.onOrder o (Order.struck a)) (by rw [now]; exact prints)
  rw [check, now]
  exact order_printing struck prints

theorem pending_killRasters {a : ApertureId} {s : State} {e : PendingSettlement} (mem : e ∈ s.terminal.pendingSettlements) :
    e ∈ (killRasters a s).terminal.pendingSettlements :=
  killRasters_law a s (fun u => e ∈ u.terminal.pendingSettlements) (fun _ marks _ => pending_markEffect marks) mem

/-- R35: an order that its marks settle has its settlement wait. -/
theorem waits_killRasters {a : ApertureId} {s : State} {o : OrderId} (prints : (s.order o).prints = true) :
    SettlementWaits o (killRasters a s) := by
  refine killRasters_law a s (SettlementWaits o) (fun _ marks _ => waits_markEffect marks) fun settling => ?_
  have state : (s.order o).state = .settling := (congrArg Order.state (order_struck (a := a) (s := s) o)).symm.trans settling
  exact absurd prints (by simp [Order.prints, state])

/-- Settles O48. -/
theorem faultsReachEveryOwner : Obligations.FaultsReachEveryOwner := by
  unfold Obligations.FaultsReachEveryOwner
  refine ⟨fun s index g failed c cause run place runs isFailed fails => ?_, fun s q before after g granted own others => ⟨fun waits => ?_,
      fun o ended later => ?_⟩, fun s q front back granted ended stops => ?_, fun x cause s u => ⟨faultAperture_inactive, fun on isU => ?_⟩,
    fun a s t hit marked isT hits marks => ?_, fun a b s t hit dead hits isDead isT => ?_, fun b s r => ⟨fun taken => ?_, fun active => ?_,
      fun x h blocks cause own purpose => ?_⟩, fun a s => ⟨fun unloaded => ?_, fun l load => ⟨killLoad_left load, fun own alive fetching => ?_,
        fun taken ended isEnded => ⟨fun own alive waits => ?_, fun x image cause own purpose => ⟨?_, fun dead => ?_⟩⟩⟩⟩⟩
  case refine_1 =>
    subst isFailed
    exact thenSettles_fails place runs run fails
  case refine_2 => exact tellRequester_held granted own others waits
  case refine_3 => exact tellRequester_first others later granted own ended
  case refine_4 => exact tellRequester_front granted ended stops
  case refine_5 =>
    subst isU
    exact faultAperture_active on
  case refine_6 =>
    subst isT
    have hitIff : ∀ r i, hit r i ↔ RasterHit a r i := fun r i => (hits r i).trans rasterHit_iff.symm
    have struck : ∀ r : Order, r.items.map (markItem r a) = marked r := fun r => by
      obtain ⟨length, items⟩ := marks r
      exact map_markItem length fun k i here => ⟨fun hit => (items k i here).1 ((hitIff r i).2 hit),
        fun missed => (items k i here).2 fun h => missed ((hitIff r i).1 h)⟩
    have kept : (killRasters a s).unmarked = s.unmarked :=
      (killRasters_keeps a s State.unmarked fun o marks u => unmarked_markEffect o marks u).trans rfl
    have struckOrder : ∀ r : Order, r.struck a = { r with items := marked r } := fun r => by rw [Order.struck, struck]
    simp only [hitIff]
    refine ⟨fun o => ⟨fun priced paid printing held => ?_, fun missed => order_missed missed, fun priced some => ?_, fun state some => ?_,
      fun k i noted here hit => note_struck noted here hit⟩, fun p idle => copy_none idle, fun p c i copy here => ⟨fun state hit runs => ?_,
      fun left => ?_⟩, fun e mem => pending_killRasters mem, (congrArg State.bays kept :), (congrArg State.slots kept :),
      (congrArg State.stock kept :), (congrArg State.price kept :), (congrArg State.apertures kept :)⟩
    case refine_1 =>
      have idle : (s.order o).prints = false := Bool.eq_false_iff.2 fun works =>
        (prints_iff.1 works).elim paid fun rest => rest.elim printing held
      rw [order_kept priced idle, struckOrder]
    case refine_2 =>
      rw [order_unpriced some priced, struckOrder]
      rfl
    case refine_3 =>
      have prints := prints_iff.2 state
      have checked := order_checked prints some
      have same : s.onOrder o (Order.struck a) = s.onOrder o fun r => { r with items := marked (s.order o) } :=
        congrArg (fun v => { s with orders := v }) (upd_congr _ _ _ _ (struckOrder (s.order o)))
      refine ⟨by rw [checked, same], waits_killRasters prints, fun remains => ?_⟩
      rw [order_printing some prints, struckOrder, if_neg (Bool.eq_false_iff.1 (finishedPrinting_left remains))]
    case refine_4 => exact copy_aborted copy here (prints_iff.2 state) hit runs
    case refine_5 =>
      refine copy_left copy here (left.imp id (Or.imp id fun ⟨paid, printing, held⟩ => Bool.eq_false_iff.2 fun works => ?_))
      exact (prints_iff.1 works).elim paid fun rest => rest.elim printing held
  case refine_7 =>
    have ended : t = waitingKilled a b s := isT.trans (reads_of_hit hits)
    have struck : ∀ r, readAreas a r ≠ 0 ↔ hit r = true := fun r => readAreas_pos.trans (hits r).symm
    have isDead : ∀ r, dead r = r.unbuffered a := isDead
    subst ended
    simp only [isDead]
    refine ⟨fun missed => waitingKilled_none fun r active => ?_, fun r active isHit => ⟨killReads_goesOn active ((struck r).2 isHit),
      killReads_marked active ((struck r).2 isHit), killReads_ended active ((struck r).2 isHit)⟩⟩
    refine Classical.byContradiction fun live => ?_
    exact Bool.false_ne_true ((missed r active).symm.trans ((struck r).1 live))
  case refine_8 => exact endWaitingRead_taken taken
  case refine_9 => exact windDown_transferFault active
  case refine_10 =>
    unfold tellOne
    rw [own, purpose]
    refine congrArg (bayAdvance b) (onBay_congr s b ?_)
    unfold Bay.setHalf
    split <;> rfl
  case refine_11 =>
    unfold killLoad
    rw [unloaded]
  case refine_12 =>
    rw [killLoad_struck load own alive, if_pos fetching]
  case refine_13 =>
    rw [killLoad_struck load own alive, if_neg (by rw [waits]; decide), faultLoad_taken taken, isEnded]
    rfl
  case refine_14 =>
    unfold tellOne
    rw [own, purpose, isEnded]
    exact (imageFailed_load load).trans (faultLoad_taken taken)
  case refine_15 =>
    unfold tellOne
    rw [own, purpose, isEnded]
    exact (imageArrived_dead load dead image).trans (faultLoad_taken taken)

end Sys2Proof.Machine
end
